-- ==== Sys2Proof/Word.lean ====
section
/-! DEFINITION. The words of the JK-60: bytes, the 16- and 32-bit numbers of the layouts, and the wall-counter difference every period is judged by. -/

namespace Sys2Proof

/-- A byte of a frame, of the copy store or of the typesetter stream. -/
abbrev Byte := BitVec 8

/-- A two-byte number of the layouts (R175). -/
abbrev Word16 := BitVec 16

/-- A wall counter value, or a four-byte number (R97, R175). -/
abbrev Word32 := BitVec 32

/-- The ticks from `start` to `now`. Every period is judged by this difference, so one that spans the wrap of the
wall counter ends when it should (R97). -/
def elapsed (now start : Word32) : Nat := (now - start).toNat

/-- The n-th byte value, for writing byte lists. -/
abbrev byte (n : Nat) : Byte := BitVec.ofNat 8 n

end Sys2Proof
end

