-- ==== Sys2Proof/Syntax.lean ====
section
/-! DEFINITION. The commands and events of the JK-60: one constructor of `Instr` for each row of spec/opcode_table.json, with the parameters of a command frame at the widths of R175. -/

namespace Sys2Proof

/-- A desk port, 0 to 5. -/
abbrev PortId := Fin 6
/-- A story slot, 0 to 1023. -/
abbrev SlotId := Fin 1024
/-- A deadline channel, 0 to 15. -/
abbrev ChannelId := Fin 16

/-- A typesetter link. -/
inductive LinkId where
  | a
  | b
  deriving DecidableEq, Repr

/-- The 49 commands of the catalogue (spec/09 9.10), in its order. -/
inductive Cmd where
  | file | find | describe | reclassify | route | spike | restore | purge | read | storeStatus
  | checkout | renew | abandon | checkin | breakLock | offer | accept | decline | withdraw | collect
  | filter | mask | watch | unwatch | clockStart | clockStop | turn | editionLength | deadline | channel
  | clockStatus | page | place | unplace | release | recall | pageStatus | links | feedStatus | attach
  | reattach | portStatus | settings | save | dump | hold | unhold | restart | identify
  deriving DecidableEq, Repr

/-- The port a command frame came in on and the tag it carries (R155). -/
structure Head where
  port : PortId
  tag : Byte
  deriving DecidableEq, Repr

/-- A handle as a payload carries it: slot in two bytes, then generation (R175). -/
structure HandleArg where
  slot : Word16
  gen : Byte
  deriving DecidableEq, Repr

/-- FILE (R7): an absent route plan is the empty list. -/
structure FileArgs where
  slug : List Byte
  owner : Byte
  urgency : Byte
  category : Word16
  screen : Byte
  route : List Byte
  length : Word16
  deriving DecidableEq, Repr

/-- RECLASSIFY (R12): none is "keep". -/
structure ReclassifyArgs where
  handle : HandleArg
  urgency : Option Byte
  category : Option Word16
  deriving DecidableEq, Repr

/-- ROUTE (R13). -/
structure RouteArgs where
  handle : HandleArg
  route : List Byte
  deriving DecidableEq, Repr

/-- READ (R35): none is "current". -/
structure ReadArgs where
  handle : HandleArg
  version : Option Word16
  deriving DecidableEq, Repr

/-- CHECKOUT, RENEW and ABANDON (R42, R44, R45), WATCH and UNWATCH (R93, R94). -/
structure ScreenArgs where
  screen : Byte
  handle : HandleArg
  deriving DecidableEq, Repr

/-- CHECKIN (R46). -/
structure CheckinArgs where
  screen : Byte
  handle : HandleArg
  length : Word16
  keep : Byte
  deriving DecidableEq, Repr

/-- OFFER (R61): none is "next on route". -/
structure OfferArgs where
  handle : HandleArg
  target : Option Byte
  note : Byte
  deriving DecidableEq, Repr

/-- ACCEPT and WITHDRAW (R65, R67). -/
structure DeskArgs where
  handle : HandleArg
  desk : Byte
  deriving DecidableEq, Repr

/-- DECLINE (R66). -/
structure DeclineArgs where
  handle : HandleArg
  desk : Byte
  note : Byte
  deriving DecidableEq, Repr

/-- FILTER (R90). -/
structure FilterArgs where
  number : Byte
  enabled : Byte
  mask : Byte
  desk : Byte
  urgency : Byte
  category : Word16
  destinations : Byte
  deriving DecidableEq, Repr

/-- MASK (R91). -/
structure MaskArgs where
  number : Byte
  compareDesk : Byte
  compareUrgency : Byte
  categoryBits : Byte
  deriving DecidableEq, Repr

/-- TURN (R102): none is "current". -/
structure TurnArgs where
  edition : Option Byte
  deriving DecidableEq, Repr

/-- DEADLINE (R107). -/
structure DeadlineArgs where
  channel : Byte
  deadline : Word16
  deriving DecidableEq, Repr

/-- CHANNEL (R108). -/
structure ChannelArgs where
  channel : Byte
  bufferMode : Byte
  warnLead : Word16
  releaseMode : Byte
  lateInterval : Word16
  lateDivisor : Byte
  deriving DecidableEq, Repr

/-- The action of PAGE (R119): a binding of none is "none"; `other` is a byte that is neither action. -/
inductive PageAction where
  | define (letter number owner : Byte) (binding : Option Byte)
  | undefine
  | other (code : Byte)
  deriving DecidableEq, Repr

/-- PAGE (R119). -/
structure PageArgs where
  page : Byte
  action : PageAction
  deriving DecidableEq, Repr

/-- PLACE (R120): a position of none is "end". -/
structure PlaceArgs where
  page : Byte
  handle : HandleArg
  position : Option Byte
  frame : List Byte
  deriving DecidableEq, Repr

/-- UNPLACE (R121). -/
structure UnplaceArgs where
  page : Byte
  position : Byte
  deriving DecidableEq, Repr

/-- RELEASE (R122). -/
structure ReleaseArgs where
  page : Byte
  rush : Byte
  deriving DecidableEq, Repr

/-- PAGE STATUS (R134): none is "queue". -/
structure PageStatusArgs where
  page : Option Byte
  deriving DecidableEq, Repr

/-- LINKS (R150). -/
structure LinksArgs where
  enableA : Byte
  enableB : Byte
  home : Byte
  deriving DecidableEq, Repr

/-- PORT STATUS (R166): none is "own". -/
structure PortStatusArgs where
  port : Option Byte
  deriving DecidableEq, Repr

/-- SETTINGS (R168): the group's fields in the order of R167; a serving port of none is "none"; `other` is any group
name that SETTINGS does not write. -/
inductive SettingsArgs where
  | ports (privileges : List Byte) (serving : List (Option Byte)) (labels : List (List Byte))
  | feed (stallWindow settlePeriod attemptLimit paceWindow paceMode : Byte)
  | store (low high lease offerWindow : Word16)
  | other (group : Byte)
  deriving DecidableEq, Repr

/-- The commands and events of the switch, one constructor for each row of spec/opcode_table.json. A command frame
carries its port and tag, and its parameters, `none` standing for a payload that has not the layout of its command (R175). -/
inductive Instr where
  -- The Story Directory
  | file (h : Head) (a : Option FileArgs)
  | find (h : Head) (slug : Option (List Byte))
  | describe (h : Head) (a : Option HandleArg)
  | reclassify (h : Head) (a : Option ReclassifyArgs)
  | route (h : Head) (a : Option RouteArgs)
  | spike (h : Head) (a : Option HandleArg)
  | restore (h : Head) (a : Option HandleArg)
  | purge (h : Head) (a : Option HandleArg)
  -- The Copy Store
  | read (h : Head) (a : Option ReadArgs)
  | storeStatus (h : Head) (a : Option Unit)
  -- Edit Custody
  | checkout (h : Head) (a : Option ScreenArgs)
  | renew (h : Head) (a : Option ScreenArgs)
  | abandon (h : Head) (a : Option ScreenArgs)
  | checkin (h : Head) (a : Option CheckinArgs)
  | leaseExpiry (slot : SlotId)
  | breakLock (h : Head) (a : Option HandleArg)
  -- Passing Copy Between Desks
  | offer (h : Head) (a : Option OfferArgs)
  | accept (h : Head) (a : Option DeskArgs)
  | decline (h : Head) (a : Option DeclineArgs)
  | withdraw (h : Head) (a : Option DeskArgs)
  | offerExpiry (slot : SlotId)
  -- Notices, Filters and Watches
  | collect (h : Head) (count : Option Byte)
  | filter (h : Head) (a : Option FilterArgs)
  | mask (h : Head) (a : Option MaskArgs)
  | watch (h : Head) (a : Option ScreenArgs)
  | unwatch (h : Head) (a : Option ScreenArgs)
  -- The Edition Clock and Deadline Channels
  | tick
  | editionTurn
  | clockStart (h : Head) (a : Option Unit)
  | clockStop (h : Head) (a : Option Unit)
  | turn (h : Head) (a : Option TurnArgs)
  | editionLength (h : Head) (length : Option Word16)
  | deadline (h : Head) (a : Option DeadlineArgs)
  | channel (h : Head) (a : Option ChannelArgs)
  | warningPoint (c : ChannelId)
  | deadlineMatch (c : ChannelId)
  | lateTick (c : ChannelId)
  | clockStatus (h : Head) (a : Option Unit)
  -- Pages and Release
  | page (h : Head) (a : Option PageArgs)
  | place (h : Head) (a : Option PlaceArgs)
  | unplace (h : Head) (a : Option UnplaceArgs)
  | release (h : Head) (a : Option ReleaseArgs)
  | recall (h : Head) (page : Option Byte)
  | pageStatus (h : Head) (a : Option PageStatusArgs)
  -- The Typesetting Feed
  | readyLineRise (l : LinkId)
  | readyLineFall (l : LinkId)
  | linkSettled (l : LinkId)
  | linkStall (l : LinkId)
  | pageStart
  | takeStrobe (l : LinkId)
  | typesetterAccept (l : LinkId)
  | typesetterReject (l : LinkId)
  | paceWindowClose
  | links (h : Head) (a : Option LinksArgs)
  | feedStatus (h : Head) (a : Option Unit)
  -- Desk Ports and the Command Exchange
  | dataFrame (p : PortId) (tag : Byte) (text : List Byte)
  | dataWindowLapse (p : PortId)
  | resultDataFrameSent (p : PortId)
  | holdLineRise (p : PortId)
  | holdLineFall (p : PortId)
  | resultWindowLapse (p : PortId)
  | frameFault (p : PortId)
  | frameGapTimeout (p : PortId)
  | unexpectedFrame (p : PortId) (kind : Byte)
  | unknownCommand (h : Head) (code : Option Byte)
  | attach (h : Head) (a : Option Unit)
  | reattach (h : Head) (port : Option Byte)
  | portResetLineRise (p : PortId)
  | portResetLineFall (p : PortId)
  | portStatus (h : Head) (a : Option PortStatusArgs)
  -- Settings and Start-up
  | settings (h : Head) (a : Option SettingsArgs)
  | save (h : Head) (a : Option Unit)
  | saveWriteEnd
  | dump (h : Head) (a : Option Unit)
  | hold (h : Head) (groups : Option Byte)
  | unhold (h : Head) (groups : Option Byte)
  | restart (h : Head) (a : Option Unit)
  | identify (h : Head) (a : Option Unit)
  | powerOn
  | resetLineRise
  | startUpEnd
  deriving DecidableEq, Repr

end Sys2Proof
end

