-- ==== Sys2Proof/Decode.lean ====
section
/-! DEFINITION. The command that a word spells by the bits of spec/opcode_table.json. No row of this block's table has bits, so no word spells one; how a port's frames spell the rows stands in Machine/Wire.lean. -/

namespace Sys2Proof

/-- The command that a word spells: none, since no row of the table has bits. -/
def decodeTableWord (_nbits _w : Nat) : Option Instr := none

end Sys2Proof
end

