-- ==== Sys2Proof/Config.lean ====
section
/-! DEFINITION. The shared numbers of the manual (spec/00 'Shared numbers'), and the values the manual leaves open as constants with no body. -/

namespace Sys2Proof.Config

/-- Blocks of the copy store (R21). -/
abbrev blocks : Nat := 8192
/-- Bytes of one block (R21). -/
abbrev blockBytes : Nat := 512
/-- Versions on one story's list at most (R28). -/
abbrev versionLimit : Nat := 4
/-- Version numbers run 1 to this and then 1 again (R27). -/
abbrev versionNumberMax : Nat := 65535
/-- Desks on one route plan at most (R4). -/
abbrev routeLimit : Nat := 4
/-- Notices in one inbox at most (R77). -/
abbrev inboxLimit : Nat := 48
/-- The lost count saturates here (R81). -/
abbrev lostMax : Nat := 255
/-- Entries of the watch table at most (R92). -/
abbrev watchLimit : Nat := 512
/-- Placements of one page at most (R117). -/
abbrev placementLimit : Nat := 16
/-- Queue places, held by QUEUED and SENDING pages together (R125). -/
abbrev queuePlaces : Nat := 32
/-- Edition ticks do not go above this (R98, R108). -/
abbrev ticksMax : Nat := 65535
/-- Editions are numbered 1 to this and then 1 again (R98). -/
abbrev editionMax : Nat := 255
/-- The port data window in ticks (R158). -/
abbrev dataWindow : Nat := 16
/-- The port result window in ticks; it lapses when exceeded (R159). -/
abbrev resultWindow : Nat := 40
/-- The attach quiet period in ticks (R163). -/
abbrev quietPeriod : Nat := 16
/-- The end-of-page wait in ticks (R137). -/
abbrev endOfPageWait : Nat := 40
/-- A fault count from here on makes a port GUARDED (R161). -/
abbrev guardedFrom : Nat := 128
/-- An increase that would take the fault count above this detaches the port instead (R161). -/
abbrev faultMax : Nat := 255
/-- The step of every counted fault (R161). -/
abbrev faultStep : Nat := 8
/-- Text bytes of one frame at most (R158, R159). -/
abbrev frameBytes : Nat := 256
/-- Samples the pace meter keeps at most (R149). -/
abbrev paceSamples : Nat := 4
/-- Tries of the settings load (R172). -/
abbrev loadTries : Nat := 3
/-- The part code IDENTIFY reports (R173). -/
abbrev partCode : Nat := 60

/-- The revision letter of the part (R173): the manual prints none. DESIGN CHOICE, log entry 20; safe: nothing can be proved of its value. -/
opaque revisionLetter : Byte

/-- The place in the release queue that PAGE STATUS reports for a SENDING page (R134). The manual counts places among the
QUEUED pages (R122) and states none for a SENDING page: a free value, applied to the counter `free` of the state.
DESIGN CHOICE, log entry 19; safe. -/
opaque sendingPlace : Nat → Byte

end Sys2Proof.Config
end

