-- ==== Sys2Proof/Machine/Bank.lean ====
section
/-! DEFINITION. Containers: a bank of n like things with its length carried beside it, and a pair of like things, one for each typesetter link. -/

namespace Sys2Proof.Machine

/-- A fixed number of like things: ports, slots, channels, pages, filters, masks, desks. -/
structure Bank (n : Nat) (α : Type) where
  cells : List α
  size : cells.length = n
  deriving DecidableEq, Repr

/-- The same thing n times. -/
def Bank.replicate (n : Nat) (a : α) : Bank n α := ⟨List.replicate n a, by simp⟩

/-- The thing numbered i. -/
def Bank.get (b : Bank n α) (i : Fin n) : α := b.cells[i.val]'(by rw [b.size]; exact i.isLt)

/-- The bank with thing i replaced. -/
def Bank.set (b : Bank n α) (i : Fin n) (a : α) : Bank n α := ⟨b.cells.set i.val a, by simp [b.size]⟩

/-- The bank with thing i changed by f. -/
def Bank.modify (b : Bank n α) (i : Fin n) (f : α → α) : Bank n α := b.set i (f (b.get i))

/-- The bank with every thing changed by f. -/
def Bank.map (f : α → β) (b : Bank n α) : Bank n β := ⟨b.cells.map f, by simp [b.size]⟩

/-- The numbers, counted from k, of the members of a list that satisfy p, in ascending order. -/
def indicesFrom (p : α → Bool) : Nat → List α → List Nat
  | _, [] => []
  | k, a :: l => if p a then k :: indicesFrom p (k + 1) l else indicesFrom p (k + 1) l

/-- A number as an index below n, if it is one. -/
def finOf? (n k : Nat) : Option (Fin n) := if h : k < n then some ⟨k, h⟩ else none

/-- The numbers of the things that satisfy p, in ascending order. -/
def Bank.indices (p : α → Bool) (b : Bank n α) : List (Fin n) :=
  (indicesFrom p 0 b.cells).filterMap (finOf? n)

/-- Each member of a list, with its number counted from k, changed by f; numbers that are no index are left out. -/
def mapFrom (n : Nat) (f : Fin n → α → β) : (k : Nat) → (l : List α) → k + l.length = n → List β
  | _, [], _ => []
  | k, a :: l, h =>
    f ⟨k, by simp only [List.length_cons] at h; omega⟩ a ::
      mapFrom n f (k + 1) l (by simp only [List.length_cons] at h; omega)

theorem length_mapFrom (n : Nat) (f : Fin n → α → β) :
    ∀ (k : Nat) (l : List α) (h : k + l.length = n), (mapFrom n f k l h).length = l.length
  | _, [], _ => rfl
  | k, a :: l, h => by simp [mapFrom, length_mapFrom n f (k + 1) l]

/-- The bank with each thing changed by f, which is told the thing's number. -/
def Bank.mapIdx (f : Fin n → α → β) (b : Bank n α) : Bank n β :=
  ⟨mapFrom n f 0 b.cells (by simp [b.size]), by rw [length_mapFrom, b.size]⟩

/-- The numbers below n, ascending. -/
def allBelow (n : Nat) : List (Fin n) := (List.range n).filterMap (finOf? n)

/-- One thing for each typesetter link. -/
structure PerLink (α : Type) where
  a : α
  b : α
  deriving DecidableEq, Repr

/-- The thing of link l. -/
def PerLink.get (x : PerLink α) : LinkId → α
  | .a => x.a
  | .b => x.b

/-- The pair with link l's thing replaced. -/
def PerLink.set (x : PerLink α) : LinkId → α → PerLink α
  | .a, v => { x with a := v }
  | .b, v => { x with b := v }

/-- The pair with link l's thing changed by f. -/
def PerLink.modify (x : PerLink α) (l : LinkId) (f : α → α) : PerLink α := x.set l (f (x.get l))

/-- The pair with both things changed by f. -/
def PerLink.map (f : α → β) (x : PerLink α) : PerLink β := ⟨f x.a, f x.b⟩

end Sys2Proof.Machine

namespace Sys2Proof

/-- The other typesetter link. -/
def LinkId.other : LinkId → LinkId
  | .a => .b
  | .b => .a

end Sys2Proof
end

