-- ==== Sys2Proof/Machine/State.lean ====
section
/-! DEFINITION. Everything the manual gives the switch, as plain data, and the state right after power-on. -/

namespace Sys2Proof.Machine

/-! ### Names -/

/-- A desk D0 to D15. -/
abbrev DeskId := Fin 16
/-- A page slot, 0 to 127. -/
abbrev PageId := Fin 128
/-- A screen's number within its port, 0 to 63. -/
abbrev ScreenNo := Fin 64

/-- The urgency of a story and the class of a notice (spec/00 'Urgency'), lowest first. -/
inductive Urgency where
  | routine | priority | bulletin | flash
  deriving DecidableEq, Repr

/-- The result codes, in the order of spec/09 9.9, which numbers them (R175). -/
inductive Code where
  | ok | busy | checkError | starting | detached | badCommand | badParam | notPermitted | portGuarded | tooSoon
  | notDetached | dataTimeout | noStory | duplicate | tooMany | storeTight | storeFull | versionsPinned | noVersion
  | versionRetiring | storyBusy | notSpiked | lockedElsewhere | notHolder | notOpen | lockBroken | noRoute | sameDesk
  | noDesk | offerGone | noPage | pageBusy | emptyPage | queueFull | notQueued | editionPassed | lastControl
  deriving DecidableEq, Repr

/-- The kinds of notice, in the order of spec/05 5.2, which numbers them from 1 (spec/11 11.4). -/
inductive NoticeKind where
  | filed | upgraded | changed | gone | offered | offerTaken | offerDeclined | offerWithdrawn | offerExpired
  | lockLapsed | lockBroken | deadlineNear | atRisk | pageLate | releaseBlocked | pageFault | pageSent | linkSwitched
  | linkDown | linkReturned | storeTight | storeEased | portDetached | editionTurned
  deriving DecidableEq, Repr

/-- The reason codes, in the order that numbers them from 1 (spec/11 11.4). -/
inductive Reason where
  | newVersion | reclassified | spiked | restored | withdrawn | window | portDetached | rejected | stalled | linkA | linkB
  deriving DecidableEq, Repr

/-- A handle with its slot in range: slot and generation (spec/01 1.2). -/
structure Handle where
  slot : SlotId
  gen : Byte
  deriving DecidableEq, Repr

/-- A screen, port/screen (spec/00 'Screens'). -/
structure Screen where
  port : PortId
  number : ScreenNo
  deriving DecidableEq, Repr

/-! ### Story records (spec/01 R1) -/

/-- A version record (R27). -/
structure Version where
  number : Nat
  length : Nat
  chain : List Nat
  pins : Nat
  stamp : Word32
  author : Screen
  retiring : Bool
  deriving DecidableEq, Repr

/-- The lock of an OPEN story (R39); its lease expiry is `start` plus `length`. -/
structure Lock where
  holder : Screen
  start : Word32
  length : Nat
  suspended : Bool
  deriving DecidableEq, Repr

/-- The offer of an OFFERED story (R59); its expiry is `start` plus `length`. -/
structure Offer where
  target : DeskId
  port : PortId
  note : Byte
  start : Word32
  length : Nat
  deriving DecidableEq, Repr

/-- The state of a story that is not VACANT, with what belongs to that state alone: the lock while OPEN, the offer while
OFFERED, the purge-pending flag while SPIKED (R1). -/
inductive Status where
  | filing
  | filed
  | opened (lock : Lock)
  | offered (offer : Offer)
  | spiked (purgePending : Bool)
  deriving DecidableEq, Repr

/-- The fields of a record that is not VACANT (R1). The watcher count is the number of watch entries (R92). -/
structure Story where
  status : Status
  slug : List Byte
  owner : DeskId
  urgency : Urgency
  category : Nat
  versions : List Version
  route : List DeskId
  deriving DecidableEq, Repr

/-- One story record: a VACANT record holds its generation alone (R1). -/
structure Slot where
  gen : Byte
  story : Option Story
  deriving DecidableEq, Repr

/-! ### The copy store (spec/02) -/

/-- The accounts of the store (R21, R22) and the bytes of its blocks, by address (block × 512 + offset). -/
structure Store where
  freePool : List Nat
  freeCount : Nat
  reserved : Nat
  tight : Bool
  copy : List Host.Cell
  deriving DecidableEq, Repr

/-- The command an upload belongs to (R24), with what that command named for its completion (R25, R46). -/
inductive UploadKind where
  | file
  | checkin (keep : Bool)
  deriving DecidableEq, Repr

/-- FILLING or DRAINING (R24). -/
inductive UploadMode where
  | filling | draining
  deriving DecidableEq, Repr

/-- An upload record (R24); the port carrying it is the index it stands under. -/
structure Upload where
  kind : UploadKind
  handle : Handle
  declared : Nat
  taken : Nat
  staging : List Nat
  remaining : Nat
  victim : Option Nat
  mode : UploadMode
  author : Screen
  deriving DecidableEq, Repr

/-! ### Notices (spec/05) -/

/-- A notice (R74): kind, class and stamp always, the other fields where the kind has them. -/
structure Notice where
  kind : NoticeKind
  cls : Urgency
  stamp : Word32
  handle : Option Handle := none
  slug : Option (List Byte) := none
  version : Option Nat := none
  fromDesk : Option DeskId := none
  toDesk : Option DeskId := none
  page : Option PageId := none
  channel : Option ChannelId := none
  edition : Option Nat := none
  reason : Option Reason := none
  note : Option Byte := none
  screens : Option (List ScreenNo) := none
  deriving DecidableEq, Repr

/-- An inbox and its lost count (R77). -/
structure Inbox where
  notices : List Notice
  lost : Nat
  deriving DecidableEq, Repr

/-- An entry of the watch table (R92). -/
structure Watch where
  handle : Handle
  port : PortId
  screen : ScreenNo
  deriving DecidableEq, Repr

/-! ### Settings groups (spec/10 R167) -/

/-- The privilege of a port. -/
inductive Privilege where
  | desk | control
  deriving DecidableEq, Repr

/-- The PORTS group. -/
structure PortsGroup where
  privilege : Bank 6 Privilege
  serving : Bank 16 (Option PortId)
  label : Bank 16 (List Byte)
  deriving DecidableEq, Repr

/-- An acceptance filter (R87); bit n of the destination set is port n. -/
structure Filter where
  enabled : Bool
  mask : Fin 4
  desk : DeskId
  urgency : Urgency
  category : Nat
  destinations : BitVec 6
  deriving DecidableEq, Repr

/-- A filter mask (R87). -/
structure Mask where
  compareDesk : Bool
  compareUrgency : Bool
  categoryBits : Nat
  deriving DecidableEq, Repr

/-- The ROUTING group. -/
structure RoutingGroup where
  filters : Bank 24 Filter
  masks : Bank 4 Mask
  deriving DecidableEq, Repr

/-- When a buffered deadline becomes active (R104). -/
inductive BufferMode where
  | atTurn | direct
  deriving DecidableEq, Repr

/-- Whether and when a channel releases its group (R104). -/
inductive ReleaseMode where
  | manual | atDeadline | atTurn
  deriving DecidableEq, Repr

/-- The six settings of a deadline channel (R104). -/
structure ChannelSettings where
  deadline : Nat
  bufferMode : BufferMode
  warnLead : Nat
  releaseMode : ReleaseMode
  lateInterval : Nat
  lateDivisor : Nat
  deriving DecidableEq, Repr

/-- A page label: section letter and number (R117). -/
structure Label where
  letter : Byte
  number : Nat
  deriving DecidableEq, Repr

/-- The definition of a page: label, owner desk and channel binding (R117). -/
structure PageDef where
  label : Label
  owner : DeskId
  binding : Option ChannelId
  deriving DecidableEq, Repr

/-- The CLOCK group. Its edition length is the clock's buffered length (R98); a page slot is defined when its
definition is present (R117). -/
structure ClockGroup where
  editionLength : Nat
  channels : Bank 16 ChannelSettings
  pages : Bank 128 (Option PageDef)
  deriving DecidableEq, Repr

/-- How samples are reduced to a pace (R149). -/
inductive PaceMode where
  | single | average4
  deriving DecidableEq, Repr

/-- The FEED group. -/
structure FeedGroup where
  enable : PerLink Bool
  home : LinkId
  stallWindow : Nat
  settlePeriod : Nat
  attemptLimit : Nat
  paceWindow : Nat
  paceMode : PaceMode
  deriving DecidableEq, Repr

/-- The STORE group. -/
structure StoreGroup where
  low : Nat
  high : Nat
  lease : Nat
  offerWindow : Nat
  deriving DecidableEq, Repr

/-- The five settings groups, in the order of R167. -/
structure Groups where
  ports : PortsGroup
  routing : RoutingGroup
  clock : ClockGroup
  feed : FeedGroup
  store : StoreGroup
  deriving DecidableEq, Repr

/-- The five hold flags (R170). -/
structure Holds where
  ports : Bool
  routing : Bool
  clock : Bool
  feed : Bool
  store : Bool
  deriving DecidableEq, Repr

/-- A settings image whose write ended: contents and stored check word (R169, R178). -/
structure Image where
  contents : Groups
  check : Word32
  deriving DecidableEq, Repr

/-- A SAVE in progress: the copy being written, and the issuing port while its command stands (R169). -/
structure Saving where
  copy : Groups
  port : Option PortId
  deriving DecidableEq, Repr

/-- The cause of the last start-up (R171). -/
inductive StartCause where
  | powerOn | resetLine | restartCommand
  deriving DecidableEq, Repr

/-! ### The edition clock (spec/06) -/

/-- The edition clock (R98); the buffered length is the CLOCK group's edition length. -/
structure Clock where
  running : Bool
  ticks : Nat
  edition : Nat
  activeLength : Nat
  deriving DecidableEq, Repr

/-- The state of a deadline channel (R104). -/
inductive ChannelState where
  | quiet | warned | due | cleared
  deriving DecidableEq, Repr

/-- The running state of a deadline channel (R104). `warningDue`: the edition ticks have risen to the warning point and
the channel has not yet taken the event (R109; DEDUCED, log entry 10; safe). -/
structure Channel where
  active : Nat
  state : ChannelState
  lateCount : Nat
  nextLate : Option Nat
  atRisk : Bool
  warningDue : Bool
  deriving DecidableEq, Repr

/-! ### Pages (spec/07) -/

/-- The state of a page (R117). -/
inductive PageState where
  | making | queued | sending | sent | faulted
  deriving DecidableEq, Repr

/-- A placement: a story handle and its 16-byte layout frame (R117). -/
structure Placement where
  handle : Handle
  frame : List Byte
  deriving DecidableEq, Repr

/-- A snapshot entry (R123); no captured version is OMITTED. -/
structure Entry where
  handle : Handle
  frame : List Byte
  version : Option Nat
  length : Nat
  openAtRelease : Bool
  deriving DecidableEq, Repr

/-- The job of a QUEUED or SENDING page (R124); a queue key of none is "unbound". -/
structure Job where
  entries : List Entry
  edition : Nat
  length : Nat
  rush : Bool
  key : Option Nat
  order : Nat
  attempts : Nat
  stamp : Word32
  returned : Bool
  label : Label
  owner : DeskId
  binding : Option ChannelId
  deriving DecidableEq, Repr

/-- The fields of a page record beside its definition (R117). -/
structure Page where
  state : PageState
  lastSent : Nat
  layout : List Placement
  job : Option Job
  deriving DecidableEq, Repr

/-! ### The feed (spec/08) -/

/-- The line state of a link (R135). -/
inductive LinkState where
  | off | down | settling | up
  deriving DecidableEq, Repr

/-- What a link's engine is doing (R137). -/
inductive Engine where
  | idle | presenting | awaiting | voiding
  deriving DecidableEq, Repr

/-- A typesetter link (R135); its enable is the FEED group's. `voided` is the page slot and edition tag of the VOID
trailer being presented (spec/11 11.5), and `ready` the level of the ready line. -/
structure Link where
  state : LinkState
  settleStart : Word32
  engine : Engine
  page : Option PageId
  taken : Nat
  trailerTaken : Nat
  progress : Word32
  waitStart : Word32
  voided : Option (PageId × Nat)
  ready : Bool
  deriving DecidableEq, Repr

/-- An open pace window (R148). -/
structure PaceWindow where
  start : Word32
  length : Nat
  count : Nat
  deriving DecidableEq, Repr

/-- The pace meter (R148, R149); a pace of 0 is unknown. -/
structure Pace where
  window : Option PaceWindow
  samples : List Nat
  pace : Nat
  deriving DecidableEq, Repr

/-! ### Desk ports (spec/09) -/

/-- The phase of a port (R155). -/
inductive Phase where
  | idle | command | executing | result
  deriving DecidableEq, Repr

/-- The standing of a port (R154). -/
inductive Standing where
  | active | guarded | detached
  deriving DecidableEq, Repr

/-- The command a port is running (R154); its declared length and bytes taken are its upload record's (R24). -/
structure Running where
  tag : Byte
  cmd : Cmd
  deriving DecidableEq, Repr

/-- The result data a port still owes: text of a version from a byte offset (R35), notices (R84), or the remaining
frames of a report (R159). -/
inductive Stream where
  | read (handle : Handle) (version : Nat) (sent : Nat)
  | collect (owed : Nat)
  | report (frames : List (List Byte))
  deriving DecidableEq, Repr

/-- A desk port (R154), with the levels of its two input lines. -/
structure Port where
  phase : Phase
  running : Option Running
  faults : Nat
  standing : Standing
  dataStart : Word32
  holdStart : Option Word32
  quietStart : Word32
  stream : Option Stream
  holdLine : Bool
  resetLine : Bool
  deriving DecidableEq, Repr

/-! ### The last event -/

/-- A frame from the switch: kind, tag and payload (spec/11 11.1). -/
structure Frame where
  kind : Byte
  tag : Byte
  payload : List Byte
  deriving DecidableEq, Repr

/-- What leaves the switch: a frame on a port, or a stream byte a typesetter takes. -/
inductive Emission where
  | frame (p : PortId) (f : Frame)
  | byte (l : LinkId) (b : Byte)
  deriving DecidableEq, Repr

/-- The model's record of the last event: what left the switch in it, oldest first, and whether it returned blocks or
cancelled reservation, for the one eased test of R33. DESIGN CHOICE, log entry 11; safe. -/
structure LastEvent where
  sent : List Emission
  released : Bool
  deriving DecidableEq, Repr

/-! ### The switch -/

/-- Every piece of state the manual gives the switch, with the model's record of the last event and its counter of free
values (log entries 11, 19). -/
@[ext] structure Switch where
  wall : Word32
  clock : Clock
  channels : Bank 16 Channel
  slots : Bank 1024 Slot
  watches : List Watch
  inboxes : Bank 6 Inbox
  store : Store
  uploads : Bank 6 (Option Upload)
  pages : Bank 128 Page
  queue : List PageId
  sending : Option PageId
  releases : Nat
  links : PerLink Link
  active : LinkId
  pace : Pace
  ports : Bank 6 Port
  groups : Groups
  holds : Holds
  image : Option Image
  saving : Option Saving
  starting : Bool
  cause : StartCause
  defaulted : Bool
  last : LastEvent
  free : Nat
  deriving DecidableEq, Repr

/-- The machine: the switch, and the commands that wait, first in, first out. -/
structure State where
  sw : Switch
  pending : List Instr
  deriving DecidableEq, Repr

/-- What stops the machine with a fault: nothing does. The manual gives every command and event an effect. -/
inductive Fault where
  deriving DecidableEq, Repr

/-- Why a command has no meaning. -/
inductive Refusal where
  /-- A row of the table that the model has not reached. Raised by exec's arms alone, and at present by none. Safe: the
  machine stops where the hardware goes on. -/
  | notModelled (mnemonic : String)
  deriving DecidableEq, Repr

/-! ### After power-on -/

/-- `count` block numbers from `first` up. -/
def blocksFrom (first : Nat) : Nat → List Nat
  | 0 => []
  | count + 1 => first :: blocksFrom (first + 1) count

/-- The factory label of a desk: "D" and its number, filled out with spaces to 8 characters (R167). -/
def factoryLabel (d : DeskId) : List Byte :=
  if d.val < 10 then [0x44, byte (0x30 + d.val), 0x20, 0x20, 0x20, 0x20, 0x20, 0x20]
  else [0x44, 0x31, byte (0x30 + (d.val - 10)), 0x20, 0x20, 0x20, 0x20, 0x20]

/-- The factory defaults of the five groups (R167, R87). -/
def Groups.factory : Groups where
  ports :=
    { privilege := (Bank.replicate 6 Privilege.desk).set 0 .control
      serving := Bank.replicate 16 none
      label := (Bank.replicate 16 ()).mapIdx fun d _ => factoryLabel d }
  routing :=
    { filters := Bank.replicate 24
        { enabled := false, mask := 0, desk := 0, urgency := .routine, category := 0, destinations := 0 }
      masks := Bank.replicate 4 { compareDesk := false, compareUrgency := false, categoryBits := 0 } }
  clock :=
    { editionLength := 57600
      channels := Bank.replicate 16
        { deadline := 65535, bufferMode := .atTurn, warnLead := 0, releaseMode := .manual, lateInterval := 0, lateDivisor := 1 }
      pages := Bank.replicate 128 none }
  feed :=
    { enable := ⟨true, true⟩, home := .a, stallWindow := 24, settlePeriod := 64, attemptLimit := 3, paceWindow := 64,
      paceMode := .single }
  store := { low := 512, high := 1024, lease := 7200, offerWindow := 2400 }

/-- A port after power-on (R154), its data window start 0 and its lines down (DESIGN CHOICE, log entries 3 and 4; unsafe). -/
def Port.fresh : Port :=
  { phase := .idle, running := none, faults := 0, standing := .active, dataStart := 0, holdStart := none, quietStart := 0,
    stream := none, holdLine := false, resetLine := false }

/-- A link while start-up runs: OFF with its engine IDLE (R153), its ticks, bytes taken and trailer bytes taken 0 and its ready
line down (DESIGN CHOICE, log entries 3 and 4; unsafe). -/
def Link.fresh : Link :=
  { state := .off, settleStart := 0, engine := .idle, page := none, taken := 0, trailerTaken := 0, progress := 0, waitStart := 0,
    voided := none, ready := false }

/-- A page record that was never made up (R117). -/
def Page.fresh : Page := { state := .making, lastSent := 0, layout := [], job := none }

/-- A channel after power-on (R104); its active deadline before start-up's load is the factory deadline (DESIGN CHOICE,
log entry 5; unsafe). -/
def Channel.fresh : Channel :=
  { active := 65535, state := .quiet, lateCount := 0, nextLate := none, atRisk := false, warningDue := false }

/-- An empty inbox (R77). -/
def Inbox.empty : Inbox := { notices := [], lost := 0 }

/-- The store after power-on (R21, R22); no byte of a block is listed (log entry 6). -/
def Store.fresh : Store :=
  { freePool := blocksFrom 0 Config.blocks, freeCount := Config.blocks, reserved := 0, tight := false, copy := [] }

/-- The empty pace meter (R153). -/
def Pace.empty : Pace := { window := none, samples := [], pace := 0 }

/-- The switch in the event of power-on: every record at its power-on value and start-up running (R171; DEDUCED, log entry 1; safe). The running
groups hold the factory defaults until start-up's load (DESIGN CHOICE, log entry 2; unsafe). -/
def Switch.reset : Switch where
  wall := 0
  clock := { running := false, ticks := 0, edition := 1, activeLength := 57600 }
  channels := Bank.replicate 16 Channel.fresh
  slots := Bank.replicate 1024 { gen := 0, story := none }
  watches := []
  inboxes := Bank.replicate 6 Inbox.empty
  store := Store.fresh
  uploads := Bank.replicate 6 none
  pages := Bank.replicate 128 Page.fresh
  queue := []
  sending := none
  releases := 0
  links := ⟨Link.fresh, Link.fresh⟩
  active := .a
  pace := Pace.empty
  ports := Bank.replicate 6 Port.fresh
  groups := Groups.factory
  holds := { ports := false, routing := false, clock := false, feed := false, store := false }
  image := none
  saving := none
  starting := true
  cause := .powerOn
  defaulted := false
  last := { sent := [], released := false }
  free := 0

/-- The machine right after reset: the switch at power-on, and no command waiting. -/
def State.reset : State := { sw := Switch.reset, pending := [] }

end Sys2Proof.Machine
end

