-- ==== Sys2Proof/Machine/Bytes.lean ====
section
/-! DEFINITION. Numbers as bytes, most significant byte first, the codes of named lists, the three check codes, byte stuffing and the port frame (spec/11). -/

namespace Sys2Proof.Machine

/-! ### Values (R175) -/

/-- A number in two bytes. -/
def be16 (n : Nat) : List Byte := [byte (n / 256), byte n]

/-- A number in four bytes. -/
def be32 (n : Nat) : List Byte := [byte (n / 16777216), byte (n / 65536), byte (n / 256), byte n]

/-- A flag: 00h no, 01h yes. -/
def flagByte (b : Bool) : Byte := if b then 1 else 0

/-- A handle: slot in two bytes, then generation. -/
def Handle.bytes (h : Handle) : List Byte := be16 h.slot.val ++ [h.gen]

/-- A slug or any counted list of bytes: count, then the bytes. -/
def counted (l : List Byte) : List Byte := byte l.length :: l

/-- A list of records: a one-byte count, then the records. -/
def records (l : List α) (f : α → List Byte) : List Byte := byte l.length :: l.flatMap f

/-- A value or record that may be absent: a flag byte, then the value when present. -/
def optional (o : Option α) (f : α → List Byte) : List Byte :=
  match o with
  | none => [0]
  | some a => 1 :: f a

/-- A one-byte value whose "none" is all bits one. -/
def orAllOnes (o : Option α) (f : α → Byte) : Byte :=
  match o with
  | none => 0xFF
  | some a => f a

def Urgency.rank (u : Urgency) : Nat := u.ctorIdx
def Urgency.byte (u : Urgency) : Byte := Sys2Proof.byte u.ctorIdx
def Code.byte (c : Code) : Byte := Sys2Proof.byte c.ctorIdx
def Cmd.code (c : Cmd) : Byte := Sys2Proof.byte (c.ctorIdx + 1)
def NoticeKind.byte (k : NoticeKind) : Byte := Sys2Proof.byte (k.ctorIdx + 1)
def Reason.byte (r : Reason) : Byte := Sys2Proof.byte (r.ctorIdx + 1)
def Privilege.byte (x : Privilege) : Byte := Sys2Proof.byte x.ctorIdx
def BufferMode.byte (x : BufferMode) : Byte := Sys2Proof.byte x.ctorIdx
def ReleaseMode.byte (x : ReleaseMode) : Byte := Sys2Proof.byte x.ctorIdx
def PaceMode.byte (x : PaceMode) : Byte := Sys2Proof.byte x.ctorIdx
def StartCause.byte (x : StartCause) : Byte := Sys2Proof.byte x.ctorIdx
def ChannelState.byte (x : ChannelState) : Byte := Sys2Proof.byte x.ctorIdx
def PageState.byte (x : PageState) : Byte := Sys2Proof.byte x.ctorIdx
def LinkState.byte (x : LinkState) : Byte := Sys2Proof.byte x.ctorIdx
def Engine.byte (x : Engine) : Byte := Sys2Proof.byte x.ctorIdx
def Phase.byte (x : Phase) : Byte := Sys2Proof.byte x.ctorIdx
def Standing.byte (x : Standing) : Byte := Sys2Proof.byte x.ctorIdx
def LinkId.byte (l : LinkId) : Byte := Sys2Proof.byte l.ctorIdx

/-- A page label: the letter's code, then the number. -/
def Label.bytes (l : Label) : List Byte := [l.letter, Sys2Proof.byte l.number]

/-- A screen, port/screen: its port, then its number (DESIGN CHOICE, log entry 17; unsafe). -/
def Screen.bytes (s : Screen) : List Byte := [Sys2Proof.byte s.port.val, Sys2Proof.byte s.number.val]

/-- The state of a slot as its position in the list of R1: VACANT, FILING, FILED, OPEN, OFFERED, SPIKED. -/
def Slot.stateByte (s : Slot) : Byte :=
  match s.story with
  | none => 0
  | some st =>
    match st.status with
    | .filing => 1
    | .filed => 2
    | .opened _ => 3
    | .offered _ => 4
    | .spiked _ => 5

/-! ### Check codes -/

/-- f applied n times. -/
def times : Nat → (α → α) → α → α
  | 0, _, a => a
  | n + 1, f, a => times n f (f a)

/-- One bit of a check taken most significant first. -/
def crcBit (poly crc : BitVec w) : BitVec w := if crc.msb then (crc <<< 1) ^^^ poly else crc <<< 1

/-- The CRC-8 of port frames: polynomial 07h, initial value 00h (R174). -/
def crc8 (bytes : List Byte) : Byte :=
  bytes.foldl (fun c b => times 8 (crcBit 0x07) (c ^^^ b)) 0x00

/-- The CRC-16 of typesetter pages: polynomial 1021h, initial value FFFFh (R177). -/
def crc16 (bytes : List Byte) : Word16 :=
  bytes.foldl (fun c b => times 8 (crcBit 0x1021) (c ^^^ ((b.setWidth 16 : Word16) <<< (8 : Nat)))) 0xFFFF

/-- One bit of the CRC-32, taken least significant first: EDB88320h is 04C11DB7h with its bits in that order (R178). -/
def crc32Bit (crc : Word32) : Word32 := if crc.getLsbD 0 then (crc >>> 1) ^^^ 0xEDB88320 else crc >>> 1

/-- The CRC-32 of the settings image: polynomial 04C11DB7h, initial value FFFFFFFFh, bits least significant first, final
exclusive-or with FFFFFFFFh (R178). -/
def crc32 (bytes : List Byte) : Word32 :=
  bytes.foldl (fun c b => times 8 crc32Bit (c ^^^ b.setWidth 32)) 0xFFFFFFFF ^^^ 0xFFFFFFFF

/-! ### Frames (R174) -/

/-- The sender's replacement of A5h and A6h by the pair A6h and the value exclusive-or 20h. -/
def stuff : List Byte → List Byte
  | [] => []
  | b :: l => if b = 0xA5 ∨ b = 0xA6 then 0xA6 :: (b ^^^ 0x20) :: stuff l else b :: stuff l

/-- The receiver's restoring of the bytes after a start byte. None: an A5h stands inside, a new start byte that breaks
the frame off, or a pair is cut short. A pair that no sender forms, A6h and a byte other than 85h, 86h and A5h, is restored by the same
exclusive-or (DESIGN CHOICE, log entry 51; unsafe). -/
def unstuff : List Byte → Option (List Byte)
  | [] => some []
  | [b] => if b = 0xA5 ∨ b = 0xA6 then none else some [b]
  | b :: c :: l =>
    if b = 0xA5 then none
    else if b = 0xA6 then
      if c = 0xA5 then none else (unstuff l).map ((c ^^^ 0x20) :: ·)
    else (unstuff (c :: l)).map (b :: ·)

/-- The bytes of a frame that its check covers: kind, tag, length and payload (R174). -/
def Frame.covered (f : Frame) : List Byte := f.kind :: f.tag :: (be16 f.payload.length ++ f.payload)

/-- A frame as it crosses the port: start byte, the covered bytes and the check, stuffed (spec/11 11.1). -/
def Frame.wire (f : Frame) : List Byte := 0xA5 :: stuff (f.covered ++ [crc8 f.covered])

/-- The frame held by restored bytes: its length field is at most 256 and counts the payload, and its check matches. None
is a frame that fails its check (R174). Bytes that follow the check byte before the next start byte make the whole a frame that
fails its check (DESIGN CHOICE, log entry 45; unsafe). -/
def Frame.ofRestored (bytes : List Byte) : Option Frame :=
  match bytes with
  | kind :: tag :: hi :: lo :: rest =>
    let n := hi.toNat * 256 + lo.toNat
    let f : Frame := { kind := kind, tag := tag, payload := rest.take n }
    if n ≤ Config.frameBytes ∧ rest.length = n + 1 ∧ rest[n]? = some (crc8 f.covered) then some f else none
  | _ => none

/-- The frame a receiver finds in the bytes of one frame, start byte included. Bytes that begin with no start byte hold no frame,
and their port takes them as a FRAME_FAULT (DESIGN CHOICE, log entry 45; unsafe). -/
def Frame.receive (bytes : List Byte) : Option Frame :=
  match bytes with
  | [] => none
  | b :: rest => if b = 0xA5 then (unstuff rest).bind Frame.ofRestored else none

/-- A list of bytes in frames' worth of at most n, in order; fuel is the length of the list. -/
def chunksAux (n : Nat) : Nat → List Byte → List (List Byte)
  | 0, _ => []
  | fuel + 1, l => if l.isEmpty then [] else l.take n :: chunksAux n fuel (l.drop n)

/-- Result data divided into result-data frames of 256 bytes each but the last (R175). -/
def chunks (l : List Byte) : List (List Byte) := chunksAux Config.frameBytes l.length l

end Sys2Proof.Machine
end

