-- ==== Sys2Proof/Machine/Operands.lean ====
section
/-! DEFINITION. The range and form checks of command parameters: each turns the parameters of a payload into values the blocks work on, or answers none, which the command answers BAD_PARAM. -/

namespace Sys2Proof.Machine

/-! ### Single values (R175) -/

/-- A value below n. -/
def below (n : Nat) (b : BitVec w) : Option (Fin n) := finOf? n b.toNat

/-- A number from lo to hi. -/
def within (lo hi : Nat) (b : BitVec w) : Option Nat :=
  if lo ≤ b.toNat ∧ b.toNat ≤ hi then some b.toNat else none

/-- A flag byte: 00h no, 01h yes, any other value refused. -/
def flag (b : Byte) : Option Bool := if b = 0 then some false else if b = 1 then some true else none

/-- An urgency, 0 to 3. -/
def urgencyOf (b : Byte) : Option Urgency :=
  match b.toNat with
  | 0 => some .routine
  | 1 => some .priority
  | 2 => some .bulletin
  | 3 => some .flash
  | _ => none

/-- A handle whose slot is 0 to 1023 (R2). -/
def handleOf (a : HandleArg) : Option Handle := (below 1024 a.slot).map fun i => { slot := i, gen := a.gen }

/-- A link, A 0 and B 1. -/
def linkOf (b : Byte) : Option LinkId := if b = 0 then some .a else if b = 1 then some .b else none

/-- A privilege, DESK 0 and CONTROL 1. -/
def privilegeOf (b : Byte) : Option Privilege := if b = 0 then some .desk else if b = 1 then some .control else none

/-- A buffer mode, AT_TURN 0 and DIRECT 1. -/
def bufferModeOf (b : Byte) : Option BufferMode := if b = 0 then some .atTurn else if b = 1 then some .direct else none

/-- A release mode, MANUAL 0, AT_DEADLINE 1 and AT_TURN 2. -/
def releaseModeOf (b : Byte) : Option ReleaseMode :=
  if b = 0 then some .manual else if b = 1 then some .atDeadline else if b = 2 then some .atTurn else none

/-- A pace mode, SINGLE 0 and AVERAGE4 1. -/
def paceModeOf (b : Byte) : Option PaceMode := if b = 0 then some .single else if b = 1 then some .average4 else none

/-- Each member of a list checked, all or none. -/
def checkAll (f : α → Option β) : List α → Option (List β)
  | [] => some []
  | a :: l =>
    match f a, checkAll f l with
    | some b, some bs => some (b :: bs)
    | _, _ => none

/-- A list of exactly n things as a bank. -/
def bankOf (n : Nat) (l : List α) : Option (Bank n α) := if h : l.length = n then some ⟨l, h⟩ else none

/-- A value that may be absent, checked when present. -/
def checkOpt (f : α → Option β) : Option α → Option (Option β)
  | none => some none
  | some a => (f a).map some

/-! ### Slugs and route plans (R3, R4) -/

/-- A lower-case letter folded to upper case. -/
def foldLetter (b : Byte) : Byte := if 0x61 ≤ b.toNat ∧ b.toNat ≤ 0x7A then byte (b.toNat - 0x20) else b

/-- A to Z, 0 to 9 or hyphen. -/
def slugCharacter (b : Byte) : Bool :=
  (0x41 ≤ b.toNat && b.toNat ≤ 0x5A) || (0x30 ≤ b.toNat && b.toNat ≤ 0x39) || b == 0x2D

/-- A slug folded, if it then has 1 to 24 characters of the stated form (R3). -/
def slugOf (l : List Byte) : Option (List Byte) :=
  let folded := l.map foldLetter
  if 1 ≤ folded.length ∧ folded.length ≤ 24 ∧ folded.all slugCharacter then some folded else none

/-- A route plan of 0 to 4 desks (R4). -/
def routeOf (l : List Byte) : Option (List DeskId) :=
  if l.length ≤ Config.routeLimit then checkAll (below 16) l else none

/-- A desk label: 8 characters from A to Z, 0 to 9, hyphen and space (R167). -/
def deskLabelOf (l : List Byte) : Option (List Byte) :=
  if l.length = 8 ∧ l.all (fun b => slugCharacter b || b == 0x20) then some l else none

/-- A page label: section letter A to Z and number 1 to 99 (R117). -/
def labelOf (letter number : Byte) : Option Label :=
  if 0x41 ≤ letter.toNat ∧ letter.toNat ≤ 0x5A then
    (within 1 99 number).map fun n => { letter := letter, number := n }
  else none

/-- A set of ports, bit n for port n; bits 6 and 7 stand for no port. -/
def portSetOf (b : Byte) : Option (BitVec 6) := if b.toNat < 64 then some (b.setWidth 6) else none

/-- A set of settings groups, bit n for the group at position n of R167. -/
def groupSetOf (b : Byte) : Option Holds :=
  if b.toNat < 32 then
    some { ports := b.getLsbD 0, routing := b.getLsbD 1, clock := b.getLsbD 2, feed := b.getLsbD 3, store := b.getLsbD 4 }
  else none

/-! ### Whole commands -/

/-- FILE's parameters in range. -/
structure FileParams where
  slug : List Byte
  owner : DeskId
  urgency : Urgency
  category : Nat
  screen : ScreenNo
  route : List DeskId
  length : Nat
  deriving DecidableEq, Repr

def FileArgs.check (a : FileArgs) : Option FileParams :=
  match slugOf a.slug, below 16 a.owner, urgencyOf a.urgency, within 0 1023 a.category, below 64 a.screen, routeOf a.route with
  | some slug, some owner, some urgency, some category, some screen, some route =>
    some { slug, owner, urgency, category, screen, route, length := a.length.toNat }
  | _, _, _, _, _, _ => none

/-- RECLASSIFY's parameters in range; both "keep" is refused (R12). -/
structure ReclassifyParams where
  handle : Handle
  urgency : Option Urgency
  category : Option Nat
  deriving DecidableEq, Repr

def ReclassifyArgs.check (a : ReclassifyArgs) : Option ReclassifyParams :=
  match handleOf a.handle, checkOpt urgencyOf a.urgency, checkOpt (within 0 1023) a.category with
  | some handle, some urgency, some category =>
    if urgency.isNone && category.isNone then none else some { handle, urgency, category }
  | _, _, _ => none

def RouteArgs.check (a : RouteArgs) : Option (Handle × List DeskId) :=
  match handleOf a.handle, routeOf a.route with
  | some handle, some route => some (handle, route)
  | _, _ => none

/-- READ's parameters; a version number is 1 to 65,535 (R35). -/
def ReadArgs.check (a : ReadArgs) : Option (Handle × Option Nat) :=
  match handleOf a.handle, checkOpt (within 1 Config.versionNumberMax) a.version with
  | some handle, some version => some (handle, version)
  | _, _ => none

def ScreenArgs.check (a : ScreenArgs) : Option (ScreenNo × Handle) :=
  match below 64 a.screen, handleOf a.handle with
  | some screen, some handle => some (screen, handle)
  | _, _ => none

/-- CHECKIN's parameters in range (R41). -/
structure CheckinParams where
  screen : ScreenNo
  handle : Handle
  length : Nat
  keep : Bool
  deriving DecidableEq, Repr

def CheckinArgs.check (a : CheckinArgs) : Option CheckinParams :=
  match below 64 a.screen, handleOf a.handle, flag a.keep with
  | some screen, some handle, some keep => some { screen, handle, length := a.length.toNat, keep }
  | _, _, _ => none

/-- OFFER's parameters in range (R61); a target of none is "next on route". -/
structure OfferParams where
  handle : Handle
  target : Option DeskId
  note : Byte
  deriving DecidableEq, Repr

def OfferArgs.check (a : OfferArgs) : Option OfferParams :=
  match handleOf a.handle, checkOpt (below 16) a.target with
  | some handle, some target => some { handle, target, note := a.note }
  | _, _ => none

def DeskArgs.check (a : DeskArgs) : Option (Handle × DeskId) :=
  match handleOf a.handle, below 16 a.desk with
  | some handle, some desk => some (handle, desk)
  | _, _ => none

def DeclineArgs.check (a : DeclineArgs) : Option (Handle × DeskId × Byte) :=
  match handleOf a.handle, below 16 a.desk with
  | some handle, some desk => some (handle, desk, a.note)
  | _, _ => none

def FilterArgs.check (a : FilterArgs) : Option (Fin 24 × Filter) :=
  match below 24 a.number, flag a.enabled, below 4 a.mask, below 16 a.desk, urgencyOf a.urgency, within 0 1023 a.category,
      portSetOf a.destinations with
  | some number, some enabled, some mask, some desk, some urgency, some category, some destinations =>
    some (number, { enabled, mask, desk, urgency, category, destinations })
  | _, _, _, _, _, _, _ => none

def MaskArgs.check (a : MaskArgs) : Option (Fin 4 × Mask) :=
  match below 4 a.number, flag a.compareDesk, flag a.compareUrgency, within 0 10 a.categoryBits with
  | some number, some compareDesk, some compareUrgency, some categoryBits =>
    some (number, { compareDesk, compareUrgency, categoryBits })
  | _, _, _, _ => none

/-- TURN's parameter: an edition 1 to 255, or none for "current" (R102). -/
def TurnArgs.check (a : TurnArgs) : Option (Option Nat) := checkOpt (within 1 Config.editionMax) a.edition

/-- An edition length, 1,200 to 65,535 (R103). -/
def editionLengthOf (length : Word16) : Option Nat := within 1200 65535 length

def DeadlineArgs.check (a : DeadlineArgs) : Option (ChannelId × Nat) :=
  match below 16 a.channel, within 1 65535 a.deadline with
  | some channel, some deadline => some (channel, deadline)
  | _, _ => none

/-- CHANNEL's parameters in range (R108). -/
structure ChannelParams where
  channel : ChannelId
  bufferMode : BufferMode
  warnLead : Nat
  releaseMode : ReleaseMode
  lateInterval : Nat
  lateDivisor : Nat
  deriving DecidableEq, Repr

def ChannelArgs.check (a : ChannelArgs) : Option ChannelParams :=
  match below 16 a.channel, bufferModeOf a.bufferMode, releaseModeOf a.releaseMode, within 1 8 a.lateDivisor with
  | some channel, some bufferMode, some releaseMode, some lateDivisor =>
    some { channel, bufferMode, warnLead := a.warnLead.toNat, releaseMode, lateInterval := a.lateInterval.toNat, lateDivisor }
  | _, _, _, _ => none

/-- PAGE's parameters: a definition for DEFINE, none for UNDEFINE (R119). -/
def PageArgs.check (a : PageArgs) : Option (PageId × Option PageDef) :=
  match below 128 a.page, a.action with
  | some page, .define letter number owner binding =>
    match labelOf letter number, below 16 owner, checkOpt (below 16) binding with
    | some label, some owner, some binding => some (page, some { label, owner, binding })
    | _, _, _ => none
  | some page, .undefine => some (page, none)
  | _, _ => none

/-- PLACE's parameters in range, but for the position, which the layout bounds (R120). -/
structure PlaceParams where
  page : PageId
  handle : Handle
  position : Option Nat
  frame : List Byte
  deriving DecidableEq, Repr

def PlaceArgs.check (a : PlaceArgs) : Option PlaceParams :=
  match below 128 a.page, handleOf a.handle with
  | some page, some handle =>
    if a.frame.length = 16 then some { page, handle, position := a.position.map BitVec.toNat, frame := a.frame } else none
  | _, _ => none

def UnplaceArgs.check (a : UnplaceArgs) : Option (PageId × Nat) :=
  (below 128 a.page).map fun page => (page, a.position.toNat)

def ReleaseArgs.check (a : ReleaseArgs) : Option (PageId × Bool) :=
  match below 128 a.page, flag a.rush with
  | some page, some rush => some (page, rush)
  | _, _ => none

/-- PAGE STATUS's parameter: a page slot, or none for "queue" (R134). -/
def PageStatusArgs.check (a : PageStatusArgs) : Option (Option PageId) := checkOpt (below 128) a.page

/-- LINKS' parameters: the two enables and the home link (R150). -/
def LinksArgs.check (a : LinksArgs) : Option (PerLink Bool × LinkId) :=
  match flag a.enableA, flag a.enableB, linkOf a.home with
  | some ea, some eb, some home => some (⟨ea, eb⟩, home)
  | _, _, _ => none

/-- PORT STATUS's parameter: a port, or none for "own" (R166). -/
def PortStatusArgs.check (a : PortStatusArgs) : Option (Option PortId) := checkOpt (below 6) a.port

/-- What SETTINGS writes, in range (R168). -/
inductive SettingsParams where
  | ports (g : PortsGroup)
  | feed (stallWindow settlePeriod attemptLimit paceWindow : Nat) (paceMode : PaceMode)
  | store (g : StoreGroup)
  deriving DecidableEq, Repr

def SettingsArgs.check : SettingsArgs → Option SettingsParams
  | .ports privileges serving labels =>
    match (checkAll privilegeOf privileges).bind (bankOf 6), (checkAll (checkOpt (below 6)) serving).bind (bankOf 16),
        (checkAll deskLabelOf labels).bind (bankOf 16) with
    | some privilege, some serving, some label => some (.ports { privilege, serving, label })
    | _, _, _ => none
  | .feed stall settle attempts window mode =>
    match within 8 255 stall, within 8 255 settle, within 1 7 attempts, within 16 255 window, paceModeOf mode with
    | some stall, some settle, some attempts, some window, some mode => some (.feed stall settle attempts window mode)
    | _, _, _, _, _ => none
  | .store low high lease offer =>
    match within 64 4096 low, within 64 4096 high, within 480 28800 lease, within 80 4800 offer with
    | some low, some high, some lease, some offerWindow =>
      if low < high then some (.store { low, high, lease, offerWindow }) else none
    | _, _, _, _ => none
  | .other _ => none

/-- COLLECT's count, 1 to 8 (R83). -/
def collectCountOf (b : Byte) : Option Nat := within 1 8 b

/-- A set of groups that is not empty (R170). -/
def holdSetOf (b : Byte) : Option Holds := if b = 0 then none else groupSetOf b

end Sys2Proof.Machine
end

