-- ==== Sys2Proof/Machine/Ops.lean ====
section
/-! DEFINITION. The named operations over the switch's records: the copy store's memory, record accessors, notices and their posting, result frames, blocks, pins and purges. -/

namespace Sys2Proof.Machine

/-! ### The bytes of the copy store (R21): addresses strictly rising, no listed byte equal to what an unlisted one reads as -/

/-- What a byte that nothing has written reads as. DESIGN CHOICE, log entry 6; unsafe. -/
def Memory.unwritten : Byte := 0

/-- The byte at an address. -/
def Memory.read : List Host.Cell → Nat → Byte
  | [], _ => Memory.unwritten
  | (k, v) :: m, a => if k = a then v else Memory.read m a

/-- The memory with one byte written. -/
def Memory.write : List Host.Cell → Nat → Byte → List Host.Cell
  | [], a, b => if b = Memory.unwritten then [] else [(a, b)]
  | (k, v) :: m, a, b =>
    if a < k then (if b = Memory.unwritten then (k, v) :: m else (a, b) :: (k, v) :: m)
    else if a = k then (if b = Memory.unwritten then m else (a, b) :: m)
    else (k, v) :: Memory.write m a b

/-- The canonical form: every key is above `low`, keys rise strictly, no value is the unwritten one. -/
def Memory.wfFrom (low : Option Nat) : List Host.Cell → Bool
  | [] => true
  | (k, v) :: m =>
    (match low with | none => true | some l => decide (l < k)) && decide (v ≠ Memory.unwritten) && Memory.wfFrom (some k) m

/-- The canonical form of a memory. -/
def Memory.wf (m : List Host.Cell) : Bool := Memory.wfFrom none m

/-- Byte number i of a text held by a block chain. -/
def textByte (copy : List Host.Cell) (chain : List Nat) (i : Nat) : Byte :=
  Memory.read copy ((chain[i / Config.blockBytes]?).getD 0 * Config.blockBytes + i % Config.blockBytes)

/-- `count` bytes from offset `first` of a text held by a block chain. -/
def textSlice (copy : List Host.Cell) (chain : List Nat) (first : Nat) : Nat → List Byte
  | 0 => []
  | count + 1 => textByte copy chain first :: textSlice copy chain (first + 1) count

/-- The blocks a text of length n occupies: the smallest whole number not less than n/512. -/
def blocksFor (n : Nat) : Nat := (n + (Config.blockBytes - 1)) / Config.blockBytes

/-! ### Record accessors -/

namespace Switch

def port (s : Switch) (p : PortId) : Port := s.ports.get p
def setPort (s : Switch) (p : PortId) (x : Port) : Switch := { s with ports := s.ports.set p x }
def slot (s : Switch) (i : SlotId) : Slot := s.slots.get i
def setSlot (s : Switch) (i : SlotId) (x : Slot) : Switch := { s with slots := s.slots.set i x }
def page (s : Switch) (p : PageId) : Page := s.pages.get p
def setPage (s : Switch) (p : PageId) (x : Page) : Switch := { s with pages := s.pages.set p x }
def pageDef (s : Switch) (p : PageId) : Option PageDef := s.groups.clock.pages.get p
def link (s : Switch) (l : LinkId) : Link := s.links.get l
def setLink (s : Switch) (l : LinkId) (x : Link) : Switch := { s with links := s.links.set l x }
def channel (s : Switch) (c : ChannelId) : Channel := s.channels.get c
def setChannel (s : Switch) (c : ChannelId) (x : Channel) : Switch := { s with channels := s.channels.set c x }
def channelSettings (s : Switch) (c : ChannelId) : ChannelSettings := s.groups.clock.channels.get c
def inbox (s : Switch) (p : PortId) : Inbox := s.inboxes.get p
def setInbox (s : Switch) (p : PortId) (x : Inbox) : Switch := { s with inboxes := s.inboxes.set p x }
def upload (s : Switch) (p : PortId) : Option Upload := s.uploads.get p
def setUpload (s : Switch) (p : PortId) (x : Option Upload) : Switch := { s with uploads := s.uploads.set p x }
def setStore (s : Switch) (x : Store) : Switch := { s with store := x }
def setGroups (s : Switch) (x : Groups) : Switch := { s with groups := x }

/-- The story in a slot with its fields replaced; the slot's generation stays. -/
def setStory (s : Switch) (i : SlotId) (st : Story) : Switch := s.setSlot i { s.slot i with story := some st }

/-- The story a handle names: the slot is not VACANT and its generation is the handle's (R2). -/
def story (s : Switch) (h : Handle) : Option Story := if (s.slot h.slot).gen = h.gen then (s.slot h.slot).story else none

/-- The handle of the story now in a slot. -/
def handleAt (s : Switch) (i : SlotId) : Handle := { slot := i, gen := (s.slot i).gen }

/-- A slot becomes VACANT: its generation is raised by one, wrapping, and its other fields are emptied (R1, R2). -/
def vacate (s : Switch) (i : SlotId) : Switch := s.setSlot i { gen := (s.slot i).gen + 1, story := none }

/-- The available count: the free-pool count less the outstanding reservation (R21). -/
def available (s : Switch) : Nat := s.store.freeCount - s.store.reserved

/-- The attention line of a port is raised while its inbox holds a notice (R82). -/
def attention (s : Switch) (p : PortId) : Bool := !(s.inbox p).notices.isEmpty

/-! ### Ports and rights -/

/-- The port's privilege is CONTROL. -/
def isControl (s : Switch) (p : PortId) : Bool := s.groups.ports.privilege.get p == .control

/-- The port serving a desk, by the desk map (R5, R58). -/
def serving (s : Switch) (d : DeskId) : Option PortId := s.groups.ports.serving.get d

/-- The port serves the desk. -/
def serves (s : Switch) (p : PortId) (d : DeskId) : Bool := s.serving d == some p

/-- The right over what a desk owns: the port serving the desk, and every control port (R5, R118). -/
def mayChange (s : Switch) (p : PortId) (d : DeskId) : Bool := s.serves p d || s.isControl p

/-- The port is DETACHED. -/
def isDetached (s : Switch) (p : PortId) : Bool := (s.port p).standing == .detached

/-- The port is GUARDED. -/
def isGuarded (s : Switch) (p : PortId) : Bool := (s.port p).standing == .guarded

end Switch

/-! ### Inboxes (R78 to R81) -/

/-- A notice in its place: after the last of its own class and before the first of a lower class (R78). -/
def insertNotice (n : Notice) : List Notice → List Notice
  | [] => [n]
  | m :: l => if m.cls.rank < n.cls.rank then n :: m :: l else m :: insertNotice n l

/-- A waiting notice is the CHANGED notice an arriving one coalesces with: same kind CHANGED, same handle (R79). -/
def coalesces (n m : Notice) : Bool := n.kind == .changed && m.kind == .changed && m.handle == n.handle

/-- The waiting notice takes the arriving one's stamp, version, reason code and screen list (R79). -/
def Notice.coalesce (m n : Notice) : Notice :=
  { m with stamp := n.stamp, version := n.version, reason := n.reason, screens := n.screens }

/-- The lost count rises by one and stays at 255 (R81). -/
def Inbox.lose (box : Inbox) : Inbox := { box with lost := min Config.lostMax (box.lost + 1) }

/-- A notice arriving at an inbox: coalesced (R79), placed (R78), or overflowing (R80). -/
def Inbox.place (box : Inbox) (n : Notice) : Inbox :=
  if box.notices.any (coalesces n) then
    { box with notices := box.notices.map fun m => if coalesces n m then m.coalesce n else m }
  else if box.notices.length < Config.inboxLimit then { box with notices := insertNotice n box.notices }
  else
    match box.notices.getLast? with
    | none => box.lose
    | some candidate =>
      if candidate.cls.rank < n.cls.rank then
        { box.lose with notices := insertNotice n box.notices.dropLast }
      else box.lose

namespace Switch

/-- Each port's copy of a notice is placed in its inbox; a copy addressed to a DETACHED port is discarded (R75). -/
def postEach (s : Switch) (f : PortId → Option Notice) : Switch :=
  { s with inboxes := s.inboxes.mapIdx fun p box =>
      match f p with
      | none => box
      | some n => if s.isDetached p then box else box.place n }

/-- One copy of a notice to each port of a set (R75). -/
def post (s : Switch) (n : Notice) (who : PortId → Bool) : Switch := s.postEach fun p => if who p then some n else none

/-- Every inbox emptied and every lost count 0, as a restart leaves them (R77, R81, R86). -/
def emptyInboxes (s : Switch) : Switch := { s with inboxes := Bank.replicate 6 Inbox.empty }

/-- A notice stamped with the tick of the event (R74, R97). -/
def notice (s : Switch) (kind : NoticeKind) (cls : Urgency) : Notice := { kind := kind, cls := cls, stamp := s.wall }

/-- The screens of a port that watch a story, ascending, each once (R95). -/
def watchScreens (s : Switch) (h : Handle) (p : PortId) : List ScreenNo :=
  (allBelow 64).filter fun sc => s.watches.contains { handle := h, port := p, screen := sc }

/-- A CHANGED or GONE notice to every port with a screen watching the story, each copy with that port's screens (R95). -/
def postWatchers (s : Switch) (h : Handle) (n : Notice) : Switch :=
  s.postEach fun p =>
    let screens := s.watchScreens h p
    if screens.isEmpty then none else some { n with screens := some screens }

/-- A notice to every control port. -/
def postControl (s : Switch) (n : Notice) : Switch := s.post n s.isControl

/-- The number of watch entries naming a story: its watcher count (R1, R92). -/
def watcherCount (s : Switch) (h : Handle) : Nat := (s.watches.filter fun w => w.handle == h).length

/-- The watch table without the entries that satisfy p (R96). -/
def dropWatches (s : Switch) (p : Watch → Bool) : Switch := { s with watches := s.watches.filter fun w => !p w }

/-! ### What leaves the switch -/

/-- Something leaves the switch in this event. -/
def emit (s : Switch) (e : Emission) : Switch := { s with last := { s.last with sent := s.last.sent ++ [e] } }

/-- The event has returned blocks or cancelled reservation (R33). -/
def markReleased (s : Switch) : Switch := { s with last := { s.last with released := true } }

/-- A result frame: kind 03h, the code and its values (R155, R175). -/
def sendResult (s : Switch) (p : PortId) (tag : Byte) (code : Code) (values : List Byte) : Switch :=
  s.emit (.frame p { kind := 0x03, tag := tag, payload := code.byte :: values })

/-! ### Blocks (R22) -/

/-- A chain returned to the front of the free pool in its own order. -/
def returnChain (s : Switch) (chain : List Nat) : Switch :=
  s.setStore { s.store with freePool := chain ++ s.store.freePool, freeCount := s.store.freeCount + chain.length }

/-- An upload in FILLING gives back its staging chain and its remaining reservation (R26). -/
def returnUpload (s : Switch) (u : Upload) : Switch :=
  let s := s.returnChain u.staging
  (s.setStore { s.store with reserved := s.store.reserved - u.remaining }).markReleased

/-- The versions of a story changed by f, if the handle still names it. -/
def modifyVersions (s : Switch) (h : Handle) (f : List Version → List Version) : Switch :=
  match s.story h with
  | none => s
  | some st => s.setStory h.slot { st with versions := f st.versions }


end Switch

end Sys2Proof.Machine
end

