-- ==== Sys2Proof/Machine/Flags.lean ====
section
/-! DEFINITION. The conditions the switch computes: fault count and standing, the tight condition, periods that have run out, and whether a channel's group is done. -/

namespace Sys2Proof.Machine

/-! ### Fault count and standing (R161) -/

/-- The standing that follows a fault count; a DETACHED port stays DETACHED. -/
def standingFor (old : Standing) (count : Nat) : Standing :=
  match old with
  | .detached => .detached
  | _ => if Config.guardedFrom ≤ count then .guarded else .active

/-- A port with its fault count and the standing that follows it. -/
def Port.withFaults (x : Port) (count : Nat) : Port := { x with faults := count, standing := standingFor x.standing count }

namespace Switch

/-- A result frame carrying OK takes one from the fault count, not below 0; on a DETACHED port it does not move (R161). -/
def lowerFaults (s : Switch) (p : PortId) : Switch :=
  if s.isDetached p then s else s.setPort p ((s.port p).withFaults ((s.port p).faults - 1))

/-- The +8 step of a counted fault that stays within 255 (R161). -/
def raiseFaults (s : Switch) (p : PortId) : Switch :=
  s.setPort p ((s.port p).withFaults ((s.port p).faults + Config.faultStep))

/-- The +8 step would take the fault count above 255, so that the port is DETACHED instead (R161). -/
def wouldDetach (s : Switch) (p : PortId) : Bool := Config.faultMax < (s.port p).faults + Config.faultStep

/-- A result frame, with the step of an OK (R155, R161). -/
def answer (s : Switch) (h : Head) (code : Code) (values : List Byte) : Switch :=
  let s := s.sendResult h.port h.tag code values
  if code = .ok then s.lowerFaults h.port else s

/-- A refusal: the code alone (R175). -/
def refuse (s : Switch) (h : Head) (code : Code) : Switch := s.answer h code []

/-! ### The tight condition (R32, R33) -/

/-- A reservation is made and tested against the low-water mark (R23, R32). -/
def reserve (s : Switch) (n : Nat) : Switch :=
  let s := s.setStore { s.store with reserved := s.store.reserved + n }
  if s.available < s.groups.store.low ∧ s.store.tight = false then
    (s.setStore { s.store with tight := true }).postControl (s.notice .storeTight .bulletin)
  else s

/-- The eased test, made once at the end of an event that returned blocks or cancelled reservation (R33; that it follows
the event's other notices is a DESIGN CHOICE, log entry 13; unsafe). -/
def easedTest (s : Switch) : Switch :=
  if s.last.released = true ∧ s.store.tight = true ∧ s.groups.store.high ≤ s.available then
    (s.setStore { s.store with tight := false }).postControl (s.notice .storeEased .priority)
  else s

/-- ROUTINE copy is refused while the store is tight (R34). -/
def tooTightFor (s : Switch) (u : Urgency) : Bool := s.store.tight && u == .routine

end Switch

/-! ### Periods that have run out -/

/-- The tick at which a lease expires: its start plus its length, wrapping (R39). -/
def Lock.expiry (l : Lock) : Word32 := l.start + BitVec.ofNat 32 l.length

/-- The lease is due: the wall counter less the lease start has reached the lease length (R40). -/
def Lock.due (l : Lock) (wall : Word32) : Bool := l.length ≤ elapsed wall l.start

/-- The tick at which an offer expires (R59). -/
def Offer.expiry (o : Offer) : Word32 := o.start + BitVec.ofNat 32 o.length

/-- The offer is due (R60). -/
def Offer.due (o : Offer) (wall : Word32) : Bool := o.length ≤ elapsed wall o.start

/-- A stall of a link is due: no byte within the stall window while PRESENTING or VOIDING, no status within the
end-of-page wait while AWAITING; an IDLE engine does not stall (R137). -/
def Link.stallDue (x : Link) (wall : Word32) (stallWindow : Nat) : Bool :=
  match x.engine with
  | .idle => false
  | .presenting => stallWindow ≤ elapsed wall x.progress
  | .voiding => stallWindow ≤ elapsed wall x.progress
  | .awaiting => Config.endOfPageWait ≤ elapsed wall x.waitStart

namespace Switch

/-! ### Groups of deadline channels (R105) -/

/-- The group of a channel: the defined pages bound to it that hold a placement, in slot order (R105). -/
def groupPages (s : Switch) (c : ChannelId) : List PageId :=
  (s.groups.clock.pages.indices fun d =>
    match d with
    | none => false
    | some d => d.binding == some c).filter fun p => !(s.page p).layout.isEmpty

/-- The group is done: every page in it was last sent in the current edition (R105). -/
def groupDone (s : Switch) (c : ChannelId) : Bool :=
  (s.groupPages c).all fun p => (s.page p).lastSent == s.clock.edition

/-- A channel whose group has become done since `before` goes to CLEARED, with no next late tick and no notice (R111). -/
def judgeGroups (s before : Switch) : Switch :=
  { s with channels := s.channels.mapIdx fun c x =>
      if !before.groupDone c && s.groupDone c then
        match x.state with
        | .cleared => x
        | _ => { x with state := .cleared, nextLate := none }
      else x }

/-- The ports a channel's notices go to: those serving the owner desk of a page in its group, and the control ports (R106). -/
def channelRecipients (s : Switch) (c : ChannelId) (p : PortId) : Bool :=
  s.isControl p ||
    (s.groupPages c).any fun q =>
      match s.pageDef q with
      | none => false
      | some d => s.serves p d.owner

/-- The port serving a page's owner desk, if any (R117). -/
def pageOwnerPort (s : Switch) (q : PageId) (p : PortId) : Bool :=
  match s.pageDef q with
  | none => false
  | some d => s.serves p d.owner

/-- The warning point of a channel: its active deadline less its warn lead; a lead of 0, or one not below the deadline,
gives none (R104). -/
def warningPoint (s : Switch) (c : ChannelId) : Option Nat :=
  let lead := (s.channelSettings c).warnLead
  if 0 < lead ∧ lead < (s.channel c).active then some ((s.channel c).active - lead) else none

/-- An edition-tick value, or none when it passes 65,535 (R109, R110) or the interval is 0. -/
def lateTickAfter (ticks interval : Nat) : Option Nat :=
  if interval = 0 ∨ Config.ticksMax < ticks + interval then none else some (ticks + interval)

/-! ### Queue places (R125) -/

/-- The queue places held: QUEUED pages and the SENDING page. -/
def placesHeld (s : Switch) : Nat := s.queue.length + (if s.sending.isSome then 1 else 0)

end Switch

/-! ### Settings images (R178) -/

/-- Every field of a CLOCK group's channel settings is in range (R104). -/
def ChannelSettings.inRange (c : ChannelSettings) : Bool :=
  decide (1 ≤ c.deadline ∧ c.deadline ≤ 65535 ∧ c.warnLead ≤ 65535 ∧ c.lateInterval ≤ 65535 ∧ 1 ≤ c.lateDivisor ∧ c.lateDivisor ≤ 8)

/-- A page label in range (R117). -/
def Label.inRange (l : Label) : Bool :=
  decide (0x41 ≤ l.letter.toNat ∧ l.letter.toNat ≤ 0x5A ∧ 1 ≤ l.number ∧ l.number ≤ 99)

/-- Every field of the groups is in its range, labels of defined pages are unique, and some port is CONTROL (R167, R178). -/
def Groups.inRange (g : Groups) : Bool :=
  g.ports.privilege.cells.contains .control &&
  g.ports.label.cells.all (fun l => (deskLabelOf l).isSome) &&
  g.routing.filters.cells.all (fun f => f.category ≤ 1023) &&
  g.routing.masks.cells.all (fun m => m.categoryBits ≤ 10) &&
  decide (1200 ≤ g.clock.editionLength ∧ g.clock.editionLength ≤ 65535) &&
  g.clock.channels.cells.all ChannelSettings.inRange &&
  (g.clock.pages.cells.filterMap id).all (fun d => d.label.inRange) &&
  decide (((g.clock.pages.cells.filterMap id).map PageDef.label).Nodup) &&
  decide (8 ≤ g.feed.stallWindow ∧ g.feed.stallWindow ≤ 255 ∧ 8 ≤ g.feed.settlePeriod ∧ g.feed.settlePeriod ≤ 255 ∧
    1 ≤ g.feed.attemptLimit ∧ g.feed.attemptLimit ≤ 7 ∧ 16 ≤ g.feed.paceWindow ∧ g.feed.paceWindow ≤ 255) &&
  decide (64 ≤ g.store.low ∧ g.store.low < g.store.high ∧ g.store.high ≤ 4096 ∧
    480 ≤ g.store.lease ∧ g.store.lease ≤ 28800 ∧ 80 ≤ g.store.offerWindow ∧ g.store.offerWindow ≤ 4800)

end Sys2Proof.Machine
end

