-- ==== Sys2Proof/Machine/Records.lean ====
section
/-! DEFINITION. What several commands and events do to stories, versions, uploads, locks and offers: pins, purges, uploads that complete or fail, lapses and expiries. -/

namespace Sys2Proof.Machine

/-! ### Versions (R27 to R31) -/

/-- The current version: the newest, last on the list (R28). -/
def Story.current (st : Story) : Option Version := st.versions.getLast?

/-- The number of the current version, 0 when the list is empty, which no notice of a story meets (R28). -/
def Story.currentNumber (st : Story) : Nat := (st.current.map Version.number).getD 0

/-- The version with a number on the list (R28). -/
def Story.version (st : Story) (n : Nat) : Option Version := st.versions.find? fun v => v.number == n

/-- No version is pinned. -/
def Story.unpinned (st : Story) : Bool := st.versions.all fun v => v.pins == 0

/-- The version numbered n changed by f. -/
def changeVersion (n : Nat) (f : Version → Version) (l : List Version) : List Version :=
  l.map fun v => if v.number == n then f v else v

/-- The number after a version number: 1 follows 65,535 (R27). -/
def numberAfter (n : Nat) : Nat := if n = Config.versionNumberMax then 1 else n + 1

/-- The first number from n on that is not held; fuel covers the numbers that can be (R27). -/
def freeNumber (held : List Nat) : Nat → Nat → Nat
  | 0, n => n
  | fuel + 1, n => if held.contains n then freeNumber held fuel (numberAfter n) else n

/-- The number of a new version on a list, once the victim, if any, has left it (R27). -/
def newNumber (st : Story) (kept : List Version) : Nat :=
  match st.current with
  | none => 1
  | some v => freeNumber (kept.map Version.number) kept.length (numberAfter v.number)

/-- The victim of a CHECKIN on a list of four: the oldest version that is not current, not pinned and not marked (R29). -/
def Story.victim (st : Story) : Option Version :=
  st.versions.dropLast.find? fun v => v.pins == 0 && !v.retiring

namespace Switch

/-! ### Purges (R17, R19) -/

/-- The record of an upload once a purge has taken its story's versions: a victim on that list is not looked for (R26). -/
def forgetVictim (h : Handle) (u : Option Upload) : Option Upload :=
  u.map fun u => if u.handle = h then { u with victim := none } else u

/-- Every upload's victim on a purged story's list is forgotten (R26). -/
def forgetVictims (s : Switch) (h : Handle) : Switch := { s with uploads := s.uploads.map (forgetVictim h) }

/-- A purge completes: GONE to the watchers, their entries removed, every version retired oldest first and no upload's victim
looked for any more, the slot VACANT (R17, R26). -/
def completePurge (s : Switch) (i : SlotId) : Switch :=
  match (s.slot i).story with
  | none => s
  | some st =>
    let h := s.handleAt i
    let s := s.postWatchers h { s.notice .gone st.urgency with handle := some h, slug := some st.slug }
    let s := s.dropWatches fun w => w.handle == h
    let s := (st.versions.foldl (fun s v => s.returnChain v.chain) s).markReleased
    (s.forgetVictims h).vacate i

/-- A pending purge completes when no version of the story is pinned (R19). -/
def purgeIfUnpinned (s : Switch) (i : SlotId) : Switch :=
  match (s.slot i).story with
  | none => s
  | some st => if st.status = .spiked true ∧ st.unpinned = true then s.completePurge i else s

/-- The purge of a SPIKED story is requested: done at once when no version is pinned, else pending (R16, R18). -/
def requestPurge (s : Switch) (i : SlotId) : Switch :=
  match (s.slot i).story with
  | none => s
  | some st => if st.unpinned then s.completePurge i else s.setStory i { st with status := .spiked true }

/-! ### Pins (R31) -/

/-- A pin is taken on a version. -/
def pin (s : Switch) (h : Handle) (n : Nat) : Switch :=
  s.modifyVersions h (changeVersion n fun v => { v with pins := v.pins + 1 })

/-- A pin is released; the release of a story's last pin completes its pending purge (R19, R31). -/
def unpin (s : Switch) (h : Handle) (n : Nat) : Switch :=
  match s.story h with
  | none => s
  | some _ => (s.modifyVersions h (changeVersion n fun v => { v with pins := v.pins - 1 })).purgeIfUnpinned h.slot

/-! ### Uploads (R23 to R26) -/

/-- A byte of an upload in FILLING: at an offset that is a multiple of 512 a block is drawn from the front of the pool,
and the byte is put in its place (R24). -/
def pushByte (su : Switch × Upload) (b : Byte) : Switch × Upload :=
  let (s, u) := su
  let (s, u) :=
    if u.taken % Config.blockBytes = 0 then
      match s.store.freePool with
      | [] => (s, u)
      | k :: rest =>
        (s.setStore { s.store with freePool := rest, freeCount := s.store.freeCount - 1, reserved := s.store.reserved - 1 },
          { u with staging := u.staging ++ [k], remaining := u.remaining - 1 })
    else (s, u)
  let address := (u.staging[u.taken / Config.blockBytes]?).getD 0 * Config.blockBytes + u.taken % Config.blockBytes
  (s.setStore { s.store with copy := Memory.write s.store.copy address b }, { u with taken := u.taken + 1 })

/-- A frame's bytes handed to an upload in FILLING, in order (R24). -/
def pushText (s : Switch) (u : Upload) (text : List Byte) : Switch × Upload := text.foldl pushByte (s, u)

/-- The retiring mark of an upload's victim is cleared if the victim is still on the list (R26). -/
def clearMark (s : Switch) (u : Upload) : Switch :=
  match u.victim with
  | none => s
  | some n => s.modifyVersions u.handle (changeVersion n fun v => { v with retiring := false })

/-- The store's part of an upload that ends without a version (R26). -/
def failUpload (s : Switch) (p : PortId) : Switch :=
  match s.upload p with
  | none => s
  | some u =>
    let s := if u.mode = .filling then s.returnUpload u else s
    (s.clearMark u).setUpload p none

/-- The directory's part of a failed FILE: GONE to the watchers, their entries removed, the slot VACANT (R9). -/
def dropFile (s : Switch) (h : Handle) : Switch :=
  match s.story h with
  | none => s
  | some st =>
    let s := s.postWatchers h { s.notice .gone st.urgency with handle := some h, slug := some st.slug }
    (s.dropWatches fun w => w.handle == h).vacate h.slot

/-- An upload cut off by a port reset or a detach (R9, R26, R56). -/
def abandonUpload (s : Switch) (p : PortId) : Switch :=
  match s.upload p with
  | none => s
  | some u =>
    let s := s.failUpload p
    match u.kind with
    | .file => s.dropFile u.handle
    | .checkin _ => s

/-- The store's part of a completion: the victim is retired, and the staging chain becomes the story's newest version,
its number given by R27; the upload record is closed (R25). -/
def makeVersion (s : Switch) (p : PortId) (u : Upload) (st : Story) : Switch × Story × Nat :=
  let leaving := st.versions.filter fun v => u.victim == some v.number
  let kept := st.versions.filter fun v => u.victim != some v.number
  let s := leaving.foldl (fun s v => (s.returnChain v.chain).markReleased) s
  let n := newNumber st kept
  let v : Version :=
    { number := n, length := u.declared, chain := u.staging, pins := 0, stamp := s.wall, author := u.author, retiring := false }
  (s.setUpload p none, { st with versions := kept ++ [v] }, n)

/-! ### Filtered notices (R87 to R89) -/

/-- An enabled filter matches a story when each comparison its mask calls for succeeds against the route key (R88). -/
def filterMatches (s : Switch) (f : Filter) (st : Story) : Bool :=
  let m := s.groups.routing.masks.get f.mask
  f.enabled &&
  (!m.compareDesk || st.owner == f.desk) &&
  (!m.compareUrgency || decide (f.urgency.rank ≤ st.urgency.rank)) &&
  decide (st.category / 2 ^ (10 - m.categoryBits) = f.category / 2 ^ (10 - m.categoryBits))

/-- The ports named by the destination set of a matching filter (R89). -/
def filterPorts (s : Switch) (st : Story) (p : PortId) : Bool :=
  s.groups.routing.filters.cells.any fun f => s.filterMatches f st && f.destinations.getLsbD p.val

/-- A FILED or UPGRADED notice to the filter destinations (R8, R12, R89). -/
def postFiltered (s : Switch) (kind : NoticeKind) (h : Handle) (st : Story) : Switch :=
  s.post { s.notice kind st.urgency with handle := some h, slug := some st.slug, fromDesk := some st.owner } (s.filterPorts st)

/-- A CHANGED notice to the watchers, with the story's urgency as its class (R12, R14, R15, R48). -/
def postChanged (s : Switch) (h : Handle) (st : Story) (reason : Reason) (version : Nat) : Switch :=
  s.postWatchers h
    { s.notice .changed st.urgency with
      handle := some h, slug := some st.slug, version := some version, reason := some reason }

/-! ### Locks (R39, R40, R51, R53, R56) -/

/-- A lease started in this event for a holder (R40). -/
def freshLock (s : Switch) (holder : Screen) : Lock :=
  { holder := holder, start := s.wall, length := s.groups.store.lease, suspended := false }

/-- A lock lapses or is broken: the story becomes FILED, and the notice goes to the holder's port with the current
version's number and the holder's screen number as note code (R51, R53). -/
def endLock (s : Switch) (i : SlotId) (st : Story) (l : Lock) (kind : NoticeKind) : Switch :=
  let h := s.handleAt i
  (s.setStory i { st with status := .filed }).post
    { s.notice kind .bulletin with
      handle := some h, slug := some st.slug, version := some st.currentNumber,
      note := some (byte l.holder.number.val) }
    (fun p => p == l.holder.port)

/-- A slot whose story is locked by a screen of a port, with that lock removed (R56). -/
def releaseLockOf (p : PortId) (x : Slot) : Slot :=
  match x.story with
  | none => x
  | some st =>
    match st.status with
    | .opened l => if l.holder.port = p then { x with story := some { st with status := .filed } } else x
    | _ => x

/-- Every lock held by a screen of the port is removed, with no notice (R56). -/
def releaseLocks (s : Switch) (p : PortId) : Switch := { s with slots := s.slots.map (releaseLockOf p) }

/-! ### Offers (R58, R59, R68, R69) -/

/-- The owner side of an offer: the port serving the owner desk, and the offering port (R58). -/
def ownerSide (s : Switch) (st : Story) (o : Offer) (p : PortId) : Bool := s.serves p st.owner || p == o.port

/-- The target side of an offer: the port serving the target desk (R58). -/
def targetSide (s : Switch) (o : Offer) (p : PortId) : Bool := s.serves p o.target

/-- A notice of an offer: handle, slug, the owner desk as from desk, the target desk as to desk, class the story's urgency (R58). -/
def offerNotice (s : Switch) (kind : NoticeKind) (h : Handle) (st : Story) (o : Offer) : Notice :=
  { s.notice kind st.urgency with
    handle := some h, slug := some st.slug, fromDesk := some st.owner, toDesk := some o.target }

/-- An offer expires: the story becomes FILED under its owner, and OFFER_EXPIRED goes to the owner side (R68, R69). -/
def expireOffer (reason : Reason) (s : Switch) (i : SlotId) : Switch :=
  match (s.slot i).story with
  | none => s
  | some st =>
    match st.status with
    | .offered o =>
      (s.setStory i { st with status := .filed }).post
        { s.offerNotice .offerExpired (s.handleAt i) st o with reason := some reason } (s.ownerSide st o)
    | _ => s

/-- The story of a slot is offered to a desk the port serves (R69). -/
def offeredTo (s : Switch) (p : PortId) (x : Slot) : Bool :=
  match x.story with
  | none => false
  | some st =>
    match st.status with
    | .offered o => s.serves p o.target
    | _ => false

/-- Every open offer whose target desk the port serves expires (R69), in ascending slot order, and so do the notices of several
in one event (DESIGN CHOICE, log entry 36; unsafe). -/
def expireOffersTo (s : Switch) (p : PortId) : Switch :=
  (s.slots.indices (s.offeredTo p)).foldl (expireOffer .portDetached) s

end Switch

end Sys2Proof.Machine
end

