-- ==== Sys2Proof/Machine/Exchange.lean ====
section
/-! DEFINITION. The command exchange: the port's own checks of a command frame, result streams, the abandoning of a running command, counted faults and the detach of a port (spec/09), and the frame of every event. -/

namespace Sys2Proof.Machine

/-- What the port makes of a good command frame: unread while its reset line is up (R165), refused with a tag and code, or
taken by the block that owns it (R156). -/
inductive Gate where
  | unread
  | refused (tag : Byte) (code : Code)
  | taken
  deriving DecidableEq, Repr

/-- The commands that control ports alone may send (spec/09 9.10). -/
def controlOnly : Cmd → Bool
  | .purge | .breakLock | .filter | .mask | .clockStart | .clockStop | .turn | .editionLength | .deadline | .channel
  | .page | .links | .reattach | .settings | .save | .hold | .unhold | .restart => true
  | .file | .find | .describe | .reclassify | .route | .spike | .restore | .read | .storeStatus | .checkout | .renew
  | .abandon | .checkin | .offer | .accept | .decline | .withdraw | .collect | .watch | .unwatch | .clockStatus | .place
  | .unplace | .release | .recall | .pageStatus | .feedStatus | .attach | .portStatus | .dump | .identify => false

namespace Switch

/-- The port's checks of a command frame, in the order of R156; a command of none is an unknown or missing code. -/
def portCheck (s : Switch) (h : Head) (c : Option Cmd) : Gate :=
  if (s.port h.port).resetLine then .unread
  else if s.starting then .refused h.tag .starting
  else if (s.port h.port).phase ≠ .idle then .refused h.tag .busy
  else if h.tag = 0 then .refused 0 .badParam
  else if s.isDetached h.port ∧ c ≠ some .attach then .refused h.tag .detached
  else
    match c with
    | none => .refused h.tag .badCommand
    | some c => if controlOnly c && !s.isControl h.port then .refused h.tag .notPermitted else .taken

/-- A command frame: refused by the port, or its parameters checked and handed to the block that owns it. Parameters of
none are a payload of the wrong layout or a value out of range: BAD_PARAM (R156, R175). -/
def takeCommand (s : Switch) (h : Head) (c : Cmd) (a : Option α) (body : α → Switch → Switch) : Switch :=
  match s.portCheck h (some c) with
  | .unread => s
  | .refused tag code => s.refuse { h with tag := tag } code
  | .taken =>
    match a with
    | none => s.refuse h .badParam
    | some a => body a s

/-- The story a command names, or NO_STORY (R2). -/
def onStory (s : Switch) (h : Head) (a : Handle) (k : Story → Switch) : Switch :=
  match s.story a with
  | none => s.refuse h .noStory
  | some st => k st

/-- The right over a story, or NOT_PERMITTED (R5). -/
def withRight (s : Switch) (h : Head) (d : DeskId) (k : Switch) : Switch :=
  if s.mayChange h.port d then k else s.refuse h .notPermitted

/-! ### Result streams (R155, R159) -/

/-- An OK that opens a result stream: the port goes to RESULT. A frame is due at once, so that a hold line already up
starts the hold (R159; DEDUCED, log entry 23; unsafe). -/
def openStream (s : Switch) (h : Head) (c : Cmd) (values : List Byte) (x : Stream) : Switch :=
  let s := s.answer h .ok values
  let p := s.port h.port
  s.setPort h.port
    { p with phase := .result, running := some { tag := h.tag, cmd := c }, stream := some x,
             holdStart := if p.holdLine then some s.wall else none }

/-- A status command: OK, and its result data in frames of 256 bytes (R155, R175). -/
def report (s : Switch) (h : Head) (c : Cmd) (data : List Byte) : Switch :=
  s.openStream h c [] (.report (chunks data))

/-- The port returns to IDLE with no running command (R155). -/
def toIdle (s : Switch) (p : PortId) : Switch :=
  s.setPort p { s.port p with phase := .idle, running := none, stream := none, holdStart := none }

/-- The end or abandonment of a stream: a READ stream releases its pin (R36, R85, R159). -/
def endStream (s : Switch) (p : PortId) : Switch :=
  let x := (s.port p).stream
  let s := s.toIdle p
  match x with
  | some (.read h n _) => s.unpin h n
  | some (.collect _) => s
  | some (.report _) => s
  | none => s

/-! ### Abandoned commands, detach and counted faults (R161, R162) -/

/-- A SAVE goes on without the port that issued it (R169). -/
def orphanSave (s : Switch) (p : PortId) : Switch :=
  match s.saving with
  | none => s
  | some x => if x.port = some p then { s with saving := some { x with port := none } } else s

/-- The running command of a port is abandoned with no result: its upload fails, its stream ends, a SAVE goes on (R162, R165). -/
def abandonCommand (s : Switch) (p : PortId) : Switch := ((s.abandonUpload p).orphanSave p).endStream p

/-- The inbox is emptied and the lost count becomes 0 (R86). -/
def emptyInbox (s : Switch) (p : PortId) : Switch := s.setInbox p Inbox.empty

/-- A port becomes DETACHED: the standing first, then the six parts of R162 in order; the quiet start is this tick. -/
def detach (s : Switch) (p : PortId) : Switch :=
  let s := s.setPort p { s.port p with standing := .detached, quietStart := s.wall }
  let s := s.abandonCommand p
  let s := s.releaseLocks p
  let s := s.dropWatches fun w => w.port == p
  let s := s.emptyInbox p
  let s := s.expireOffersTo p
  s.postControl { s.notice .portDetached .bulletin with note := some (byte p.val) }

/-- A counted fault: the +8 step, after what the event does; or, where the step would pass 255, the detach of the port in
place of both (R161, R162). -/
def countFault (s : Switch) (p : PortId) (k : Switch → Switch) : Switch :=
  if s.wouldDetach p then s.detach p else (k s).raiseFaults p

/-! ### Events -/

/-- One event: the record of the last event is cleared, the event happens, and the eased test is made once (R33). -/
def event (s : Switch) (f : Switch → Switch) : Switch := (f { s with last := { sent := [], released := false } }).easedTest

end Switch

/-- An event taken: every event goes on to a next state (DESIGN CHOICE, log entry 7; safe). The queue is left as it is. -/
def State.run (s : State) (f : Switch → Switch) : Host.Outcome State Fault Refusal := .next { s with sw := s.sw.event f }

/-- A command frame taken as an event. -/
def State.command (s : State) (h : Head) (c : Cmd) (a : Option α) (body : α → Switch → Switch) :
    Host.Outcome State Fault Refusal := s.run fun w => w.takeCommand h c a body

end Sys2Proof.Machine
end

