-- ==== Sys2Proof/Machine/Release.lean ====
section
/-! DEFINITION. Snapshots, jobs and the release queue: what RELEASE, the deadline channels and the feed do to a page and its pins (spec/07). -/

namespace Sys2Proof.Machine

/-- The snapshot entry of a placement whose story gives no version: OMITTED (R123). -/
def Placement.omitted (pl : Placement) : Entry :=
  { handle := pl.handle, frame := pl.frame, version := none, length := 0, openAtRelease := false }

/-- The snapshot entry of a placement, from the story it names: FILED, OFFERED and OPEN stories give their current version,
all others an OMITTED entry (R123). -/
def entryOf (pl : Placement) (st : Option Story) : Entry :=
  match st with
  | none => pl.omitted
  | some st =>
    match st.status, st.current with
    | .filed, some v => { pl.omitted with version := some v.number, length := v.length }
    | .offered _, some v => { pl.omitted with version := some v.number, length := v.length }
    | .opened _, some v => { pl.omitted with version := some v.number, length := v.length, openAtRelease := true }
    | _, _ => pl.omitted

/-- The job length: page header, a placement header for each entry, the captured texts and the END trailer (R124). -/
def jobLength (entries : List Entry) : Nat := 16 + 32 * entries.length + (entries.map Entry.length).sum + 8

/-- The number of OMITTED entries of a snapshot (R122). -/
def omittedCount (entries : List Entry) : Nat := (entries.filter fun e => e.version.isNone).length

/-- The standing of a QUEUED page in the queue: returned, then rush, then by queue key, "unbound" after every deadline
(R125). -/
def Job.rank (j : Job) : Nat × Nat :=
  if j.returned then (0, 0)
  else if j.rush then (1, 0)
  else
    match j.key with
    | some d => (2, d)
    | none => (3, 0)

/-- One standing comes strictly before another. -/
def rankBefore (x y : Nat × Nat) : Bool := x.1 < y.1 || (x.1 == y.1 && x.2 < y.2)

namespace Switch

/-- The snapshot of a layout, and the switch with a pin on each version captured, in layout order (R123). -/
def snapshot (s : Switch) : List Placement → Switch × List Entry
  | [] => (s, [])
  | pl :: l =>
    let e := entryOf pl (s.story pl.handle)
    let s :=
      match e.version with
      | none => s
      | some n => s.pin e.handle n
    let (s, rest) := s.snapshot l
    (s, e :: rest)

/-- Every pin of a snapshot is released (R31). They go in entry order, and so do the purges they complete, with their GONE
notices and returned chains (DESIGN CHOICE, log entry 35; unsafe). -/
def releasePins (s : Switch) (entries : List Entry) : Switch :=
  entries.foldl (fun s e => match e.version with | none => s | some n => s.unpin e.handle n) s

/-- The standing of a page that waits; a page with no job stands last. -/
def queueRank (s : Switch) (q : PageId) : Nat × Nat :=
  match (s.page q).job with
  | none => (4, 0)
  | some j => j.rank

/-- A page in its place: after every page that precedes it or equals it, before every page that follows it (R125). -/
def enqueue (s : Switch) (q : PageId) : List PageId → List PageId
  | [] => [q]
  | x :: l => if rankBefore (s.queueRank q) (s.queueRank x) then q :: x :: l else x :: enqueue s q l

/-- The page's place among the QUEUED pages, counted from 1 at the head (R122). -/
def placeOf (s : Switch) (q : PageId) : Nat := s.queue.idxOf q + 1

/-- The queue key of a page bound to a channel: the channel's active deadline (R124). -/
def queueKey (s : Switch) (d : PageDef) : Option Nat := d.binding.map fun c => (s.channel c).active

/-- A page with a definition is released to a place of its own: snapshot, job and place (R122 to R125). -/
def releasePage (s : Switch) (q : PageId) (d : PageDef) (rush : Bool) : Switch :=
  let (s, entries) := s.snapshot (s.page q).layout
  let job : Job :=
    { entries := entries, edition := s.clock.edition, length := jobLength entries, rush := rush, key := s.queueKey d,
      order := s.releases + 1, attempts := 0, stamp := s.wall, returned := false, label := d.label, owner := d.owner,
      binding := d.binding }
  let s := { s with releases := s.releases + 1 }
  let s := s.setPage q { s.page q with state := .queued, job := some job }
  { s with queue := s.enqueue q s.queue }

/-- A QUEUED page's job is replaced in place: the old pins are released before the new snapshot is taken, and the page
keeps its place, rush flag, queue key, release order and returned mark (R126). The sequence of releases does not move on
(DESIGN CHOICE, log entry 38; unsafe). -/
def reRelease (s : Switch) (q : PageId) (d : PageDef) (old : Job) : Switch :=
  let s := s.releasePins old.entries
  let (s, entries) := s.snapshot (s.page q).layout
  s.setPage q
    { s.page q with
      job := some
        { old with entries := entries, edition := s.clock.edition, length := jobLength entries, attempts := 0, stamp := s.wall,
                   label := d.label, owner := d.owner, binding := d.binding } }

/-- A job ends: the page gives up its queue place and goes to a state with no job, and every pin of its snapshot is
released (R127, R129, R130). -/
def endJob (s : Switch) (q : PageId) (x : Page) : Switch :=
  let entries := ((s.page q).job.map Job.entries).getD []
  let s := { s with queue := s.queue.filter fun y => y != q, sending := if s.sending = some q then none else s.sending }
  (s.setPage q { x with job := none }).releasePins entries

/-- A page's attempts are exhausted: FAULTED, and PAGE_FAULT to the page owner's port and the control ports (R130). -/
def faultPage (s : Switch) (q : PageId) (reason : Reason) : Switch :=
  let edition := ((s.page q).job.map Job.edition).getD 0
  let s := s.endJob q { s.page q with state := .faulted }
  s.post
    { s.notice .pageFault .flash with page := some q, edition := some edition, reason := some reason }
    (fun p => s.pageOwnerPort q p || s.isControl p)

/-- The typesetter has accepted the SENDING page: SENT when its tag is the current edition, else MAKING, and PAGE_SENT to
the page owner's port; the channels judge their groups (R129, R111). -/
def completePage (s : Switch) (q : PageId) : Switch :=
  let before := s
  let edition := ((s.page q).job.map Job.edition).getD 0
  let s := s.endJob q
    { s.page q with lastSent := edition, state := if edition = s.clock.edition then .sent else .making }
  let s := s.post { s.notice .pageSent .priority with page := some q, edition := some edition } (s.pageOwnerPort q)
  s.judgeGroups before

/-- One page of an automatic release: released with the rush flag clear, or left with RELEASE_BLOCKED to the page owner's
port when the queue is full (R131). -/
def autoReleasePage (c : ChannelId) (s : Switch) (q : PageId) : Switch :=
  match s.pageDef q with
  | none => s
  | some d =>
    if s.placesHeld < Config.queuePlaces then s.releasePage q d false
    else
      s.post
        { s.notice .releaseBlocked .flash with page := some q, channel := some c, edition := some s.clock.edition }
        (s.pageOwnerPort q)

/-- The pages an automatic release selects: in the group, MAKING or FAULTED, not last sent in the reference edition (R114). -/
def autoSelected (s : Switch) (c : ChannelId) (reference : Nat) : List PageId :=
  (s.groupPages c).filter fun q =>
    ((s.page q).state == .making || (s.page q).state == .faulted) && (s.page q).lastSent != reference

/-- An automatic release, in ascending page slot order (R114). -/
def autoRelease (s : Switch) (c : ChannelId) (reference : Nat) : Switch :=
  (s.autoSelected c reference).foldl (autoReleasePage c) s

end Switch

end Sys2Proof.Machine
end

