-- ==== Sys2Proof/Machine/Links.lean ====
section
/-! DEFINITION. The feed's shared operations: the active link and its changes, attempts, the page stream, stalls, the void order and the pace meter (spec/08, spec/11 11.5). -/

namespace Sys2Proof.Machine

/-- A link as a reason code (R140). -/
def linkReason : LinkId → Reason
  | .a => .linkA
  | .b => .linkB

/-- A link's engine IDLE with no page in flight (R137); bytes taken and trailer bytes taken go back to 0 (DESIGN CHOICE, log
entry 4; unsafe). -/
def Link.idled (x : Link) : Link := { x with engine := .idle, page := none, taken := 0, trailerTaken := 0, voided := none }

/-- A link that is enabled: SETTLING from this tick if its ready line is up, else DOWN (R135, R136, R150). -/
def Link.enabled (x : Link) (wall : Word32) : Link :=
  if x.ready then { x with state := .settling, settleStart := wall } else { x with state := .down }

namespace Switch

/-! ### The pace meter (R148, R149) -/

/-- A pace window opens with this tick as its start and the pace window of the FEED group as its length (R148). -/
def openWindow (s : Switch) : Switch :=
  { s with pace := { s.pace with window := some { start := s.wall, length := s.groups.feed.paceWindow, count := 0 } } }

/-- The open pace window is discarded, with no sample (R148). -/
def discardWindow (s : Switch) : Switch := { s with pace := { s.pace with window := none } }

/-- The meter is cleared at a change of the active link: no sample, pace 0 (R149). -/
def clearPace (s : Switch) : Switch := { s with pace := { s.pace with samples := [], pace := 0 } }

/-- The samples after a new one, at most four (R149). -/
def keepSamples (samples : List Nat) (n : Nat) : List Nat :=
  let l := samples ++ [n]
  l.drop (l.length - Config.paceSamples)

/-- The pace of the samples kept: the newest, or the whole part of their mean (R149). -/
def paceOf (mode : PaceMode) (samples : List Nat) : Nat :=
  match mode with
  | .single => samples.getLast?.getD 0
  | .average4 => samples.sum / samples.length

/-! ### The active link (R138, R139, R140) -/

/-- A notice of the feed, to the control ports (R140). -/
def postLink (s : Switch) (kind : NoticeKind) (cls : Urgency) (l : LinkId) (q : Option PageId) : Switch :=
  s.postControl { s.notice kind cls with reason := some (linkReason l), page := q }

/-- The active link changes, and the pace meter is cleared. -/
def activate (s : Switch) (l : LinkId) : Switch := ({ s with active := l }).clearPace

/-- The active link has left UP: the other link takes over if it is UP, else LINK_DOWN (R138). -/
def failOver (s : Switch) (left : LinkId) (q : Option PageId) : Switch :=
  if (s.link left.other).state = .up then (s.activate left.other).postLink .linkSwitched .flash left.other q
  else s.postLink .linkDown .flash left q

/-- A link has become UP: it takes over when the active link is not UP (R138). -/
def takeOver (s : Switch) (l : LinkId) : Switch :=
  if l ≠ s.active ∧ (s.link s.active).state ≠ .up then
    let s := s.activate l
    if l = s.groups.feed.home then s.postLink .linkReturned .priority l none
    else s.postLink .linkSwitched .flash l none
  else s

/-- The return to the home link, when it is UP and the active engine is IDLE (R139). -/
def returnHome (s : Switch) : Switch :=
  let home := s.groups.feed.home
  if s.active ≠ home ∧ (s.link home).state = .up ∧ (s.link s.active).engine = .idle then
    (s.activate home).postLink .linkReturned .priority home none
  else s

/-- An engine has become IDLE: a link found with ready down goes DOWN, with the fail-over of R138 if it is active and no
page slot, and then a pending return is taken (R136, R139, R143). -/
def engineIdled (s : Switch) (l : LinkId) : Switch :=
  let x := s.link l
  let s :=
    if x.ready = false ∧ x.state = .up then
      let s := s.setLink l { x with state := .down }
      if s.active = l then s.failOver l none else s
    else s
  s.returnHome

/-! ### Attempts (R128, R141, R144, R145) -/

/-- The job of a page changed by f. -/
def changeJob (s : Switch) (q : PageId) (f : Job → Job) : Switch :=
  s.setPage q { s.page q with job := (s.page q).job.map f }

/-- The attempt count of a page's job. -/
def attempts (s : Switch) (q : PageId) : Nat := ((s.page q).job.map Job.attempts).getD 0

/-- An attempt at a page begins on a link: SENDING, its attempt count one higher, the engine PRESENTING from the first byte,
and a pace window opens (R128, R141, R148). -/
def beginAttempt (s : Switch) (l : LinkId) (q : PageId) : Switch :=
  let s := s.changeJob q fun j => { j with attempts := j.attempts + 1, returned := false }
  let s := s.setPage q { s.page q with state := .sending }
  let s := { s with sending := some q }
  let s := s.setLink l { s.link l with engine := .presenting, page := some q, taken := 0, progress := s.wall }
  s.openWindow

/-- A SENDING page goes back to the head of the queue with its returned mark (R128, R145). -/
def returnPage (s : Switch) (q : PageId) : Switch :=
  let s := s.changeJob q fun j => { j with returned := true }
  let s := s.setPage q { s.page q with state := .queued }
  { s with sending := none, queue := q :: s.queue }

/-- The attempt in flight on a link is abandoned, the link already DOWN or OFF with its engine IDLE: the page is faulted,
restarted on the other link, or returned, and the active link is settled (R145). -/
def abandonAttempt (s : Switch) (l : LinkId) (q : PageId) : Switch :=
  let s := s.discardWindow
  if s.groups.feed.attemptLimit ≤ s.attempts q then (s.faultPage q .stalled).failOver l (some q)
  else if (s.link l.other).state = .up then
    ((s.activate l.other).beginAttempt l.other q).postLink .linkSwitched .flash l.other (some q)
  else (s.returnPage q).postLink .linkDown .flash l (some q)

/-- A link leaves UP with its engine busy, by a stall or a disable: the engine becomes IDLE, and the attempt, if one was in
flight, is abandoned; in VOIDING no page is affected (R145, R147). -/
def breakOff (s : Switch) (l : LinkId) (state : LinkState) : Switch :=
  let x := s.link l
  let s := s.setLink l { x.idled with state := state }
  match x.engine, x.page with
  | .presenting, some q => s.abandonAttempt l q
  | .awaiting, some q => s.abandonAttempt l q
  | _, _ => s.failOver l none

/-- The void order: the engine of the page in flight goes to VOIDING, keeping the page slot and edition tag of the voided
job for the trailer (R147). -/
def voidAttempt (s : Switch) (q : PageId) (edition : Nat) : Switch :=
  let l := s.active
  let x := s.link l
  if x.page = some q ∧ (x.engine = .presenting ∨ x.engine = .awaiting) then
    (s.setLink l
      { x with engine := .voiding, page := none, taken := 0, trailerTaken := 0, voided := some (q, edition),
               progress := s.wall }).discardWindow
  else s

/-! ### The typesetter stream (spec/11 11.5) -/

/-- The page header, 16 bytes. -/
def pageHeader (q : PageId) (j : Job) : List Byte :=
  [0x50, j.label.letter, byte j.label.number, byte q.val, byte j.edition, byte j.entries.length] ++ be32 j.length ++
    [byte j.owner.val, orAllOnes j.binding fun c => byte c.val, 0, 0, 0, 0]

/-- The flags byte of a snapshot entry: bit 0 OPEN_AT_RELEASE, bit 1 OMITTED. -/
def entryFlags (e : Entry) : Byte := (if e.openAtRelease then 1 else 0) ||| (if e.version.isNone then 2 else 0)

/-- The placement header of a snapshot entry, 32 bytes. -/
def placementHeader (index : Nat) (e : Entry) : List Byte :=
  [0x54, byte index] ++ e.handle.bytes ++ [entryFlags e] ++ be16 (e.version.getD 0) ++ be16 e.length ++
    [0, 0, 0, 0, 0, 0] ++ e.frame

/-- The captured text of a snapshot entry, read from the version's block chain (R142). -/
def entryText (s : Switch) (e : Entry) : List Byte :=
  match e.version with
  | none => []
  | some n =>
    let chain := (((s.story e.handle).bind fun st => st.version n).map Version.chain).getD []
    textSlice s.store.copy chain 0 e.length

/-- The snapshot entries of a stream, each header followed by its text, counted from an index. -/
def entriesStream (s : Switch) : Nat → List Entry → List Byte
  | _, [] => []
  | i, e :: l => placementHeader i e ++ s.entryText e ++ s.entriesStream (i + 1) l

/-- The bytes of an attempt before its trailer (R142, R177). -/
def pageBody (s : Switch) (q : PageId) (j : Job) : List Byte := pageHeader q j ++ s.entriesStream 0 j.entries

/-- The END trailer, with the CRC-16 over every byte before it (R177). -/
def endTrailer (q : PageId) (j : Job) (body : List Byte) : List Byte :=
  [0x45, byte q.val, byte j.edition, 0] ++ be16 (crc16 body).toNat ++ [0, 0]

/-- The stream of an attempt at a page (R142). -/
def pageStream (s : Switch) (q : PageId) (j : Job) : List Byte :=
  let body := s.pageBody q j
  body ++ endTrailer q j body

/-- The VOID trailer (spec/11 11.5). -/
def voidTrailer (v : PageId × Nat) : List Byte := [0x56, byte v.1.val, byte v.2, 0, 0, 0, 0, 0]

/-- The byte a link presents, if any: of the page stream while PRESENTING, of the VOID trailer while VOIDING (R142, R147). -/
def presented (s : Switch) (l : LinkId) : Option Byte :=
  let x := s.link l
  match x.engine with
  | .presenting => x.page.bind fun q => (s.page q).job.bind fun j => (s.pageStream q j)[x.taken]?
  | .voiding => x.voided.bind fun v => (voidTrailer v)[x.trailerTaken]?
  | .idle => none
  | .awaiting => none

/-- The byte a link presents leaves the switch. -/
def emitPresented (s : Switch) (l : LinkId) : Switch :=
  match s.presented l with
  | none => s
  | some b => s.emit (.byte l b)

end Switch

end Sys2Proof.Machine
end

