-- ==== Sys2Proof/Machine/Reports.lean ====
section
/-! DEFINITION. The values of result frames and result data, and the encoding of notices and of the settings groups (R175, R176, spec/11 11.4). Where the layouts are silent the choices are those of log entries 17, 18, 24, 30, 43, 44 and 46. -/

namespace Sys2Proof.Machine

/-! ### Notices (R176) -/

/-- The optional fields of a notice in the order of the presence mask's bits, each absent or its bytes. -/
def Notice.fields (n : Notice) : List (Option (List Byte)) :=
  [ n.handle.map Handle.bytes,
    n.slug.map counted,
    n.version.map be16,
    n.fromDesk.map fun d => [byte d.val],
    n.toDesk.map fun d => [byte d.val],
    n.page.map fun q => [byte q.val],
    n.channel.map fun c => [byte c.val],
    n.edition.map fun e => [byte e],
    n.reason.map fun r => [r.byte],
    n.note.map fun x => [x],
    n.screens.map fun l => counted (l.map fun x => byte x.val) ]

/-- The presence mask: bit k is one exactly when field k is present. -/
def presenceMask : List (Option (List Byte)) → Nat
  | [] => 0
  | f :: l => (if f.isSome then 1 else 0) + 2 * presenceMask l

/-- A notice as its result-data frame carries it: kind, class, stamp, presence mask, and the fields present (R176). -/
def Notice.encode (n : Notice) : List Byte :=
  [n.kind.byte, n.cls.byte] ++ be32 n.stamp.toNat ++ be16 (presenceMask n.fields) ++ n.fields.flatMap (·.getD [])

/-! ### Stories (R11) -/

/-- A version in DESCRIBE's result data. -/
def Version.report (v : Version) : List Byte :=
  be16 v.number ++ be16 v.length ++ be16 v.pins ++ be32 v.stamp.toNat ++ v.author.bytes ++ [flagByte v.retiring]

/-- The lock in DESCRIBE's result data. -/
def Lock.report (l : Lock) : List Byte := l.holder.bytes ++ be32 l.expiry.toNat ++ [flagByte l.suspended]

/-- The offer in DESCRIBE's result data. -/
def Offer.report (o : Offer) : List Byte := [byte o.target.val, byte o.port.val, o.note] ++ be32 o.expiry.toNat

/-- The lock of a story, present while OPEN. -/
def Story.lock (st : Story) : Option Lock :=
  match st.status with
  | .opened l => some l
  | _ => none

/-- The offer of a story, present while OFFERED. -/
def Story.offer (st : Story) : Option Offer :=
  match st.status with
  | .offered o => some o
  | _ => none

/-- The purge-pending flag of a story. -/
def Story.purgePending (st : Story) : Bool := st.status == .spiked true

namespace Switch

/-- DESCRIBE's result data (R11). -/
def storyReport (s : Switch) (h : Handle) (st : Story) : List Byte :=
  h.bytes ++ [(s.slot h.slot).stateByte] ++ counted st.slug ++ [byte st.owner.val, st.urgency.byte] ++ be16 st.category ++
    counted (st.route.map fun d => byte d.val) ++ [flagByte st.purgePending] ++ be16 (s.watcherCount h) ++
    records st.versions Version.report ++ optional st.lock Lock.report ++ optional st.offer Offer.report

/-! ### The store (R37) -/

/-- The number of version records whose pin count is nonzero. -/
def pinnedVersions (s : Switch) : Nat :=
  (s.slots.cells.map fun x =>
    match x.story with
    | none => 0
    | some st => (st.versions.filter fun v => v.pins != 0).length).sum

/-- STORE STATUS's values. -/
def storeReport (s : Switch) : List Byte :=
  be16 s.store.freeCount ++ be16 s.store.reserved ++ [flagByte s.store.tight] ++ be16 s.pinnedVersions

/-! ### The clock (R116) -/

/-- A channel in CLOCK STATUS's result data; a next late tick of none is FFFFh. -/
def channelReport (s : Switch) (c : ChannelId) : List Byte :=
  let x := s.channel c
  be16 x.active ++ be16 (s.channelSettings c).deadline ++ [x.state.byte] ++ be16 x.lateCount ++ be16 (x.nextLate.getD 65535) ++
    [flagByte x.atRisk]

/-- CLOCK STATUS's result data. -/
def clockReport (s : Switch) : List Byte :=
  be32 s.wall.toNat ++ [flagByte s.clock.running] ++ be16 s.clock.ticks ++ [byte s.clock.edition] ++ be16 s.clock.activeLength ++
    be16 s.groups.clock.editionLength ++ records (allBelow 16) s.channelReport

/-! ### Pages (R134) -/

/-- A queue key that may be "unbound". -/
def keyReport (key : Option Nat) : List Byte := optional key be16

/-- A job's fields in the order of R124; the release order in four bytes (DESIGN CHOICE, log entry 39; unsafe). -/
def jobReport (j : Job) : List Byte :=
  [byte j.edition] ++ be32 j.length ++ [flagByte j.rush] ++ keyReport j.key ++ be32 j.order ++ [byte j.attempts] ++
    be32 j.stamp.toNat ++ [flagByte j.returned] ++ j.label.bytes ++ [byte j.owner.val, orAllOnes j.binding fun c => byte c.val]

/-- A snapshot entry in PAGE STATUS's result data; its flags in one byte with the bits of 11.5 (DESIGN CHOICE, log entry 39;
unsafe). -/
def entryReport (e : Entry) : List Byte :=
  e.handle.bytes ++ be16 (e.version.getD 0) ++ be16 e.length ++ [entryFlags e]

/-- The place in the queue of a page with a job: its place among the QUEUED pages, and for a SENDING page a free value (log entry 19). -/
def placeReport (s : Switch) (q : PageId) : Byte :=
  if (s.page q).state = .sending then Config.sendingPlace s.free else byte (s.placeOf q)

/-- PAGE STATUS's result data for a page slot. One flag byte stands before the job fields, the queue place and the snapshot
entries together, 00h on a page with no job (DESIGN CHOICE, log entry 43; unsafe: R134 and R175 leave open whether each has its own). -/
def pageReport (s : Switch) (q : PageId) : List Byte :=
  let x := s.page q
  optional (s.pageDef q) fun d =>
    d.label.bytes ++ [byte d.owner.val, orAllOnes d.binding fun c => byte c.val] ++ [x.state.byte, byte x.lastSent] ++
      records x.layout (fun pl => pl.handle.bytes ++ pl.frame) ++
      optional x.job fun j => jobReport j ++ [s.placeReport q] ++ records j.entries entryReport

/-- A page holding a queue place in PAGE STATUS's result data for "queue". -/
def queuedReport (s : Switch) (q : PageId) : List Byte :=
  [byte q.val, (s.page q).state.byte] ++
    match (s.page q).job with
    | none => []
    | some j =>
      [flagByte j.rush] ++ keyReport j.key ++ [flagByte j.returned, byte j.edition, byte j.attempts] ++ be32 j.length

/-- The pages holding a queue place, the SENDING page first and then the QUEUED pages from the head (R125, 7.8). -/
def placeHolders (s : Switch) : List PageId :=
  match s.sending with
  | none => s.queue
  | some q => q :: s.queue

/-- PAGE STATUS's result data for "queue". -/
def queueReport (s : Switch) : List Byte := records s.placeHolders s.queuedReport

/-! ### The feed (R150, R152) -/

/-- LINKS' values: state and engine of each link, and the active link. -/
def linksReport (s : Switch) : List Byte :=
  [s.links.a.state.byte, s.links.a.engine.byte, s.links.b.state.byte, s.links.b.engine.byte, LinkId.byte s.active]

/-- The SENDING page in FEED STATUS's result data: slot, attempt count, bytes taken and job length (R152). -/
def sendingReport (s : Switch) (q : PageId) : List Byte :=
  [byte q.val, byte (s.attempts q)] ++ be32 (s.link s.active).taken ++ be32 (((s.page q).job.map Job.length).getD 0)

/-- FEED STATUS's result data. -/
def feedReport (s : Switch) : List Byte :=
  records [LinkId.a, LinkId.b] (fun l =>
      [flagByte (s.groups.feed.enable.get l), (s.link l).state.byte, (s.link l).engine.byte]) ++
    [LinkId.byte s.groups.feed.home, LinkId.byte s.active, byte s.queue.length] ++
    optional s.sending s.sendingReport ++
    be32 s.pace.pace ++ [s.groups.feed.paceMode.byte, byte s.pace.samples.length]

/-! ### Ports (R166) -/

/-- The desks a port serves, by the desk map, in ascending desk number (DESIGN CHOICE, log entry 44; unsafe: R166 gives them no
order). -/
def desksOf (s : Switch) (p : PortId) : List DeskId := (allBelow 16).filter fun d => s.serves p d

/-- PORT STATUS's values: the calling port reports itself in EXECUTING, running this command (R166; DEDUCED, log entry 30; safe).
A flag byte before the command code, and a flag byte for the level of each line, 01h raised, are the model's (DESIGN CHOICE, log
entry 44; unsafe: R166 and R175 give neither an encoding). -/
def portReport (s : Switch) (caller p : PortId) : List Byte :=
  let x := s.port p
  let phase := if p = caller then Phase.executing else x.phase
  let cmd := if p = caller then some Cmd.portStatus else x.running.map Running.cmd
  [phase.byte] ++ optional cmd (fun c => [Cmd.code c]) ++ [byte x.faults, x.standing.byte] ++
    [byte (s.inbox p).notices.length, byte (s.inbox p).lost] ++
    [(s.groups.ports.privilege.get p).byte] ++ records (s.desksOf p) (fun d => [byte d.val]) ++
    [flagByte x.holdLine, flagByte x.resetLine]

end Switch

/-! ### Settings (R170, R178) -/

/-- A list of records of the settings groups: with its count in result data, without it in the settings image (R175, R178). -/
def listed (counts : Bool) (l : List α) (f : α → List Byte) : List Byte := if counts then records l f else l.flatMap f

/-- The PORTS group's fields in the order of R167. -/
def PortsGroup.bytes (counts : Bool) (g : PortsGroup) : List Byte :=
  listed counts g.privilege.cells (fun x => [x.byte]) ++
    listed counts g.serving.cells (fun x => [orAllOnes x fun p => byte p.val]) ++ listed counts g.label.cells id

/-- A filter's fields in the order of R87. -/
def Filter.bytes (f : Filter) : List Byte :=
  [flagByte f.enabled, byte f.mask.val, byte f.desk.val, f.urgency.byte] ++ be16 f.category ++ [f.destinations.setWidth 8]

/-- A mask's fields in the order of R87. -/
def Mask.bytes (m : Mask) : List Byte := [flagByte m.compareDesk, flagByte m.compareUrgency, byte m.categoryBits]

/-- The ROUTING group's fields. -/
def RoutingGroup.bytes (counts : Bool) (g : RoutingGroup) : List Byte :=
  listed counts g.filters.cells Filter.bytes ++ listed counts g.masks.cells Mask.bytes

/-- A channel's six settings in the order of R167. -/
def ChannelSettings.bytes (c : ChannelSettings) : List Byte :=
  be16 c.deadline ++ [c.bufferMode.byte] ++ be16 c.warnLead ++ [c.releaseMode.byte] ++ be16 c.lateInterval ++ [byte c.lateDivisor]

/-- A page definition: defined, then label, owner desk and channel binding; an undefined slot has its "defined" byte alone, in
DUMP (log entry 18) and in the image (DESIGN CHOICE, log entry 46; unsafe). -/
def pageDefBytes (d : Option PageDef) : List Byte :=
  optional d fun d => d.label.bytes ++ [byte d.owner.val, orAllOnes d.binding fun c => byte c.val]

/-- The CLOCK group's fields. -/
def ClockGroup.bytes (counts : Bool) (g : ClockGroup) : List Byte :=
  be16 g.editionLength ++ listed counts g.channels.cells ChannelSettings.bytes ++ listed counts g.pages.cells pageDefBytes

/-- The FEED group's fields. -/
def FeedGroup.bytes (g : FeedGroup) : List Byte :=
  [flagByte g.enable.a, flagByte g.enable.b, LinkId.byte g.home, byte g.stallWindow, byte g.settlePeriod, byte g.attemptLimit,
    byte g.paceWindow, g.paceMode.byte]

/-- The STORE group's fields. -/
def StoreGroup.bytes (g : StoreGroup) : List Byte := be16 g.low ++ be16 g.high ++ be16 g.lease ++ be16 g.offerWindow

/-- The five groups in the order of R167. -/
def Groups.encode (counts : Bool) (g : Groups) : List Byte :=
  g.ports.bytes counts ++ g.routing.bytes counts ++ g.clock.bytes counts ++ g.feed.bytes ++ g.store.bytes

/-- The five groups as DUMP's result data carry them, each list of records with its count (R170, R175). -/
def Groups.bytes (g : Groups) : List Byte := g.encode true

/-- The settings image's contents: the fields of the five groups alone (R178). -/
def Groups.fields (g : Groups) : List Byte := g.encode false

/-- The five hold flags, one byte each. -/
def Holds.bytes (h : Holds) : List Byte :=
  [flagByte h.ports, flagByte h.routing, flagByte h.clock, flagByte h.feed, flagByte h.store]

/-- The image of a copy of the groups: its contents and the check over their fields (R169, R178). -/
def Groups.image (g : Groups) : Image := { contents := g, check := crc32 g.fields }

/-- An image is good when its check word matches and every field is in its range (R169, R178). -/
def Image.good (x : Image) : Bool := x.check == crc32 x.contents.fields && x.contents.inRange

namespace Switch

/-- DUMP's result data (R170). -/
def dumpReport (s : Switch) : List Byte := s.groups.bytes ++ s.holds.bytes

/-- IDENTIFY's values (R173): the settings source is DEFAULTS exactly while the DEFAULTED flag is set. A write
without its port counts as a SAVE in progress (DESIGN CHOICE, log entry 48; unsafe). -/
def identifyReport (s : Switch) : List Byte :=
  [byte Config.partCode, Config.revisionLetter, s.cause.byte, flagByte s.defaulted] ++ s.holds.bytes ++ [flagByte s.saving.isSome]

end Switch

end Sys2Proof.Machine
end

