-- ==== Sys2Proof/Machine/Directory.lean ====
section
/-! DEFINITION. The meanings of the directory's commands: FILE, FIND, DESCRIBE, RECLASSIFY, ROUTE, SPIKE, RESTORE, PURGE (spec/01). -/

namespace Sys2Proof.Machine

namespace Switch

/-- The slot whose story holds a slug, compared after folding (R3). -/
def slugHolder (s : Switch) (slug : List Byte) : Option SlotId :=
  (s.slots.indices fun x =>
    match x.story with
    | none => false
    | some st => st.slug == slug).head?

/-- The lowest-numbered VACANT slot (R7). -/
def lowestVacant (s : Switch) : Option SlotId := (s.slots.indices fun x => x.story.isNone).head?

/-- A FILE completes: version 1, FILED through the filters, and OK with the handle (R8, R25). -/
def completeFile (s : Switch) (h : Head) (u : Upload) : Switch :=
  match s.story u.handle with
  | none => s
  | some st =>
    let (s, st, _) := s.makeVersion h.port u st
    let st := { st with status := .filed }
    let s := (s.setStory u.handle.slot st).postFiltered .filed u.handle st
    s.answer h .ok u.handle.bytes

/-- The upload record a FILE opens (R23, R24). -/
def fileUpload (h : Head) (a : FileParams) (handle : Handle) : Upload :=
  { kind := .file, handle := handle, declared := a.length, taken := 0, staging := [], remaining := blocksFor a.length,
    victim := none, mode := .filling, author := { port := h.port, number := a.screen } }

/-- The record a FILE puts in its slot (R7). -/
def fileStory (a : FileParams) : Story :=
  { status := .filing, slug := a.slug, owner := a.owner, urgency := a.urgency, category := a.category, versions := [],
    route := a.route }

/-- The port's data phase opens with the tick of the command frame (R154, R155). -/
def openDataPhase (s : Switch) (h : Head) (c : Cmd) : Switch :=
  s.setPort h.port
    { s.port h.port with phase := .command, running := some { tag := h.tag, cmd := c }, dataStart := s.wall }

/-- A FILE that passes every check takes a VACANT slot and reserves its blocks; of length 0 it completes in the same event (R7), the
reservation and its tight test before the completion (DEDUCED, log entry 49; unsafe). -/
def takeFile (s : Switch) (h : Head) (a : FileParams) (i : SlotId) : Switch :=
  let handle := s.handleAt i
  let u := fileUpload h a handle
  let s := ((s.setStory i (fileStory a)).setUpload h.port (some u)).reserve (blocksFor a.length)
  if a.length = 0 then s.completeFile h u else s.openDataPhase h .file

/-- FILE's checks in the order of R6 and R7. -/
def fileCommand (h : Head) (a : FileParams) (s : Switch) : Switch :=
  if s.isGuarded h.port then s.refuse h .portGuarded
  else s.withRight h a.owner <|
    if (s.slugHolder a.slug).isSome then s.refuse h .duplicate
    else
      match s.lowestVacant with
      | none => s.refuse h .tooMany
      | some i =>
        if s.tooTightFor a.urgency then s.refuse h .storeTight
        else if s.available < blocksFor a.length then s.refuse h .storeFull
        else s.takeFile h a i

/-- FIND: the handle and state of the story that holds the slug (R10). -/
def findCommand (h : Head) (slug : List Byte) (s : Switch) : Switch :=
  match s.slugHolder slug with
  | none => s.refuse h .noStory
  | some i => s.answer h .ok ((s.handleAt i).bytes ++ [(s.slot i).stateByte])

/-- DESCRIBE: the whole record (R11). -/
def describeCommand (h : Head) (a : Handle) (s : Switch) : Switch :=
  s.onStory h a fun st => s.report h .describe (s.storyReport a st)

/-- A story in FILING or SPIKED answers STORY_BUSY (R12, R13). -/
def unlessFilingOrSpiked (s : Switch) (h : Head) (st : Story) (k : Switch) : Switch :=
  match st.status with
  | .filing => s.refuse h .storyBusy
  | .spiked _ => s.refuse h .storyBusy
  | .filed => k
  | .opened _ => k
  | .offered _ => k

/-- RECLASSIFY: the given fields replace the record's; UPGRADED for a raise, CHANGED always (R12). -/
def reclassifyCommand (h : Head) (a : ReclassifyParams) (s : Switch) : Switch :=
  s.onStory h a.handle fun st => s.withRight h st.owner <| s.unlessFilingOrSpiked h st <|
    let new := { st with urgency := a.urgency.getD st.urgency, category := a.category.getD st.category }
    let s := s.setStory a.handle.slot new
    let s := if st.urgency.rank < new.urgency.rank then s.postFiltered .upgraded a.handle new else s
    (s.postChanged a.handle new .reclassified new.currentNumber).answer h .ok []

/-- ROUTE: the given plan replaces the record's whole (R13). -/
def routeCommand (h : Head) (a : Handle × List DeskId) (s : Switch) : Switch :=
  s.onStory h a.1 fun st => s.withRight h st.owner <| s.unlessFilingOrSpiked h st <|
    (s.setStory a.1.slot { st with route := a.2 }).answer h .ok []

/-- SPIKE by the story's state (R14). From a control port on an OFFERED story CHANGED is posted before OFFER_WITHDRAWN (DESIGN CHOICE,
log entry 47; unsafe: R14 and R64 give the two no order). -/
def spikeCommand (h : Head) (a : Handle) (s : Switch) : Switch :=
  s.onStory h a fun st => s.withRight h st.owner <|
    let spiked := s.setStory a.slot { st with status := .spiked false }
    match st.status with
    | .filed => (spiked.postChanged a st .spiked st.currentNumber).answer h .ok []
    | .spiked _ => s.answer h .ok []
    | .offered o =>
      if s.isControl h.port then
        let s := spiked.postChanged a st .spiked st.currentNumber
        (s.post { s.offerNotice .offerWithdrawn a st o with reason := some .spiked } (s.targetSide o)).answer h .ok []
      else s.refuse h .storyBusy
    | .opened _ => s.refuse h .storyBusy
    | .filing => s.refuse h .storyBusy

/-- RESTORE: a SPIKED story becomes FILED, and a pending purge is cancelled (R15). -/
def restoreCommand (h : Head) (a : Handle) (s : Switch) : Switch :=
  s.onStory h a fun st => s.withRight h st.owner <|
    match st.status with
    | .spiked _ =>
      ((s.setStory a.slot { st with status := .filed }).postChanged a st .restored st.currentNumber).answer h .ok []
    | .filing => s.refuse h .storyBusy
    | .filed => s.refuse h .notSpiked
    | .opened _ => s.refuse h .notSpiked
    | .offered _ => s.refuse h .notSpiked

/-- The purge state of PURGE's result: DONE 0, PENDING 1 (R16). -/
def purgeState (st : Story) : Byte := if st.unpinned then 0 else 1

/-- PURGE: done at once when no version is pinned, else pending (R16). -/
def purgeCommand (h : Head) (a : Handle) (s : Switch) : Switch :=
  s.onStory h a fun st =>
    match st.status with
    | .spiked _ => (s.requestPurge a.slot).answer h .ok [purgeState st]
    | .filing => s.refuse h .storyBusy
    | .filed => s.refuse h .notSpiked
    | .opened _ => s.refuse h .notSpiked
    | .offered _ => s.refuse h .notSpiked

end Switch

/-- FILE (R7). -/
def execFile (h : Head) (a : Option FileArgs) (s : State) : Host.Outcome State Fault Refusal :=
  s.command h .file (a.bind FileArgs.check) (Switch.fileCommand h)

/-- FIND (R10). -/
def execFind (h : Head) (slug : Option (List Byte)) (s : State) : Host.Outcome State Fault Refusal :=
  s.command h .find (slug.bind slugOf) (Switch.findCommand h)

/-- DESCRIBE (R11). -/
def execDescribe (h : Head) (a : Option HandleArg) (s : State) : Host.Outcome State Fault Refusal :=
  s.command h .describe (a.bind handleOf) (Switch.describeCommand h)

/-- RECLASSIFY (R12). -/
def execReclassify (h : Head) (a : Option ReclassifyArgs) (s : State) : Host.Outcome State Fault Refusal :=
  s.command h .reclassify (a.bind ReclassifyArgs.check) (Switch.reclassifyCommand h)

/-- ROUTE (R13). -/
def execRoute (h : Head) (a : Option RouteArgs) (s : State) : Host.Outcome State Fault Refusal :=
  s.command h .route (a.bind RouteArgs.check) (Switch.routeCommand h)

/-- SPIKE (R14). -/
def execSpike (h : Head) (a : Option HandleArg) (s : State) : Host.Outcome State Fault Refusal :=
  s.command h .spike (a.bind handleOf) (Switch.spikeCommand h)

/-- RESTORE (R15). -/
def execRestore (h : Head) (a : Option HandleArg) (s : State) : Host.Outcome State Fault Refusal :=
  s.command h .restore (a.bind handleOf) (Switch.restoreCommand h)

/-- PURGE (R16). -/
def execPurge (h : Head) (a : Option HandleArg) (s : State) : Host.Outcome State Fault Refusal :=
  s.command h .purge (a.bind handleOf) (Switch.purgeCommand h)

end Sys2Proof.Machine
end

