-- ==== Sys2Proof/Machine/CopyStore.lean ====
section
/-! DEFINITION. The meanings of the store's commands: READ and STORE STATUS (spec/02). -/

namespace Sys2Proof.Machine

namespace Switch

/-- The version a READ names: by number, or the newest for "current" (R35). -/
def namedVersion (st : Story) (v : Option Nat) : Option Version :=
  match v with
  | none => st.current
  | some n => st.version n

/-- READ's checks in the order of R35, its pin and its stream; a text of length 0 owes no frame and takes no pin. -/
def readCommand (h : Head) (a : Handle × Option Nat) (s : Switch) : Switch :=
  s.onStory h a.1 fun st =>
    match (if st.status = .filing then none else namedVersion st a.2) with
    | none => s.refuse h .noVersion
    | some v =>
      if st.status = .spiked true then s.refuse h .storyBusy
      else if v.retiring then s.refuse h .versionRetiring
      else
        let values := be16 v.number ++ be16 v.length
        if v.length = 0 then s.answer h .ok values
        else (s.pin a.1 v.number).openStream h .read values (.read a.1 v.number 0)

/-- STORE STATUS (R37). -/
def storeStatusCommand (h : Head) (_ : Unit) (s : Switch) : Switch := s.answer h .ok s.storeReport

end Switch

/-- READ (R35). -/
def execRead (h : Head) (a : Option ReadArgs) (s : State) : Host.Outcome State Fault Refusal :=
  s.command h .read (a.bind ReadArgs.check) (Switch.readCommand h)

/-- STORE STATUS (R37). -/
def execStoreStatus (h : Head) (a : Option Unit) (s : State) : Host.Outcome State Fault Refusal :=
  s.command h .storeStatus a (Switch.storeStatusCommand h)

end Sys2Proof.Machine
end

