-- ==== Sys2Proof/Machine/Custody.lean ====
section
/-! DEFINITION. The meanings of the custody commands and of the lease expiry: CHECKOUT, RENEW, ABANDON, CHECKIN, BREAK, LEASE_EXPIRY (spec/03). -/

namespace Sys2Proof.Machine

namespace Switch

/-- The lock of a story held by a screen of the calling port, or NOT_HOLDER (R44 to R46). -/
def asHolder (s : Switch) (h : Head) (screen : ScreenNo) (st : Story) (k : Lock → Switch) : Switch :=
  match st.status with
  | .opened l => if l.holder = { port := h.port, number := screen } then k l else s.refuse h .notHolder
  | .filing => s.refuse h .notHolder
  | .filed => s.refuse h .notHolder
  | .offered _ => s.refuse h .notHolder
  | .spiked _ => s.refuse h .notHolder

/-- The number and length of the current version, as CHECKOUT reports them (R42). -/
def currentValues (st : Story) : List Byte :=
  be16 st.currentNumber ++ be16 ((st.current.map Version.length).getD 0)

/-- The lock with its lease started afresh, holder and suspended flag unchanged (R40, R44). -/
def renewedLock (s : Switch) (l : Lock) : Lock := { l with start := s.wall, length := s.groups.store.lease }

/-- CHECKOUT (R42, R43): a FILED story becomes OPEN; the holder's own lock is renewed. -/
def checkoutCommand (h : Head) (a : ScreenNo × Handle) (s : Switch) : Switch :=
  s.onStory h a.2 fun st =>
    if s.isGuarded h.port then s.refuse h .portGuarded
    else s.withRight h st.owner <|
      let holder : Screen := { port := h.port, number := a.1 }
      match st.status with
      | .filed =>
        let l := s.freshLock holder
        (s.setStory a.2.slot { st with status := .opened l }).answer h .ok (currentValues st ++ be32 l.expiry.toNat)
      | .opened l =>
        if l.holder = holder then
          let l := s.renewedLock l
          (s.setStory a.2.slot { st with status := .opened l }).answer h .ok (currentValues st ++ be32 l.expiry.toNat)
        else s.refuse h .lockedElsewhere
      | .offered _ => s.refuse h .storyBusy
      | .spiked _ => s.refuse h .storyBusy
      | .filing => s.refuse h .storyBusy

/-- RENEW (R44). -/
def renewCommand (h : Head) (a : ScreenNo × Handle) (s : Switch) : Switch :=
  s.onStory h a.2 fun st => s.asHolder h a.1 st fun l =>
    let l := s.renewedLock l
    (s.setStory a.2.slot { st with status := .opened l }).answer h .ok (be32 l.expiry.toNat)

/-- ABANDON (R45). -/
def abandonCommandFrame (h : Head) (a : ScreenNo × Handle) (s : Switch) : Switch :=
  s.onStory h a.2 fun st => s.asHolder h a.1 st fun _ =>
    (s.setStory a.2.slot { st with status := .filed }).answer h .ok []

/-- A CHECKIN upload completes: the new version is current, CHANGED NEW_VERSION is posted, the lock is kept with a fresh
lease or released, and the result carries the number and, with the keep flag, the new expiry (R48). -/
def completeCheckin (s : Switch) (h : Head) (u : Upload) (keep : Bool) : Switch :=
  match s.story u.handle with
  | none => s
  | some st =>
    let (s, st, n) := s.makeVersion h.port u st
    match st.status with
    | .opened l =>
      let l := { s.renewedLock l with suspended := false }
      let st := { st with status := if keep then .opened l else .filed }
      let s := (s.setStory u.handle.slot st).postChanged u.handle st .newVersion n
      s.answer h .ok (be16 n ++ (if keep then be32 l.expiry.toNat else []))
    | _ => s

/-- The upload record a CHECKIN opens (R24, R46). -/
def checkinUpload (h : Head) (a : CheckinParams) (victim : Option Version) : Upload :=
  { kind := .checkin a.keep, handle := a.handle, declared := a.length, taken := 0, staging := [],
    remaining := blocksFor a.length, victim := victim.map Version.number, mode := .filling,
    author := { port := h.port, number := a.screen } }

/-- A CHECKIN that passes every check: the reservation, the mark on its victim, the suspended lease and the upload record;
of length 0 it completes in the same event, the reservation and its tight test before the completion (R46, R49; DEDUCED, log entry 49;
unsafe). -/
def takeCheckin (s : Switch) (h : Head) (a : CheckinParams) (st : Story) (l : Lock) (victim : Option Version) : Switch :=
  let u := checkinUpload h a victim
  let marked :=
    match victim with
    | none => st.versions
    | some v => changeVersion v.number (fun x => { x with retiring := true }) st.versions
  let s := s.setStory a.handle.slot { st with status := .opened { l with suspended := true }, versions := marked }
  let s := (s.setUpload h.port (some u)).reserve (blocksFor a.length)
  if a.length = 0 then s.completeCheckin h u a.keep else s.openDataPhase h .checkin

/-- CHECKIN's checks in the order of R41 and R34. -/
def checkinCommand (h : Head) (a : CheckinParams) (s : Switch) : Switch :=
  s.onStory h a.handle fun st => s.asHolder h a.screen st fun l =>
    if s.tooTightFor st.urgency then s.refuse h .storeTight
    else if s.available < blocksFor a.length then s.refuse h .storeFull
    else if st.versions.length = Config.versionLimit then
      match st.victim with
      | none => s.refuse h .versionsPinned
      | some v => s.takeCheckin h a st l (some v)
    else s.takeCheckin h a st l none

/-- A BREAK turns the CHECKIN upload of the lock, in FILLING on the holder's port, to DRAINING (R26, R54). -/
def drainUpload (s : Switch) (p : PortId) (a : Handle) : Switch :=
  match s.upload p with
  | none => s
  | some u =>
    match u.kind with
    | .checkin _ =>
      if u.handle = a ∧ u.mode = .filling then
        (s.returnUpload u).setUpload p (some { u with mode := .draining, staging := [], remaining := 0 })
      else s
    | .file => s

/-- BREAK (R53, R54). -/
def breakCommand (h : Head) (a : Handle) (s : Switch) : Switch :=
  s.onStory h a fun st =>
    match st.status with
    | .opened l => ((s.endLock a.slot st l .lockBroken).drainUpload l.holder.port a).answer h .ok []
    | .filing => s.refuse h .notOpen
    | .filed => s.refuse h .notOpen
    | .offered _ => s.refuse h .notOpen
    | .spiked _ => s.refuse h .notOpen

/-- A lease that is due and not suspended expires; one that is not due does not (R51). -/
def expireLease (i : SlotId) (s : Switch) : Switch :=
  match (s.slot i).story with
  | none => s
  | some st =>
    match st.status with
    | .opened l => if l.suspended = false ∧ l.due s.wall = true then s.endLock i st l .lockLapsed else s
    | _ => s

/-- A CHECKIN upload in FILLING has failed: the lease is no longer suspended, and lapses at once if overdue (R50). -/
def resumeLease (s : Switch) (a : Handle) : Switch :=
  match s.story a with
  | none => s
  | some st =>
    match st.status with
    | .opened l =>
      let l := { l with suspended := false }
      if l.due s.wall then s.endLock a.slot st l .lockLapsed else s.setStory a.slot { st with status := .opened l }
    | _ => s

end Switch

/-- CHECKOUT (R42, R43). -/
def execCheckout (h : Head) (a : Option ScreenArgs) (s : State) : Host.Outcome State Fault Refusal :=
  s.command h .checkout (a.bind ScreenArgs.check) (Switch.checkoutCommand h)

/-- RENEW (R44). -/
def execRenew (h : Head) (a : Option ScreenArgs) (s : State) : Host.Outcome State Fault Refusal :=
  s.command h .renew (a.bind ScreenArgs.check) (Switch.renewCommand h)

/-- ABANDON (R45). -/
def execAbandon (h : Head) (a : Option ScreenArgs) (s : State) : Host.Outcome State Fault Refusal :=
  s.command h .abandon (a.bind ScreenArgs.check) (Switch.abandonCommandFrame h)

/-- CHECKIN (R46). -/
def execCheckin (h : Head) (a : Option CheckinArgs) (s : State) : Host.Outcome State Fault Refusal :=
  s.command h .checkin (a.bind CheckinArgs.check) (Switch.checkinCommand h)

/-- BREAK (R53). -/
def execBreakLock (h : Head) (a : Option HandleArg) (s : State) : Host.Outcome State Fault Refusal :=
  s.command h .breakLock (a.bind handleOf) (Switch.breakCommand h)

/-- LEASE_EXPIRY (R51). -/
def execLeaseExpiry (slot : SlotId) (s : State) : Host.Outcome State Fault Refusal := s.run (Switch.expireLease slot)

end Sys2Proof.Machine
end

