-- ==== Sys2Proof/Machine/Passing.lean ====
section
/-! DEFINITION. The meanings of the passing commands and of the offer expiry: OFFER, ACCEPT, DECLINE, WITHDRAW, OFFER_EXPIRY (spec/04). -/

namespace Sys2Proof.Machine

namespace Switch

/-- The target an OFFER finds and the route plan it leaves: a named desk, or the first desk of the plan that is not the owner
desk, the desks before it passed over (R62, R63). -/
def offerTarget (st : Story) (named : Option DeskId) : Except Code (DeskId × List DeskId) :=
  match named with
  | some d => if d = st.owner then .error .sameDesk else .ok (d, st.route)
  | none =>
    match st.route.dropWhile (· == st.owner) with
    | [] => .error .noRoute
    | d :: rest => .ok (d, rest)

/-- The offer an OFFER creates (R63). -/
def freshOffer (s : Switch) (h : Head) (target : DeskId) (note : Byte) : Offer :=
  { target := target, port := h.port, note := note, start := s.wall, length := s.groups.store.offerWindow }

/-- The class of the OFFERED notice: the story's urgency, or PRIORITY if that is ROUTINE (R63, R76). -/
def offeredClass (u : Urgency) : Urgency := if u = .routine then .priority else u

/-- OFFER's checks in the order of R61, and the offer (R63). -/
def offerCommand (h : Head) (a : OfferParams) (s : Switch) : Switch :=
  s.onStory h a.handle fun st =>
    if (s.port h.port).standing ≠ .active then s.refuse h .portGuarded
    else s.withRight h st.owner <|
      if st.status ≠ .filed then s.refuse h .storyBusy
      else
        match offerTarget st a.target with
        | .error code => s.refuse h code
        | .ok (target, route) =>
          match s.serving target with
          | none => s.refuse h .noDesk
          | some p =>
            if s.isDetached p then s.refuse h .noDesk
            else
              let o := s.freshOffer h target a.note
              let s := s.setStory a.handle.slot { st with status := .offered o, route := route }
              let n := { s.offerNotice .offered a.handle st o with cls := offeredClass st.urgency, note := some a.note }
              (s.post n (s.targetSide o)).answer h .ok (byte target.val :: be32 o.expiry.toNat)

/-- The open offer of a story to a named desk, or OFFER_GONE (R65 to R67). -/
def onOffer (s : Switch) (h : Head) (st : Story) (d : DeskId) (k : Offer → Switch) : Switch :=
  match st.status with
  | .offered o => if o.target = d then k o else s.refuse h .offerGone
  | .filing => s.refuse h .offerGone
  | .filed => s.refuse h .offerGone
  | .opened _ => s.refuse h .offerGone
  | .spiked _ => s.refuse h .offerGone

/-- The calling port serves the named desk, or NOT_PERMITTED (R65, R66). -/
def servingDesk (s : Switch) (h : Head) (d : DeskId) (k : Switch) : Switch :=
  if s.serves h.port d then k else s.refuse h .notPermitted

/-- ACCEPT: the target desk becomes the owner desk, and OFFER_TAKEN goes to the owner side of the old owner (R65). -/
def acceptCommand (h : Head) (a : Handle × DeskId) (s : Switch) : Switch :=
  s.onStory h a.1 fun st => s.servingDesk h a.2 <| s.onOffer h st a.2 fun o =>
    let s := s.setStory a.1.slot { st with status := .filed, owner := o.target }
    (s.post (s.offerNotice .offerTaken a.1 st o) (s.ownerSide st o)).answer h .ok []

/-- DECLINE: the story stays with its owner, and OFFER_DECLINED goes to the owner side with the note (R66). -/
def declineCommand (h : Head) (a : Handle × DeskId × Byte) (s : Switch) : Switch :=
  s.onStory h a.1 fun st => s.servingDesk h a.2.1 <| s.onOffer h st a.2.1 fun o =>
    let s := s.setStory a.1.slot { st with status := .filed }
    (s.post { s.offerNotice .offerDeclined a.1 st o with note := some a.2.2 } (s.ownerSide st o)).answer h .ok []

/-- WITHDRAW: the story stays with its owner, and OFFER_WITHDRAWN goes to the target side (R67). -/
def withdrawCommand (h : Head) (a : Handle × DeskId) (s : Switch) : Switch :=
  s.onStory h a.1 fun st => s.withRight h st.owner <| s.onOffer h st a.2 fun o =>
    let s := s.setStory a.1.slot { st with status := .filed }
    (s.post { s.offerNotice .offerWithdrawn a.1 st o with reason := some .withdrawn } (s.targetSide o)).answer h .ok []

/-- An offer that is due expires; one that is not due does not (R68). -/
def lapseOffer (i : SlotId) (s : Switch) : Switch :=
  match (s.slot i).story with
  | none => s
  | some st =>
    match st.status with
    | .offered o => if o.due s.wall then expireOffer .window s i else s
    | _ => s

end Switch

/-- OFFER (R61 to R63). -/
def execOffer (h : Head) (a : Option OfferArgs) (s : State) : Host.Outcome State Fault Refusal :=
  s.command h .offer (a.bind OfferArgs.check) (Switch.offerCommand h)

/-- ACCEPT (R65). -/
def execAccept (h : Head) (a : Option DeskArgs) (s : State) : Host.Outcome State Fault Refusal :=
  s.command h .accept (a.bind DeskArgs.check) (Switch.acceptCommand h)

/-- DECLINE (R66). -/
def execDecline (h : Head) (a : Option DeclineArgs) (s : State) : Host.Outcome State Fault Refusal :=
  s.command h .decline (a.bind DeclineArgs.check) (Switch.declineCommand h)

/-- WITHDRAW (R67). -/
def execWithdraw (h : Head) (a : Option DeskArgs) (s : State) : Host.Outcome State Fault Refusal :=
  s.command h .withdraw (a.bind DeskArgs.check) (Switch.withdrawCommand h)

/-- OFFER_EXPIRY (R68). -/
def execOfferExpiry (slot : SlotId) (s : State) : Host.Outcome State Fault Refusal := s.run (Switch.lapseOffer slot)

end Sys2Proof.Machine
end

