-- ==== Sys2Proof/Machine/Notices.lean ====
section
/-! DEFINITION. The meanings of the notice unit's commands: COLLECT, FILTER, MASK, WATCH, UNWATCH (spec/05). -/

namespace Sys2Proof.Machine

namespace Switch

/-- COLLECT: the lost count is reported and cleared, and a stream of the smaller of the count and the depth opens (R83). -/
def collectCommand (h : Head) (count : Nat) (s : Switch) : Switch :=
  let box := s.inbox h.port
  let send := min count box.notices.length
  let values := [byte box.lost, byte (box.notices.length - send)]
  let s := s.setInbox h.port { box with lost := 0 }
  if send = 0 then s.answer h .ok values else s.openStream h .collect values (.collect send)

/-- FILTER replaces every field of a filter (R90). -/
def filterCommand (h : Head) (a : Fin 24 × Filter) (s : Switch) : Switch :=
  let r := s.groups.routing
  (s.setGroups { s.groups with routing := { r with filters := r.filters.set a.1 a.2 } }).answer h .ok []

/-- MASK replaces a mask's fields (R91). -/
def maskCommand (h : Head) (a : Fin 4 × Mask) (s : Switch) : Switch :=
  let r := s.groups.routing
  (s.setGroups { s.groups with routing := { r with masks := r.masks.set a.1 a.2 } }).answer h .ok []

/-- WATCH (R93). -/
def watchCommand (h : Head) (a : ScreenNo × Handle) (s : Switch) : Switch :=
  s.onStory h a.2 fun _ =>
    let w : Watch := { handle := a.2, port := h.port, screen := a.1 }
    if s.watches.contains w then s.answer h .ok []
    else if Config.watchLimit ≤ s.watches.length then s.refuse h .tooMany
    else ({ s with watches := s.watches ++ [w] }).answer h .ok []

/-- UNWATCH (R94): the result says whether an entry was removed. -/
def unwatchCommand (h : Head) (a : ScreenNo × Handle) (s : Switch) : Switch :=
  s.onStory h a.2 fun _ =>
    let w : Watch := { handle := a.2, port := h.port, screen := a.1 }
    (s.dropWatches (· == w)).answer h .ok [flagByte (s.watches.contains w)]

end Switch

/-- COLLECT (R83). -/
def execCollect (h : Head) (count : Option Byte) (s : State) : Host.Outcome State Fault Refusal :=
  s.command h .collect (count.bind collectCountOf) (Switch.collectCommand h)

/-- FILTER (R90). -/
def execFilter (h : Head) (a : Option FilterArgs) (s : State) : Host.Outcome State Fault Refusal :=
  s.command h .filter (a.bind FilterArgs.check) (Switch.filterCommand h)

/-- MASK (R91). -/
def execMask (h : Head) (a : Option MaskArgs) (s : State) : Host.Outcome State Fault Refusal :=
  s.command h .mask (a.bind MaskArgs.check) (Switch.maskCommand h)

/-- WATCH (R93). -/
def execWatch (h : Head) (a : Option ScreenArgs) (s : State) : Host.Outcome State Fault Refusal :=
  s.command h .watch (a.bind ScreenArgs.check) (Switch.watchCommand h)

/-- UNWATCH (R94). -/
def execUnwatch (h : Head) (a : Option ScreenArgs) (s : State) : Host.Outcome State Fault Refusal :=
  s.command h .unwatch (a.bind ScreenArgs.check) (Switch.unwatchCommand h)

end Sys2Proof.Machine
end

