-- ==== Sys2Proof/Machine/EditionClock.lean ====
section
/-! DEFINITION. The meanings of the clock's commands and events: the wall counter, the edition clock and its turns, and the deadline channels (spec/06). -/

namespace Sys2Proof.Machine

namespace Switch

/-! ### Deadline channels -/

/-- A notice of a channel, carrying the channel and the current edition, to its recipients (R106). -/
def postChannel (s : Switch) (c : ChannelId) (kind : NoticeKind) (cls : Urgency) (note : Option Byte) : Switch :=
  s.post { s.notice kind cls with channel := some c, edition := some s.clock.edition, note := note } (s.channelRecipients c)

/-- The note code of PAGE_LATE: the late count, or 255 when it is above 255 (R106). -/
def lateNote (count : Nat) : Byte := byte (min 255 count)

/-- The deadline match of a channel (R109): QUIET or WARNED with the group not done goes to DUE with PAGE_LATE and any
AT_DEADLINE release; with the group done, to CLEARED; DUE and CLEARED are unchanged. -/
def takeMatch (c : ChannelId) (s : Switch) : Switch :=
  let x := s.channel c
  let settings := s.channelSettings c
  if x.state = .quiet ∨ x.state = .warned then
    if s.groupDone c then s.setChannel c { x with state := .cleared }
    else
      let s := s.setChannel c
        { x with state := .due, lateCount := 0, nextLate := lateTickAfter s.clock.ticks settings.lateInterval }
      let s := s.postChannel c .pageLate .flash (some (lateNote 0))
      if settings.releaseMode = .atDeadline then s.autoRelease c s.clock.edition else s
  else s

/-- The deadline match of a channel is due and not yet taken: the clock runs, the channel is QUIET or WARNED, and its
deadline is at or below the edition ticks (R101, R107, R109). -/
def matchDue (s : Switch) (c : ChannelId) : Bool :=
  let x := s.channel c
  s.clock.running && (x.state == .quiet || x.state == .warned) && decide (x.active ≤ s.clock.ticks)

/-- The match taken if it is due. -/
def matchIfDue (c : ChannelId) (s : Switch) : Switch := if s.matchDue c then takeMatch c s else s

/-- The active deadline of a channel takes a value. A new value clears the at-risk flag and any warning pending, and a
channel that it has passed takes its match at once when the clock runs (R107; that 'new' means different is a DESIGN CHOICE, log entry 15; unsafe). -/
def setActive (s : Switch) (c : ChannelId) (deadline : Nat) : Switch :=
  let x := s.channel c
  if x.active = deadline then s
  else matchIfDue c (s.setChannel c { x with active := deadline, atRisk := false, warningDue := false })

/-- The turn at a channel (R113): AT_TURN mode takes its buffered deadline, the running state starts again, and an AT_TURN
release selects by the edition that has just ended. -/
def turnChannel (ended : Nat) (s : Switch) (c : ChannelId) : Switch :=
  let x := s.channel c
  let settings := s.channelSettings c
  let active := match settings.bufferMode with | .atTurn => settings.deadline | .direct => x.active
  let s := s.setChannel c
    { active := active, state := .quiet, lateCount := 0, nextLate := none, atRisk := false, warningDue := false }
  if settings.releaseMode = .atTurn then s.autoRelease c ended else s

/-! ### The edition turn -/

/-- The edition after an edition: 1 follows 255 (R98). -/
def editionAfter (e : Nat) : Nat := if e = Config.editionMax then 1 else e + 1

/-- A slot in SPIKED. -/
def spikedSlot (x : Slot) : Bool :=
  match x.story with
  | none => false
  | some st =>
    match st.status with
    | .spiked _ => true
    | _ => false

/-- The edition turns (R100): the clock's part, then the channels (R113), the directory (R18) and the page table (R132). The
order of the last three is a DESIGN CHOICE, log entry 14; unsafe for the order of notices. -/
def turnEdition (s : Switch) : Switch :=
  let ended := s.clock.edition
  let s := { s with clock := { s.clock with ticks := 0, edition := editionAfter ended, activeLength := s.groups.clock.editionLength } }
  let s := s.post { s.notice .editionTurned .priority with edition := some s.clock.edition } fun p => !s.isDetached p
  let s := (allBelow 16).foldl (turnChannel ended) s
  let s := (s.slots.indices spikedSlot).foldl requestPurge s
  { s with pages := s.pages.map fun x => if x.state = .sent then { x with state := .making } else x }

/-- The rise of the wall counter would make the edition ticks reach the active length (R99). -/
def turnsAtTick (s : Switch) : Bool := s.clock.running && decide (s.clock.activeLength ≤ s.clock.ticks + 1)

/-- The wall counter rises by one, wrapping (R97). -/
def raiseWall (s : Switch) : Switch := { s with wall := s.wall + 1 }

/-- The edition ticks rise by one; each channel whose warning point they have risen to has its warning due (R99, R109). -/
def raiseTicks (s : Switch) : Switch :=
  let s := { s with clock := { s.clock with ticks := s.clock.ticks + 1 } }
  { s with channels := s.channels.mapIdx fun c x =>
      if s.warningPoint c = some s.clock.ticks then { x with warningDue := true } else x }

/-- A tick: the wall counter rises, and while the clock runs the edition ticks rise, or the edition turns in their place (R97, R99). -/
def tick (s : Switch) : Switch :=
  if s.turnsAtTick then s.raiseWall.turnEdition
  else if s.clock.running then s.raiseWall.raiseTicks
  else s.raiseWall

/-- The tick that turns the edition; at any other tick this event does not happen (R99, R100; DEDUCED, log entry 9; safe). -/
def turnTick (s : Switch) : Switch := if s.turnsAtTick then s.raiseWall.turnEdition else s

/-! ### Commands -/

/-- CLOCK START: a stopped clock runs, and the matches it has passed are taken in ascending channel order (R101). -/
def clockStartCommand (h : Head) (_ : Unit) (s : Switch) : Switch :=
  if s.clock.running then s.answer h .ok []
  else
    let s := { s with clock := { s.clock with running := true } }
    ((allBelow 16).foldl (fun s c => matchIfDue c s) s).answer h .ok []

/-- CLOCK STOP: the result carries the edition ticks at which a running clock stopped; on a stopped clock it carries no
value (R101; DEDUCED, log entry 22; unsafe). -/
def clockStopCommand (h : Head) (_ : Unit) (s : Switch) : Switch :=
  if s.clock.running then
    ({ s with clock := { s.clock with running := false } }).answer h .ok (be16 s.clock.ticks)
  else s.answer h .ok []

/-- TURN: the current edition by number, or "current" (R102). -/
def turnCommand (h : Head) (a : Option Nat) (s : Switch) : Switch :=
  if a = none ∨ a = some s.clock.edition then
    let s := s.turnEdition
    s.answer h .ok [byte s.clock.edition]
  else s.refuse h .editionPassed

/-- EDITION LENGTH: the buffered length, and the active length too on a stopped clock below it (R103). -/
def editionLengthCommand (h : Head) (length : Nat) (s : Switch) : Switch :=
  let active := if s.clock.running = false ∧ s.clock.ticks < length then length else s.clock.activeLength
  let s := s.setGroups { s.groups with clock := { s.groups.clock with editionLength := length } }
  ({ s with clock := { s.clock with activeLength := active } }).answer h .ok []

/-- A channel's six settings replaced in the running CLOCK group. -/
def setChannelSettings (s : Switch) (c : ChannelId) (x : ChannelSettings) : Switch :=
  s.setGroups { s.groups with clock := { s.groups.clock with channels := s.groups.clock.channels.set c x } }

/-- DEADLINE: the buffered deadline, and the active one too in DIRECT mode or on a stopped clock; the result carries the
active deadline (R107). -/
def deadlineCommand (h : Head) (a : ChannelId × Nat) (s : Switch) : Switch :=
  let settings := s.channelSettings a.1
  let s := s.setChannelSettings a.1 { settings with deadline := a.2 }
  let s := if settings.bufferMode = .direct ∨ s.clock.running = false then s.setActive a.1 a.2 else s
  s.answer h .ok (be16 (s.channel a.1).active)

/-- CHANNEL: the five fields replaced, each acting from this event (R108). A 'new' warn lead or late interval is one that
differs from the field's value (DESIGN CHOICE, log entry 15; unsafe). -/
def channelCommand (h : Head) (a : ChannelParams) (s : Switch) : Switch :=
  let c := a.channel
  let old := s.channelSettings c
  let s := s.setChannelSettings c
    { deadline := old.deadline, bufferMode := a.bufferMode, warnLead := a.warnLead, releaseMode := a.releaseMode,
      lateInterval := a.lateInterval, lateDivisor := a.lateDivisor }
  let x := s.channel c
  let s := s.setChannel c
    { x with
      warningDue := if a.warnLead = old.warnLead then x.warningDue else false
      nextLate :=
        if x.state = .due ∧ a.lateInterval ≠ old.lateInterval then lateTickAfter s.clock.ticks a.lateInterval else x.nextLate }
  let s := if a.bufferMode = .direct ∧ old.bufferMode ≠ .direct then s.setActive c old.deadline else s
  s.answer h .ok []

/-- CLOCK STATUS (R116). -/
def clockStatusCommand (h : Head) (_ : Unit) (s : Switch) : Switch := s.report h .clockStatus s.clockReport

/-! ### Events of a channel -/

/-- The warning point of a channel, when the edition ticks have risen to it: QUIET with the group not done goes to WARNED
with DEADLINE_NEAR (R109). A CLOCK STOP taken after that rise does not keep the warning back, while a match and a late tick
wait for CLOCK START (DESIGN CHOICE, log entry 37; unsafe). -/
def takeWarning (c : ChannelId) (s : Switch) : Switch :=
  let x := s.channel c
  if x.warningDue then
    if x.state = .quiet ∧ s.groupDone c = false then
      (s.setChannel c { x with state := .warned, warningDue := false }).postChannel c .deadlineNear .bulletin none
    else s.setChannel c { x with warningDue := false }
  else s

/-- A late tick of a DUE channel, when the edition ticks have reached it: the late count rises, and PAGE_LATE is posted on a
multiple of the late divisor (R110). -/
def takeLateTick (c : ChannelId) (s : Switch) : Switch :=
  let x := s.channel c
  let settings := s.channelSettings c
  match x.state, x.nextLate with
  | .due, some n =>
    if s.clock.running = true ∧ n ≤ s.clock.ticks then
      let count := x.lateCount + 1
      let s := s.setChannel c { x with lateCount := count, nextLate := lateTickAfter n settings.lateInterval }
      if count % settings.lateDivisor = 0 then s.postChannel c .pageLate .flash (some (lateNote count)) else s
    else s
  | _, _ => s

end Switch

/-- TICK (R97, R99). -/
def execTick (s : State) : Host.Outcome State Fault Refusal := s.run Switch.tick

/-- EDITION_TURN (R100). -/
def execEditionTurn (s : State) : Host.Outcome State Fault Refusal := s.run Switch.turnTick

/-- CLOCK START (R101). -/
def execClockStart (h : Head) (a : Option Unit) (s : State) : Host.Outcome State Fault Refusal :=
  s.command h .clockStart a (Switch.clockStartCommand h)

/-- CLOCK STOP (R101). -/
def execClockStop (h : Head) (a : Option Unit) (s : State) : Host.Outcome State Fault Refusal :=
  s.command h .clockStop a (Switch.clockStopCommand h)

/-- TURN (R102). -/
def execTurn (h : Head) (a : Option TurnArgs) (s : State) : Host.Outcome State Fault Refusal :=
  s.command h .turn (a.bind TurnArgs.check) (Switch.turnCommand h)

/-- EDITION LENGTH (R103). -/
def execEditionLength (h : Head) (length : Option Word16) (s : State) : Host.Outcome State Fault Refusal :=
  s.command h .editionLength (length.bind editionLengthOf) (Switch.editionLengthCommand h)

/-- DEADLINE (R107). -/
def execDeadline (h : Head) (a : Option DeadlineArgs) (s : State) : Host.Outcome State Fault Refusal :=
  s.command h .deadline (a.bind DeadlineArgs.check) (Switch.deadlineCommand h)

/-- CHANNEL (R108). -/
def execChannel (h : Head) (a : Option ChannelArgs) (s : State) : Host.Outcome State Fault Refusal :=
  s.command h .channel (a.bind ChannelArgs.check) (Switch.channelCommand h)

/-- WARNING_POINT (R109). -/
def execWarningPoint (c : ChannelId) (s : State) : Host.Outcome State Fault Refusal := s.run (Switch.takeWarning c)

/-- DEADLINE_MATCH (R109). -/
def execDeadlineMatch (c : ChannelId) (s : State) : Host.Outcome State Fault Refusal := s.run (Switch.matchIfDue c)

/-- LATE_TICK (R110). -/
def execLateTick (c : ChannelId) (s : State) : Host.Outcome State Fault Refusal := s.run (Switch.takeLateTick c)

/-- CLOCK STATUS (R116). -/
def execClockStatus (h : Head) (a : Option Unit) (s : State) : Host.Outcome State Fault Refusal :=
  s.command h .clockStatus a (Switch.clockStatusCommand h)

end Sys2Proof.Machine
end

