-- ==== Sys2Proof/Machine/Pages.lean ====
section
/-! DEFINITION. The meanings of the page commands: PAGE, PLACE, UNPLACE, RELEASE, RECALL, PAGE STATUS (spec/07). -/

namespace Sys2Proof.Machine

namespace Switch

/-- A page's definition replaced in the running CLOCK group (R119, R167). -/
def setPageDef (s : Switch) (q : PageId) (d : Option PageDef) : Switch :=
  s.setGroups { s.groups with clock := { s.groups.clock with pages := s.groups.clock.pages.set q d } }

/-- A page slot other than q whose page holds a label (R119). -/
def labelHeldElsewhere (s : Switch) (q : PageId) (l : Label) : Bool :=
  (s.groups.clock.pages.indices fun d =>
    match d with
    | none => false
    | some d => d.label == l).any fun k => k != q

/-- PAGE with DEFINE (R119). -/
def definePage (h : Head) (q : PageId) (d : PageDef) (s : Switch) : Switch :=
  if s.labelHeldElsewhere q d.label then s.refuse h .duplicate
  else
    let new := if (s.pageDef q).isNone then s.setPage q Page.fresh else s
    ((new.setPageDef q (some d)).judgeGroups s).answer h .ok []

/-- PAGE with UNDEFINE (R119). -/
def undefinePage (h : Head) (q : PageId) (s : Switch) : Switch :=
  if (s.pageDef q).isNone then s.answer h .ok []
  else if (s.page q).state = .making then (((s.setPage q Page.fresh).setPageDef q none).judgeGroups s).answer h .ok []
  else s.refuse h .pageBusy

/-- PAGE (R119). -/
def pageCommand (h : Head) (a : PageId × Option PageDef) (s : Switch) : Switch :=
  match a.2 with
  | some d => definePage h a.1 d s
  | none => undefinePage h a.1 s

/-- The definition of a page and the right over it, or NO_PAGE or NOT_PERMITTED (R118). -/
def onPage (s : Switch) (h : Head) (q : PageId) (k : PageDef → Switch) : Switch :=
  match s.pageDef q with
  | none => s.refuse h .noPage
  | some d => s.withRight h d.owner (k d)

/-- A page's layout replaced; the channels judge their groups, and the result carries the number of placements (R120, R121). -/
def layOut (s : Switch) (h : Head) (q : PageId) (layout : List Placement) : Switch :=
  ((s.setPage q { s.page q with layout := layout }).judgeGroups s).answer h .ok [byte layout.length]

/-- PLACE: the position, then the page and the right, then the story and the room on the layout (R118, R120). -/
def placeCommand (h : Head) (a : PlaceParams) (s : Switch) : Switch :=
  let layout := (s.page a.page).layout
  let position := a.position.getD layout.length
  if layout.length < position then s.refuse h .badParam
  else s.onPage h a.page fun _ => s.onStory h a.handle fun _ =>
    if Config.placementLimit ≤ layout.length then s.refuse h .tooMany
    else s.layOut h a.page (layout.insertIdx position { handle := a.handle, frame := a.frame })

/-- UNPLACE (R118, R121). -/
def unplaceCommand (h : Head) (a : PageId × Nat) (s : Switch) : Switch :=
  let layout := (s.page a.1).layout
  if layout.length ≤ a.2 then s.refuse h .badParam
  else s.onPage h a.1 fun _ => s.layOut h a.1 (layout.eraseIdx a.2)

/-- RELEASE's result: job length, edition tag, OMITTED entries and the place in the queue (R122). -/
def releaseValues (s : Switch) (q : PageId) : List Byte :=
  match (s.page q).job with
  | none => []
  | some j => be32 j.length ++ [byte j.edition, byte (omittedCount j.entries), byte (s.placeOf q)]

/-- A release that passed its checks answers with the job it formed (R122). -/
def answerRelease (s : Switch) (h : Head) (q : PageId) : Switch := s.answer h .ok (s.releaseValues q)

/-- A page that holds no queue place is released, or refused when 32 places are held (R122). -/
def releaseNew (s : Switch) (h : Head) (q : PageId) (d : PageDef) (rush : Bool) : Switch :=
  if s.placesHeld < Config.queuePlaces then (s.releasePage q d rush).answerRelease h q else s.refuse h .queueFull

/-- RELEASE by the page's state (R122). -/
def releaseCommand (h : Head) (a : PageId × Bool) (s : Switch) : Switch :=
  s.onPage h a.1 fun d =>
    let x := s.page a.1
    if x.state = .sending then s.refuse h .pageBusy
    else if x.layout.isEmpty then s.refuse h .emptyPage
    else
      match x.state, x.job with
      | .queued, some old => (s.reRelease a.1 d old).answerRelease h a.1
      | _, _ => s.releaseNew h a.1 d a.2

/-- RECALL by the page's state: a SENDING page's attempt is voided in the same event (R127, R147). -/
def recallCommand (h : Head) (q : PageId) (s : Switch) : Switch :=
  s.onPage h q fun _ =>
    let x := s.page q
    let edition := (x.job.map Job.edition).getD 0
    match x.state with
    | .queued => (s.endJob q { x with state := .making }).answer h .ok []
    | .sending => ((s.endJob q { x with state := .making }).voidAttempt q edition).answer h .ok []
    | .making => s.refuse h .notQueued
    | .sent => s.refuse h .notQueued
    | .faulted => s.refuse h .notQueued

/-- The free value of a SENDING page's place has been used (log entry 19). -/
def useFree (s : Switch) : Switch := { s with free := s.free + 1 }

/-- PAGE STATUS for a page slot or for "queue" (R134). -/
def pageStatusCommand (h : Head) (a : Option PageId) (s : Switch) : Switch :=
  match a with
  | none => s.report h .pageStatus s.queueReport
  | some q =>
    let data := s.pageReport q
    let s := if (s.page q).state = .sending then s.useFree else s
    s.report h .pageStatus data

end Switch

/-- PAGE (R119). -/
def execPage (h : Head) (a : Option PageArgs) (s : State) : Host.Outcome State Fault Refusal :=
  s.command h .page (a.bind PageArgs.check) (Switch.pageCommand h)

/-- PLACE (R120). -/
def execPlace (h : Head) (a : Option PlaceArgs) (s : State) : Host.Outcome State Fault Refusal :=
  s.command h .place (a.bind PlaceArgs.check) (Switch.placeCommand h)

/-- UNPLACE (R121). -/
def execUnplace (h : Head) (a : Option UnplaceArgs) (s : State) : Host.Outcome State Fault Refusal :=
  s.command h .unplace (a.bind UnplaceArgs.check) (Switch.unplaceCommand h)

/-- RELEASE (R122). -/
def execRelease (h : Head) (a : Option ReleaseArgs) (s : State) : Host.Outcome State Fault Refusal :=
  s.command h .release (a.bind ReleaseArgs.check) (Switch.releaseCommand h)

/-- RECALL (R127). -/
def execRecall (h : Head) (page : Option Byte) (s : State) : Host.Outcome State Fault Refusal :=
  s.command h .recall (page.bind (below 128)) (Switch.recallCommand h)

/-- PAGE STATUS (R134). -/
def execPageStatus (h : Head) (a : Option PageStatusArgs) (s : State) : Host.Outcome State Fault Refusal :=
  s.command h .pageStatus (a.bind PageStatusArgs.check) (Switch.pageStatusCommand h)

end Sys2Proof.Machine
end

