-- ==== Sys2Proof/Machine/Feed.lean ====
section
/-! DEFINITION. The meanings of the feed's events and commands: the ready lines, settling and stalls, starts, take strobes, end-of-page statuses, the pace meter, LINKS and FEED STATUS (spec/08). -/

namespace Sys2Proof.Machine

namespace Switch

/-! ### Line state (R136) -/

/-- A ready line rises: its level, and a DOWN link goes to SETTLING from this tick (R136). While start-up runs a link is
OFF, so that the rise is not read (R153). -/
def riseReady (l : LinkId) (s : Switch) : Switch :=
  let x : Link := { s.link l with ready := true }
  s.setLink l (if x.state = .down then x.enabled s.wall else x)

/-- A link goes DOWN, with the fail-over of R138 when it is active. -/
def dropLink (s : Switch) (l : LinkId) : Switch :=
  let s := s.setLink l { s.link l with state := .down }
  if s.active = l then s.failOver l none else s

/-- A ready line falls: its level; a SETTLING link goes DOWN, and an UP link with its engine IDLE goes DOWN (R136, R138). -/
def fallReady (l : LinkId) (s : Switch) : Switch :=
  let s := s.setLink l { s.link l with ready := false }
  let x := s.link l
  match x.state with
  | .settling => s.setLink l { x with state := .down }
  | .up => if x.engine = .idle then s.dropLink l else s
  | .off => s
  | .down => s

/-- The settle period of a SETTLING link has been reached with ready still up (R136). -/
def settleDue (s : Switch) (l : LinkId) : Bool :=
  let x := s.link l
  x.state == .settling && x.ready && decide (s.groups.feed.settlePeriod ≤ elapsed s.wall x.settleStart)

/-- A link becomes UP, with a take-over or a return (R136, R138, R139). -/
def settleLink (l : LinkId) (s : Switch) : Switch :=
  if s.settleDue l then ((s.setLink l { s.link l with state := .up }).takeOver l).returnHome else s

/-- A stall that is due takes the link DOWN (R137, R145, R147). -/
def stallLink (l : LinkId) (s : Switch) : Switch :=
  if (s.link l).stallDue s.wall s.groups.feed.stallWindow then s.breakOff l .down else s

/-! ### Starts (R141) -/

/-- The head of the queue, when the conditions of a start hold (R141). -/
def startable (s : Switch) : Option PageId :=
  if (s.link s.active).state = .up ∧ (s.link s.active).engine = .idle ∧ s.sending = none then s.queue.head? else none

/-- A start of the head page: SENDING on the active link, or exhausted when its attempts have reached the limit (R141). -/
def startPage (s : Switch) : Switch :=
  match s.startable with
  | none => s
  | some q =>
    if s.attempts q < s.groups.feed.attemptLimit then ({ s with queue := s.queue.tail }).beginAttempt s.active q
    else s.faultPage q .stalled

/-! ### Take strobes (R142, R147) -/

/-- A byte is counted in the open pace window (R148). -/
def countByte (s : Switch) : Switch :=
  { s with pace := { s.pace with window := s.pace.window.map fun w => { w with count := w.count + 1 } } }

/-- A page byte taken; the last byte of the END trailer puts the engine in AWAITING (R142, R148). -/
def takePageByte (s : Switch) (l : LinkId) (length : Nat) : Switch :=
  let s := s.emitPresented l
  let x : Link := { s.link l with taken := (s.link l).taken + 1, progress := s.wall }
  if length ≤ x.taken then (s.setLink l { x with engine := .awaiting, waitStart := s.wall }).discardWindow
  else (s.setLink l x).countByte

/-- A VOID byte taken; the eighth makes the engine IDLE (R147). -/
def takeVoidByte (s : Switch) (l : LinkId) : Switch :=
  let s := s.emitPresented l
  let x : Link := { s.link l with trailerTaken := (s.link l).trailerTaken + 1, progress := s.wall }
  if 8 ≤ x.trailerTaken then (s.setLink l x.idled).engineIdled l else s.setLink l x

/-- The job length of the page in flight on a link. -/
def flightLength (s : Switch) (l : LinkId) : Option Nat :=
  (s.link l).page.bind fun q => (s.page q).job.map Job.length

/-- A take strobe, disregarded while the engine is IDLE or AWAITING (R137). -/
def takeStrobe (l : LinkId) (s : Switch) : Switch :=
  match (s.link l).engine, s.flightLength l with
  | .presenting, some length => s.takePageByte l length
  | .voiding, _ => s.takeVoidByte l
  | _, _ => s

/-! ### End-of-page statuses (R143, R144) -/

/-- The page a status reaches: the page in flight on an AWAITING engine (R137). -/
def awaited (s : Switch) (l : LinkId) : Option PageId :=
  if (s.link l).engine = .awaiting then (s.link l).page else none

/-- An ACCEPT completes the page in flight, and the engine becomes IDLE (R143). -/
def acceptPage (l : LinkId) (s : Switch) : Switch :=
  match s.awaited l with
  | none => s
  | some q => ((s.completePage q).setLink l (s.link l).idled).engineIdled l

/-- A REJECT sends the page again on the same link, or exhausts its attempts (R144). -/
def rejectPage (l : LinkId) (s : Switch) : Switch :=
  match s.awaited l with
  | none => s
  | some q =>
    if s.attempts q < s.groups.feed.attemptLimit then s.beginAttempt l q
    else ((s.faultPage q .rejected).setLink l (s.link l).idled).engineIdled l

/-! ### The pace meter and the at-risk test (R148, R149, R115) -/

/-- The job length of a page, 0 when it has no job. -/
def jobBytes (s : Switch) (q : PageId) : Nat := ((s.page q).job.map Job.length).getD 0

/-- The queue up to and including its last page that satisfies p. -/
def upToLast (p : PageId → Bool) (queue : List PageId) : List PageId := (queue.reverse.dropWhile fun q => !p q).reverse

/-- The untaken part of the SENDING job (R142). -/
def untaken (s : Switch) : Nat :=
  match s.sending with
  | none => 0
  | some q => s.jobBytes q - (s.link s.active).taken

/-- The bytes ahead of a channel's last QUEUED page, that page included (R115). -/
def bytesAhead (s : Switch) (c : ChannelId) : Nat :=
  ((upToLast (fun q => (s.groupPages c).contains q) s.queue).map s.jobBytes).sum + s.untaken

/-- A quotient raised to the next whole number. -/
def quotientUp (n d : Nat) : Nat := (n + (d - 1)) / d

/-- The predicted ticks of a channel (R115). -/
def predictedTicks (s : Switch) (c : ChannelId) : Nat := quotientUp (s.bytesAhead c * s.groups.feed.paceWindow) s.pace.pace

/-- The at-risk test applies to a channel (R115). -/
def riskTested (s : Switch) (c : ChannelId) : Bool :=
  let x := s.channel c
  (x.state == .quiet || x.state == .warned) && !x.atRisk && (s.groupPages c).any (fun q => s.queue.contains q) &&
    s.clock.running && decide (s.pace.pace ≠ 0)

/-- The at-risk test of a channel (R115). -/
def testRisk (s : Switch) (c : ChannelId) : Switch :=
  if s.riskTested c = true ∧ (s.channel c).active < s.clock.ticks + s.predictedTicks c then
    (s.postChannel c .atRisk .bulletin none).setChannel c { s.channel c with atRisk := true }
  else s

/-- A sample is kept and makes a new pace value (R149). -/
def addSample (s : Switch) (n : Nat) : Switch :=
  let samples := keepSamples s.pace.samples n
  { s with pace := { s.pace with samples := samples, pace := paceOf s.groups.feed.paceMode samples } }

/-- The open pace window, when it has reached its length while the active engine is PRESENTING (R148). -/
def windowDue (s : Switch) : Option PaceWindow :=
  match s.pace.window with
  | none => none
  | some w => if w.length ≤ elapsed s.wall w.start ∧ (s.link s.active).engine = .presenting then some w else none

/-- The pace window closes: sample, pace, a new window, and the at-risk tests in ascending channel order (R148, R149, R115). -/
def closeWindow (s : Switch) : Switch :=
  match s.windowDue with
  | none => s
  | some w => (allBelow 16).foldl testRisk (s.addSample w.count).openWindow

/-! ### LINKS (R150) -/

/-- A link as steps 1 and 2 of LINKS first leave it: enabled from OFF, disabled to OFF, or unchanged (R150). -/
def switchLink (s : Switch) (old new : Bool) (x : Link) : Link :=
  if old = new then x else if new then x.enabled s.wall else { x with state := .off }

/-- The active link, just disabled, is settled: a busy engine breaks off, and an UP link with its engine IDLE fails over
(R150, R145, R147). -/
def settleDisabled (s : Switch) (was : Link) : Switch :=
  if (s.link s.active).engine = .idle then
    if was.state = .up then s.failOver s.active none else s
  else s.breakOff s.active .off

/-- LINKS in the order of R150. -/
def linksCommand (h : Head) (a : PerLink Bool × LinkId) (s : Switch) : Switch :=
  let old := s.groups.feed.enable
  let was := s.link s.active
  let disabled := old.get s.active && !a.1.get s.active
  let s := s.setGroups { s.groups with feed := { s.groups.feed with enable := a.1 } }
  let s := { s with links := ⟨s.switchLink old.a a.1.a s.links.a, s.switchLink old.b a.1.b s.links.b⟩ }
  let s := if disabled then s.settleDisabled was else s
  let s := (s.setGroups { s.groups with feed := { s.groups.feed with home := a.2 } }).returnHome
  s.answer h .ok s.linksReport

/-- FEED STATUS (R152). -/
def feedStatusCommand (h : Head) (_ : Unit) (s : Switch) : Switch := s.report h .feedStatus s.feedReport

end Switch

/-- READY_LINE_RISE (R136). -/
def execReadyLineRise (l : LinkId) (s : State) : Host.Outcome State Fault Refusal := s.run (Switch.riseReady l)

/-- READY_LINE_FALL (R136). -/
def execReadyLineFall (l : LinkId) (s : State) : Host.Outcome State Fault Refusal := s.run (Switch.fallReady l)

/-- LINK_SETTLED (R136). -/
def execLinkSettled (l : LinkId) (s : State) : Host.Outcome State Fault Refusal := s.run (Switch.settleLink l)

/-- LINK_STALL (R145). -/
def execLinkStall (l : LinkId) (s : State) : Host.Outcome State Fault Refusal := s.run (Switch.stallLink l)

/-- PAGE_START (R141). -/
def execPageStart (s : State) : Host.Outcome State Fault Refusal := s.run Switch.startPage

/-- TAKE_STROBE (R142). -/
def execTakeStrobe (l : LinkId) (s : State) : Host.Outcome State Fault Refusal := s.run (Switch.takeStrobe l)

/-- TYPESETTER_ACCEPT (R143). -/
def execTypesetterAccept (l : LinkId) (s : State) : Host.Outcome State Fault Refusal := s.run (Switch.acceptPage l)

/-- TYPESETTER_REJECT (R144). -/
def execTypesetterReject (l : LinkId) (s : State) : Host.Outcome State Fault Refusal := s.run (Switch.rejectPage l)

/-- PACE_WINDOW_CLOSE (R148). -/
def execPaceWindowClose (s : State) : Host.Outcome State Fault Refusal := s.run Switch.closeWindow

/-- LINKS (R150). -/
def execLinks (h : Head) (a : Option LinksArgs) (s : State) : Host.Outcome State Fault Refusal :=
  s.command h .links (a.bind LinksArgs.check) (Switch.linksCommand h)

/-- FEED STATUS (R152). -/
def execFeedStatus (h : Head) (a : Option Unit) (s : State) : Host.Outcome State Fault Refusal :=
  s.command h .feedStatus a (Switch.feedStatusCommand h)

end Sys2Proof.Machine
end

