-- ==== Sys2Proof/Machine/Ports.lean ====
section
/-! DEFINITION. The meanings of the port's events and commands: the data phase, the result phase, frame faults, attach, the port-reset line and PORT STATUS (spec/09). -/

namespace Sys2Proof.Machine

namespace Switch

/-! ### The data phase (R158) -/

/-- The tag of a port's running command, 0 when it has none. -/
def runningTag (s : Switch) (p : PortId) : Byte := ((s.port p).running.map Running.tag).getD 0

/-- The head of a port's running command. -/
def runningHead (s : Switch) (p : PortId) : Head := { port := p, tag := s.runningTag p }

/-- What the owner of a failed upload does: the FILE is dropped, the lease of a CHECKIN in FILLING runs on, and a drain ends
with nothing more (R9, R50, R55). -/
def settleFailure (s : Switch) (u : Upload) : Switch :=
  match u.kind, u.mode with
  | .file, _ => s.dropFile u.handle
  | .checkin _, .filling => s.resumeLease u.handle
  | .checkin _, .draining => s

/-- The data phase of a port ends without a version, with a result (R9, R26, R50, R55). -/
def failDataPhase (p : PortId) (code : Code) (s : Switch) : Switch :=
  match s.upload p with
  | none => s
  | some u =>
    let h := s.runningHead p
    (((s.failUpload p).settleFailure u).toIdle p).refuse h code

/-- An upload whose last declared byte has been taken completes, or its drain ends (R25, R48, R55). -/
def endUpload (s : Switch) (p : PortId) (u : Upload) : Switch :=
  let h := s.runningHead p
  match u.mode, u.kind with
  | .draining, _ => ((s.failUpload p).toIdle p).refuse h .lockBroken
  | .filling, .file => (s.completeFile h u).toIdle p
  | .filling, .checkin keep => (s.completeCheckin h u keep).toIdle p

/-- The bytes of a good data frame handed to the upload in order; in DRAINING they are counted alone (R24, R158). -/
def handText (s : Switch) (u : Upload) (text : List Byte) : Switch × Upload :=
  match u.mode with
  | .filling => s.pushText u text
  | .draining => (s, { u with taken := u.taken + text.length })

/-- A data frame taken: its bytes, the data window from this tick, and the end of the data phase at the declared length (R158). -/
def takeText (s : Switch) (p : PortId) (u : Upload) (text : List Byte) : Switch :=
  let (s, u) := s.handText u text
  let s := (s.setUpload p (some u)).setPort p { s.port p with dataStart := s.wall }
  if u.taken = u.declared then s.endUpload p u else s

/-- A good data frame: taken in COMMAND with the running command's tag, else discarded. One that carries bytes beyond the
declared length fails the upload with BAD_PARAM (R158, R165). -/
def dataFrame (p : PortId) (tag : Byte) (text : List Byte) (s : Switch) : Switch :=
  let x := s.port p
  if x.resetLine = false ∧ x.phase = .command ∧ s.runningTag p = tag then
    match s.upload p with
    | none => s
    | some u =>
      if u.declared < u.taken + text.length then s.countFault p (failDataPhase p .badParam) else s.takeText p u text
  else s

/-- The data window of a port has lapsed (R158). -/
def dataWindowDue (s : Switch) (p : PortId) : Bool :=
  (s.port p).phase == .command && decide (Config.dataWindow ≤ elapsed s.wall (s.port p).dataStart)

/-- The data window lapses: the upload fails, or its drain ends, with DATA_TIMEOUT (R158). -/
def lapseDataWindow (p : PortId) (s : Switch) : Switch :=
  if s.dataWindowDue p then s.countFault p (failDataPhase p .dataTimeout) else s

/-! ### The result phase (R159) -/

/-- A result-data frame leaves the switch with the running command's tag (R155). -/
def sendResultData (s : Switch) (p : PortId) (payload : List Byte) : Switch :=
  s.emit (.frame p { kind := 0x04, tag := s.runningTag p, payload := payload })

/-- The stream a port still owes. -/
def setStream (s : Switch) (p : PortId) (x : Stream) : Switch := s.setPort p { s.port p with stream := some x }

/-- The version a READ stream sends, by its handle and number. -/
def streamVersion (s : Switch) (a : Handle) (n : Nat) : Option Version := (s.story a).bind fun st => st.version n

/-- The next frame of a READ stream, text from an offset, 256 bytes but for the last; the last ends the stream (R35, R36). -/
def sendText (s : Switch) (p : PortId) (a : Handle) (n sent : Nat) : Switch :=
  match s.streamVersion a n with
  | none => s.endStream p
  | some v =>
    let count := min Config.frameBytes (v.length - sent)
    let s := s.sendResultData p (textSlice s.store.copy v.chain sent count)
    if v.length ≤ sent + count then s.endStream p else s.setStream p (.read a n (sent + count))

/-- The next frame of a COLLECT stream: the notice at the head of the inbox leaves it (R84, R85). -/
def sendNotice (s : Switch) (p : PortId) (owed : Nat) : Switch :=
  let box := s.inbox p
  match box.notices with
  | [] => s.endStream p
  | n :: rest =>
    let s := (s.sendResultData p n.encode).setInbox p { box with notices := rest }
    if owed ≤ 1 then s.endStream p else s.setStream p (.collect (owed - 1))

/-- The next frame of a status command's result data (R159). -/
def sendReport (s : Switch) (p : PortId) (frames : List (List Byte)) : Switch :=
  match frames with
  | [] => s.endStream p
  | f :: rest =>
    let s := s.sendResultData p f
    if rest.isEmpty then s.endStream p else s.setStream p (.report rest)

/-- A result-data frame is sent in RESULT while the hold line is down (R159). -/
def sendNext (p : PortId) (s : Switch) : Switch :=
  let x := s.port p
  if x.phase = .result ∧ x.holdLine = false then
    match x.stream with
    | none => s.endStream p
    | some (.read a n sent) => s.sendText p a n sent
    | some (.collect owed) => s.sendNotice p owed
    | some (.report frames) => s.sendReport p frames
  else s

/-- The hold line rises; in RESULT, where a frame is due, the hold start becomes this tick (R159; DEDUCED, log entry 23; unsafe). -/
def riseHold (p : PortId) (s : Switch) : Switch :=
  let x := s.port p
  let start := if x.phase = .result ∧ x.holdStart = none then some s.wall else x.holdStart
  s.setPort p { x with holdLine := true, holdStart := start }

/-- The hold line falls; the hold start becomes none (R159). The due frame leaves in a RESULT_DATA_FRAME_SENT event of its own after
the fall (DEDUCED, log entry 50; unsafe). -/
def fallHold (p : PortId) (s : Switch) : Switch := s.setPort p { s.port p with holdLine := false, holdStart := none }

/-- The result window of a port has lapsed: the hold start is more than 40 ticks back (R159). -/
def resultWindowDue (s : Switch) (p : PortId) : Bool :=
  match (s.port p).phase, (s.port p).holdStart with
  | .result, some start => decide (Config.resultWindow < elapsed s.wall start)
  | _, _ => false

/-- The result window lapses: the stream is abandoned (R159). -/
def lapseResultWindow (p : PortId) (s : Switch) : Switch :=
  if s.resultWindowDue p then s.countFault p fun s => s.endStream p else s

/-! ### Frames that are no command (R156, R160, R174) -/

/-- A frame fault: discarded; answered CHECK_ERROR with tag 0 and counted, or on a DETACHED port moving the quiet start; while
the reset line is up nothing is read (R160, R161, R165). -/
def faultyFrame (p : PortId) (s : Switch) : Switch :=
  let x := s.port p
  if x.resetLine then s
  else if s.isDetached p then s.setPort p { x with quietStart := s.wall }
  else s.countFault p fun s => s.sendResult p 0 .checkError []

/-- A command frame with an unknown code, or with none, meets the port's checks and ends at BAD_COMMAND at the latest (R156, R175). -/
def unknownFrame (h : Head) (s : Switch) : Switch :=
  match s.portCheck h none with
  | .unread => s
  | .refused tag code => s.refuse { h with tag := tag } code
  | .taken => s

/-! ### Attach (R163, R164) -/

/-- A port is attached: fault count 0, standing ACTIVE (R163). -/
def attach (s : Switch) (p : PortId) : Switch := s.setPort p { s.port p with faults := 0, standing := .active }

/-- The quiet period of a port has passed (R163). -/
def quiet (s : Switch) (p : PortId) : Bool := decide (Config.quietPeriod ≤ elapsed s.wall (s.port p).quietStart)

/-- ATTACH (R163). -/
def attachCommand (h : Head) (_ : Unit) (s : Switch) : Switch :=
  if s.isDetached h.port then
    if s.quiet h.port then (s.attach h.port).answer h .ok [] else s.refuse h .tooSoon
  else s.refuse h .notDetached

/-- REATTACH (R164). -/
def reattachCommand (h : Head) (p : PortId) (s : Switch) : Switch :=
  if s.isDetached p then (s.attach p).answer h .ok [] else s.refuse h .notDetached

/-! ### The port-reset line (R165) -/

/-- A rise of a port's reset line, but for its inbox (R165). -/
def clearPort (p : PortId) (s : Switch) : Switch :=
  let s := s.setPort p { s.port p with resetLine := true }
  let s := s.abandonCommand p
  let s := s.releaseLocks p
  s.dropWatches fun w => w.port == p

/-- A rise of a port's reset line as a whole event: the inbox is emptied after all else, so that no notice the event posts
stays in it (R86, R165). -/
def resetPort (p : PortId) (s : Switch) : Switch := (s.event (clearPort p)).emptyInbox p

/-- A port's reset line falls: the port takes frames again (R165). -/
def fallReset (p : PortId) (s : Switch) : Switch := s.setPort p { s.port p with resetLine := false }

/-- PORT STATUS of a named port, or of the caller's own (R166). The caller's own fault count and standing are those before the −1
step of this command's OK (DESIGN CHOICE, log entry 41; unsafe). -/
def portStatusCommand (h : Head) (a : Option PortId) (s : Switch) : Switch :=
  s.answer h .ok (s.portReport h.port (a.getD h.port))

end Switch

/-- DATA_FRAME (R158). -/
def execDataFrame (p : PortId) (tag : Byte) (text : List Byte) (s : State) : Host.Outcome State Fault Refusal :=
  s.run (Switch.dataFrame p tag text)

/-- DATA_WINDOW_LAPSE (R158). -/
def execDataWindowLapse (p : PortId) (s : State) : Host.Outcome State Fault Refusal := s.run (Switch.lapseDataWindow p)

/-- RESULT_DATA_FRAME_SENT (R159). -/
def execResultDataFrameSent (p : PortId) (s : State) : Host.Outcome State Fault Refusal := s.run (Switch.sendNext p)

/-- HOLD_LINE_RISE (R159). -/
def execHoldLineRise (p : PortId) (s : State) : Host.Outcome State Fault Refusal := s.run (Switch.riseHold p)

/-- HOLD_LINE_FALL (R159). -/
def execHoldLineFall (p : PortId) (s : State) : Host.Outcome State Fault Refusal := s.run (Switch.fallHold p)

/-- RESULT_WINDOW_LAPSE (R159). -/
def execResultWindowLapse (p : PortId) (s : State) : Host.Outcome State Fault Refusal := s.run (Switch.lapseResultWindow p)

/-- FRAME_FAULT (R160). -/
def execFrameFault (p : PortId) (s : State) : Host.Outcome State Fault Refusal := s.run (Switch.faultyFrame p)

/-- FRAME_GAP_TIMEOUT (R160). -/
def execFrameGapTimeout (p : PortId) (s : State) : Host.Outcome State Fault Refusal := s.run (Switch.faultyFrame p)

/-- UNEXPECTED_FRAME: a good frame of a kind that a desk processor does not send is discarded (R174). -/
def execUnexpectedFrame (_ : PortId) (_ : Byte) (s : State) : Host.Outcome State Fault Refusal := s.run id

/-- UNKNOWN_COMMAND (R156). -/
def execUnknownCommand (h : Head) (_ : Option Byte) (s : State) : Host.Outcome State Fault Refusal :=
  s.run (Switch.unknownFrame h)

/-- ATTACH (R163). -/
def execAttach (h : Head) (a : Option Unit) (s : State) : Host.Outcome State Fault Refusal :=
  s.command h .attach a (Switch.attachCommand h)

/-- REATTACH (R164). -/
def execReattach (h : Head) (port : Option Byte) (s : State) : Host.Outcome State Fault Refusal :=
  s.command h .reattach (port.bind (below 6)) (Switch.reattachCommand h)

/-- PORT_RESET_LINE_RISE (R165). -/
def execPortResetLineRise (p : PortId) (s : State) : Host.Outcome State Fault Refusal :=
  .next { s with sw := Switch.resetPort p s.sw }

/-- PORT_RESET_LINE_FALL (R165). -/
def execPortResetLineFall (p : PortId) (s : State) : Host.Outcome State Fault Refusal := s.run (Switch.fallReset p)

/-- PORT STATUS (R166). -/
def execPortStatus (h : Head) (a : Option PortStatusArgs) (s : State) : Host.Outcome State Fault Refusal :=
  s.command h .portStatus (a.bind PortStatusArgs.check) (Switch.portStatusCommand h)

end Sys2Proof.Machine
end

