-- ==== Sys2Proof/Machine/Settings.lean ====
section
/-! DEFINITION. The meanings of the settings commands, and start-up: SETTINGS, SAVE, DUMP, HOLD, UNHOLD, RESTART, IDENTIFY, the end of a write, power-on, the reset line and the end of start-up (spec/10). -/

namespace Sys2Proof.Machine

namespace Switch

/-! ### Writing the groups (R168, R170) -/

/-- SETTINGS: a PORTS write that leaves no control port is refused, every other write replaces its fields (R168). -/
def settingsCommand (h : Head) (a : SettingsParams) (s : Switch) : Switch :=
  match a with
  | .ports g =>
    if g.privilege.cells.contains .control then (s.setGroups { s.groups with ports := g }).answer h .ok []
    else s.refuse h .lastControl
  | .feed stall settle attempts window mode =>
    (s.setGroups
      { s.groups with
        feed := { s.groups.feed with
          stallWindow := stall, settlePeriod := settle, attemptLimit := attempts, paceWindow := window, paceMode := mode } }).answer
      h .ok []
  | .store g => (s.setGroups { s.groups with store := g }).answer h .ok []

/-- HOLD sets the flag of each group named (R170). -/
def holdCommand (h : Head) (a : Holds) (s : Switch) : Switch :=
  ({ s with holds :=
      { ports := s.holds.ports || a.ports, routing := s.holds.routing || a.routing, clock := s.holds.clock || a.clock,
        feed := s.holds.feed || a.feed, store := s.holds.store || a.store } }).answer h .ok []

/-- UNHOLD clears the flag of each group named (R170). -/
def unholdCommand (h : Head) (a : Holds) (s : Switch) : Switch :=
  ({ s with holds :=
      { ports := s.holds.ports && !a.ports, routing := s.holds.routing && !a.routing, clock := s.holds.clock && !a.clock,
        feed := s.holds.feed && !a.feed, store := s.holds.store && !a.store } }).answer h .ok []

/-- DUMP (R170). -/
def dumpCommand (h : Head) (_ : Unit) (s : Switch) : Switch := s.report h .dump s.dumpReport

/-- IDENTIFY (R173). -/
def identifyCommand (h : Head) (_ : Unit) (s : Switch) : Switch := s.answer h .ok s.identifyReport

/-! ### The image (R169) -/

/-- SAVE: a copy of the groups begins to be written, the image is damaged until the write ends, and the port stays in
EXECUTING (R169). A write that goes on after its port was reset or detached is still a SAVE in progress, and a further SAVE is BUSY until
it ends (DESIGN CHOICE, log entry 48; unsafe: R169 does not say). -/
def saveCommand (h : Head) (_ : Unit) (s : Switch) : Switch :=
  if s.saving.isSome then s.refuse h .busy
  else
    ({ s with saving := some { copy := s.groups, port := some h.port }, image := none }).setPort h.port
      { s.port h.port with phase := .executing, running := some { tag := h.tag, cmd := .save } }

/-- The write of a SAVE ends: the image is good and holds the copy taken, and OK goes to the port whose command it still is (R169). -/
def endSave (s : Switch) : Switch :=
  match s.saving with
  | none => s
  | some x =>
    let s := { s with saving := none, image := some x.copy.image }
    match x.port with
    | none => s
    | some p =>
      let h := s.runningHead p
      (s.toIdle p).answer h .ok []

/-! ### The beginning of a restart (R171) -/

/-- A version with its pins dropped and its retiring mark cleared (R38). -/
def unpinnedVersion (v : Version) : Version := { v with pins := 0, retiring := false }

/-- A slot after a restart: FILING and a pending purge leave it VACANT, OPEN and OFFERED become FILED (R20, R38). -/
def restartSlot (x : Slot) : Slot :=
  match x.story with
  | none => x
  | some st =>
    let kept (status : Status) : Slot := { x with story := some { st with status := status, versions := st.versions.map unpinnedVersion } }
    match st.status with
    | .filing => { gen := x.gen + 1, story := none }
    | .filed => kept .filed
    | .opened _ => kept .filed
    | .offered _ => kept .filed
    | .spiked false => kept (.spiked false)
    | .spiked true => { gen := x.gen + 1, story := none }

/-- The chains a restart's purges retire from a slot (R20, R38). -/
def purgedChains (x : Slot) : List (List Nat) :=
  match x.story with
  | none => []
  | some st => if st.status = .spiked true then st.versions.map Version.chain else []

/-- The staging chains of the open uploads, in port order (R38). -/
def stagedChains (s : Switch) : List (List Nat) := (s.uploads.cells.filterMap id).map Upload.staging

/-- The store after a restart's returns, in the order of R22; the tight condition waits for the end of start-up (R38). -/
def restartStore (s : Switch) : Switch :=
  let s := (s.stagedChains ++ s.slots.cells.flatMap purgedChains).foldl returnChain s
  s.setStore { s.store with reserved := 0 }

/-- A port at the start of start-up: its lines keep their levels, and its data window start means nothing in IDLE (R154). -/
def restartPort (x : Port) : Port :=
  { Port.fresh with holdLine := x.holdLine, resetLine := x.resetLine, dataStart := x.dataStart }

/-- A page after a restart: QUEUED and SENDING become MAKING, and a job ends (R133). -/
def restartPage (x : Page) : Page :=
  { x with state := if x.state = .queued ∨ x.state = .sending then .making else x.state, job := none }

/-- A link while start-up runs: OFF, its engine IDLE (R153). Its settle start, progress tick and wait start keep their ticks
(DESIGN CHOICE, log entry 40; unsafe). -/
def restartLink (x : Link) : Link := { x.idled with state := .off }

/-- A restart begins: every block's changes that do not depend on the settings (R171, R154, R38, R20, R57, R73, R86, R92, R133,
R153, R98). What falls to the start of start-up beside them is log entry 26. -/
def beginRestart (cause : StartCause) (s : Switch) : Switch :=
  let s := s.restartStore.emptyInboxes
  { s with
    clock := { s.clock with running := false }
    channels := s.channels.map fun x => { x with warningDue := false }
    slots := s.slots.map restartSlot
    watches := []
    uploads := Bank.replicate 6 none
    pages := s.pages.map restartPage
    queue := []
    sending := none
    releases := 0
    links := s.links.map restartLink
    pace := Pace.empty
    ports := s.ports.map restartPort
    saving := none
    starting := true
    cause := cause }

/-- RESTART: OK to the calling port, and the restart begins (R171). -/
def restartCommand (h : Head) (_ : Unit) (s : Switch) : Switch := (s.answer h .ok []).beginRestart .restartCommand

/-- Power-on: every record at its power-on value. The image stays unless a write was cut short, and the input lines keep their
levels (R171, R169; log entry 31). -/
def powerOn (s : Switch) : Switch :=
  { reset with
    ports := s.ports.map fun x => { Port.fresh with holdLine := x.holdLine, resetLine := x.resetLine }
    links := s.links.map fun x => { Link.fresh with ready := x.ready }
    image := if s.saving.isSome then none else s.image
    last := s.last
    free := s.free }

/-! ### The end of start-up (R172) -/

/-- The contents of the image when one of a number of tries finds it good (R172, R178). -/
def loadImage (image : Option Image) : Nat → Option Groups
  | 0 => none
  | tries + 1 =>
    match image with
    | none => none
    | some x => if x.good then some x.contents else loadImage image tries

/-- The groups a load leaves: each held group keeps its running values (R172). -/
def mergeGroups (held : Holds) (running loaded : Groups) : Groups :=
  { ports := if held.ports then running.ports else loaded.ports
    routing := if held.routing then running.routing else loaded.routing
    clock := if held.clock then running.clock else loaded.clock
    feed := if held.feed then running.feed else loaded.feed
    store := if held.store then running.store else loaded.store }

/-- The load: the image's values, or the factory defaults with the DEFAULTED flag set (R172). -/
def loadSettings (s : Switch) : Switch :=
  match loadImage s.image Config.loadTries with
  | some g => { s.setGroups (mergeGroups s.holds s.groups g) with defaulted := false }
  | none => { s.setGroups (mergeGroups s.holds s.groups Groups.factory) with defaulted := true }

/-- The clock takes the CLOCK group's edition length, as EDITION LENGTH writes it to a stopped clock (R98, R103). -/
def takeLength (s : Switch) : Switch :=
  let length := s.groups.clock.editionLength
  { s with clock := { s.clock with activeLength := if s.clock.ticks < length then length else s.clock.activeLength } }

/-- Each channel of the stopped clock moves its buffered deadline into its active deadline (R104, R107). -/
def takeDeadlines (s : Switch) : Switch := (allBelow 16).foldl (fun s c => s.setActive c (s.channelSettings c).deadline) s

/-- The page records under the definitions loaded: a page defined before and after keeps its record, any other starts anew (R133). -/
def takeDefinitions (before s : Switch) : Switch :=
  { s with pages := s.pages.mapIdx fun q x => if (before.pageDef q).isSome && (s.pageDef q).isSome then x else Page.fresh }

/-- A restart's inboxes are empty when the notices of the end of start-up are posted, so STORE_TIGHT is the first notice (R38) though it
is placed by R78, as R86 asks: a PORT_DETACHED that start-up posted is emptied with the rest, as R77 and R82 have it after a restart.
R171 names the emptying at the beginning alone (DEDUCED, log entry 42; unsafe). Power-on's start-up is no restart. -/
def emptyBeforeEnd (s : Switch) : Switch := if s.cause = .powerOn then s else s.emptyInboxes

/-- The tight condition evaluated afresh, with STORE_TIGHT to the control ports, placed as R78 gives (R38, R86). -/
def judgeTight (s : Switch) : Switch :=
  if s.available < s.groups.store.low then
    (s.setStore { s.store with tight := true }).postControl (s.notice .storeTight .bulletin)
  else s.setStore { s.store with tight := false }

/-- A link in the event that ends start-up (R135, R153). -/
def startLink (s : Switch) (enable : Bool) (x : Link) : Link :=
  if enable then x.enabled s.wall else { x with state := .off }

/-- The feed takes the FEED group: each link's state, the home link active, the pace meter empty (R135, R153). -/
def takeFeed (s : Switch) : Switch :=
  { s with
    links := ⟨s.startLink s.groups.feed.enable.a s.links.a, s.startLink s.groups.feed.enable.b s.links.b⟩
    active := s.groups.feed.home
    pace := Pace.empty }

/-- Start-up ends: the load, then each block takes up the settings, and the channels judge groups that definitions changed
(R172; log entries 16, 24, 42). While no start-up runs the event does not happen. -/
def endStartUp (s : Switch) : Switch :=
  if s.starting then
    let loaded := s.loadSettings
    let taken := (takeDefinitions s loaded.takeLength).takeDeadlines.judgeGroups s
    { taken.emptyBeforeEnd.judgeTight.takeFeed with starting := false }
  else s

end Switch

/-- SETTINGS (R168). -/
def execSettings (h : Head) (a : Option SettingsArgs) (s : State) : Host.Outcome State Fault Refusal :=
  s.command h .settings (a.bind SettingsArgs.check) (Switch.settingsCommand h)

/-- SAVE (R169). -/
def execSave (h : Head) (a : Option Unit) (s : State) : Host.Outcome State Fault Refusal :=
  s.command h .save a (Switch.saveCommand h)

/-- SAVE_WRITE_END (R169). -/
def execSaveWriteEnd (s : State) : Host.Outcome State Fault Refusal := s.run Switch.endSave

/-- DUMP (R170). -/
def execDump (h : Head) (a : Option Unit) (s : State) : Host.Outcome State Fault Refusal :=
  s.command h .dump a (Switch.dumpCommand h)

/-- HOLD (R170). -/
def execHold (h : Head) (groups : Option Byte) (s : State) : Host.Outcome State Fault Refusal :=
  s.command h .hold (groups.bind holdSetOf) (Switch.holdCommand h)

/-- UNHOLD (R170). -/
def execUnhold (h : Head) (groups : Option Byte) (s : State) : Host.Outcome State Fault Refusal :=
  s.command h .unhold (groups.bind holdSetOf) (Switch.unholdCommand h)

/-- RESTART (R171). -/
def execRestart (h : Head) (a : Option Unit) (s : State) : Host.Outcome State Fault Refusal :=
  s.command h .restart a (Switch.restartCommand h)

/-- IDENTIFY (R173). -/
def execIdentify (h : Head) (a : Option Unit) (s : State) : Host.Outcome State Fault Refusal :=
  s.command h .identify a (Switch.identifyCommand h)

/-- POWER_ON (R171). -/
def execPowerOn (s : State) : Host.Outcome State Fault Refusal := s.run Switch.powerOn

/-- RESET_LINE_RISE (R171). -/
def execResetLineRise (s : State) : Host.Outcome State Fault Refusal := s.run (Switch.beginRestart .resetLine)

/-- START_UP_END (R172). -/
def execStartUpEnd (s : State) : Host.Outcome State Fault Refusal := s.run Switch.endStartUp

end Sys2Proof.Machine
end

