-- ==== Sys2Proof/Machine/Dispatch.lean ====
section
/-! DEFINITION. One arm for each row of the table: the direct call of its meaning. -/

namespace Sys2Proof.Machine

def exec (i : Instr) (s : State) : Host.Outcome State Fault Refusal :=
  match i with
  | .file h a => Sys2Proof.Machine.execFile h a s
  | .find h slug => Sys2Proof.Machine.execFind h slug s
  | .describe h a => Sys2Proof.Machine.execDescribe h a s
  | .reclassify h a => Sys2Proof.Machine.execReclassify h a s
  | .route h a => Sys2Proof.Machine.execRoute h a s
  | .spike h a => Sys2Proof.Machine.execSpike h a s
  | .restore h a => Sys2Proof.Machine.execRestore h a s
  | .purge h a => Sys2Proof.Machine.execPurge h a s
  | .read h a => Sys2Proof.Machine.execRead h a s
  | .storeStatus h a => Sys2Proof.Machine.execStoreStatus h a s
  | .checkout h a => Sys2Proof.Machine.execCheckout h a s
  | .renew h a => Sys2Proof.Machine.execRenew h a s
  | .abandon h a => Sys2Proof.Machine.execAbandon h a s
  | .checkin h a => Sys2Proof.Machine.execCheckin h a s
  | .leaseExpiry slot => Sys2Proof.Machine.execLeaseExpiry slot s
  | .breakLock h a => Sys2Proof.Machine.execBreakLock h a s
  | .offer h a => Sys2Proof.Machine.execOffer h a s
  | .accept h a => Sys2Proof.Machine.execAccept h a s
  | .decline h a => Sys2Proof.Machine.execDecline h a s
  | .withdraw h a => Sys2Proof.Machine.execWithdraw h a s
  | .offerExpiry slot => Sys2Proof.Machine.execOfferExpiry slot s
  | .collect h count => Sys2Proof.Machine.execCollect h count s
  | .filter h a => Sys2Proof.Machine.execFilter h a s
  | .mask h a => Sys2Proof.Machine.execMask h a s
  | .watch h a => Sys2Proof.Machine.execWatch h a s
  | .unwatch h a => Sys2Proof.Machine.execUnwatch h a s
  | .tick => Sys2Proof.Machine.execTick s
  | .editionTurn => Sys2Proof.Machine.execEditionTurn s
  | .clockStart h a => Sys2Proof.Machine.execClockStart h a s
  | .clockStop h a => Sys2Proof.Machine.execClockStop h a s
  | .turn h a => Sys2Proof.Machine.execTurn h a s
  | .editionLength h length => Sys2Proof.Machine.execEditionLength h length s
  | .deadline h a => Sys2Proof.Machine.execDeadline h a s
  | .channel h a => Sys2Proof.Machine.execChannel h a s
  | .warningPoint c => Sys2Proof.Machine.execWarningPoint c s
  | .deadlineMatch c => Sys2Proof.Machine.execDeadlineMatch c s
  | .lateTick c => Sys2Proof.Machine.execLateTick c s
  | .clockStatus h a => Sys2Proof.Machine.execClockStatus h a s
  | .page h a => Sys2Proof.Machine.execPage h a s
  | .place h a => Sys2Proof.Machine.execPlace h a s
  | .unplace h a => Sys2Proof.Machine.execUnplace h a s
  | .release h a => Sys2Proof.Machine.execRelease h a s
  | .recall h page => Sys2Proof.Machine.execRecall h page s
  | .pageStatus h a => Sys2Proof.Machine.execPageStatus h a s
  | .readyLineRise l => Sys2Proof.Machine.execReadyLineRise l s
  | .readyLineFall l => Sys2Proof.Machine.execReadyLineFall l s
  | .linkSettled l => Sys2Proof.Machine.execLinkSettled l s
  | .linkStall l => Sys2Proof.Machine.execLinkStall l s
  | .pageStart => Sys2Proof.Machine.execPageStart s
  | .takeStrobe l => Sys2Proof.Machine.execTakeStrobe l s
  | .typesetterAccept l => Sys2Proof.Machine.execTypesetterAccept l s
  | .typesetterReject l => Sys2Proof.Machine.execTypesetterReject l s
  | .paceWindowClose => Sys2Proof.Machine.execPaceWindowClose s
  | .links h a => Sys2Proof.Machine.execLinks h a s
  | .feedStatus h a => Sys2Proof.Machine.execFeedStatus h a s
  | .dataFrame p tag text => Sys2Proof.Machine.execDataFrame p tag text s
  | .dataWindowLapse p => Sys2Proof.Machine.execDataWindowLapse p s
  | .resultDataFrameSent p => Sys2Proof.Machine.execResultDataFrameSent p s
  | .holdLineRise p => Sys2Proof.Machine.execHoldLineRise p s
  | .holdLineFall p => Sys2Proof.Machine.execHoldLineFall p s
  | .resultWindowLapse p => Sys2Proof.Machine.execResultWindowLapse p s
  | .frameFault p => Sys2Proof.Machine.execFrameFault p s
  | .frameGapTimeout p => Sys2Proof.Machine.execFrameGapTimeout p s
  | .unexpectedFrame p kind => Sys2Proof.Machine.execUnexpectedFrame p kind s
  | .unknownCommand h code => Sys2Proof.Machine.execUnknownCommand h code s
  | .attach h a => Sys2Proof.Machine.execAttach h a s
  | .reattach h port => Sys2Proof.Machine.execReattach h port s
  | .portResetLineRise p => Sys2Proof.Machine.execPortResetLineRise p s
  | .portResetLineFall p => Sys2Proof.Machine.execPortResetLineFall p s
  | .portStatus h a => Sys2Proof.Machine.execPortStatus h a s
  | .settings h a => Sys2Proof.Machine.execSettings h a s
  | .save h a => Sys2Proof.Machine.execSave h a s
  | .saveWriteEnd => Sys2Proof.Machine.execSaveWriteEnd s
  | .dump h a => Sys2Proof.Machine.execDump h a s
  | .hold h groups => Sys2Proof.Machine.execHold h groups s
  | .unhold h groups => Sys2Proof.Machine.execUnhold h groups s
  | .restart h a => Sys2Proof.Machine.execRestart h a s
  | .identify h a => Sys2Proof.Machine.execIdentify h a s
  | .powerOn => Sys2Proof.Machine.execPowerOn s
  | .resetLineRise => Sys2Proof.Machine.execResetLineRise s
  | .startUpEnd => Sys2Proof.Machine.execStartUpEnd s

end Sys2Proof.Machine
end

