-- ==== Sys2Proof/Machine/Wire.lean ====
section
/-! DEFINITION. How a frame that reaches a desk port spells a row of the table: the payload layouts of R175 and spec/11 11.3. -/

namespace Sys2Proof.Machine

/-! ### Values (R175) -/

/-- A two-byte number. -/
def word16 (hi lo : Byte) : Word16 := hi ++ lo

/-- A handle's three bytes. -/
def handleArg (hi lo gen : Byte) : HandleArg := { slot := word16 hi lo, gen := gen }

/-- A one-byte value whose all-ones form stands for a word such as "keep", "none" or "own". -/
def unlessOnes (b : Byte) : Option Byte := if b = 0xFF then none else some b

/-- A two-byte value whose all-ones form stands for a word. -/
def unlessOnes16 (w : Word16) : Option Word16 := if w = 0xFFFF then none else some w

/-- A version, 0000h for "current". -/
def versionArg (w : Word16) : Option Word16 := if w = 0 then none else some w

/-- A counted list and what follows it. -/
def countedArg : List Byte → Option (List Byte × List Byte)
  | [] => none
  | n :: rest => if n.toNat ≤ rest.length then some (rest.take n.toNat, rest.drop n.toNat) else none

/-- A counted list with nothing after it. -/
def wholeList (l : List Byte) : Option (List Byte) :=
  match countedArg l with
  | some (x, []) => some x
  | _ => none

/-! ### The parameters of each layout -/

def noArgs : List Byte → Option Unit
  | [] => some ()
  | _ => none

def byteArg : List Byte → Option Byte
  | [b] => some b
  | _ => none

def handleArgs : List Byte → Option HandleArg
  | [s1, s0, g] => some (handleArg s1 s0 g)
  | _ => none

/-- FILE: slug, owner desk, urgency, category, author screen, route plan, text length (11.3). -/
def fileArgs (l : List Byte) : Option FileArgs :=
  match countedArg l with
  | some (slug, owner :: urgency :: c1 :: c0 :: screen :: rest) =>
    match countedArg rest with
    | some (route, [n1, n0]) =>
      some { slug, owner, urgency, category := word16 c1 c0, screen, route, length := word16 n1 n0 }
    | _ => none
  | _ => none

def reclassifyArgs : List Byte → Option ReclassifyArgs
  | [s1, s0, g, u, c1, c0] =>
    some { handle := handleArg s1 s0 g, urgency := unlessOnes u, category := unlessOnes16 (word16 c1 c0) }
  | _ => none

def routeArgs : List Byte → Option RouteArgs
  | s1 :: s0 :: g :: rest => (wholeList rest).map fun route => { handle := handleArg s1 s0 g, route }
  | _ => none

def readArgs : List Byte → Option ReadArgs
  | [s1, s0, g, v1, v0] => some { handle := handleArg s1 s0 g, version := versionArg (word16 v1 v0) }
  | _ => none

/-- CHECKOUT, RENEW and ABANDON: screen, then handle (11.3). -/
def custodyArgs : List Byte → Option ScreenArgs
  | [screen, s1, s0, g] => some { screen, handle := handleArg s1 s0 g }
  | _ => none

def checkinArgs : List Byte → Option CheckinArgs
  | [screen, s1, s0, g, n1, n0, keep] => some { screen, handle := handleArg s1 s0 g, length := word16 n1 n0, keep }
  | _ => none

def offerArgs : List Byte → Option OfferArgs
  | [s1, s0, g, target, note] => some { handle := handleArg s1 s0 g, target := unlessOnes target, note }
  | _ => none

def deskArgs : List Byte → Option DeskArgs
  | [s1, s0, g, desk] => some { handle := handleArg s1 s0 g, desk }
  | _ => none

def declineArgs : List Byte → Option DeclineArgs
  | [s1, s0, g, desk, note] => some { handle := handleArg s1 s0 g, desk, note }
  | _ => none

def filterArgs : List Byte → Option FilterArgs
  | [number, enabled, mask, desk, urgency, c1, c0, destinations] =>
    some { number, enabled, mask, desk, urgency, category := word16 c1 c0, destinations }
  | _ => none

def maskArgs : List Byte → Option MaskArgs
  | [number, compareDesk, compareUrgency, categoryBits] => some { number, compareDesk, compareUrgency, categoryBits }
  | _ => none

/-- WATCH and UNWATCH: handle, then screen, in the order of R93 and R94. -/
def watchArgs : List Byte → Option ScreenArgs
  | [s1, s0, g, screen] => some { screen, handle := handleArg s1 s0 g }
  | _ => none

/-- TURN; FFh reads as "current" (R175; DEDUCED, log entry 21; unsafe). -/
def turnArgs : List Byte → Option TurnArgs
  | [e] => some { edition := unlessOnes e }
  | _ => none

def lengthArg : List Byte → Option Word16
  | [n1, n0] => some (word16 n1 n0)
  | _ => none

def deadlineArgs : List Byte → Option DeadlineArgs
  | [channel, d1, d0] => some { channel, deadline := word16 d1 d0 }
  | _ => none

def channelArgs : List Byte → Option ChannelArgs
  | [channel, bufferMode, w1, w0, releaseMode, i1, i0, lateDivisor] =>
    some { channel, bufferMode, warnLead := word16 w1 w0, releaseMode, lateInterval := word16 i1 i0, lateDivisor }
  | _ => none

/-- PAGE: slot and action, DEFINE 0 with label, owner desk and binding, UNDEFINE 1 (R119, R175). -/
def pageArgs : List Byte → Option PageArgs
  | page :: code :: fields =>
    if code = 0 then
      match fields with
      | [letter, number, owner, binding] => some { page, action := .define letter number owner (unlessOnes binding) }
      | _ => none
    else if code = 1 then (if fields.isEmpty then some { page, action := .undefine } else none)
    else some { page, action := .other code }
  | _ => none

/-- PLACE: slot, handle, position, layout frame of 16 bytes (11.3). -/
def placeArgs : List Byte → Option PlaceArgs
  | page :: s1 :: s0 :: g :: position :: frame =>
    if frame.length = 16 then some { page, handle := handleArg s1 s0 g, position := unlessOnes position, frame } else none
  | _ => none

def unplaceArgs : List Byte → Option UnplaceArgs
  | [page, position] => some { page, position }
  | _ => none

def releaseArgs : List Byte → Option ReleaseArgs
  | [page, rush] => some { page, rush }
  | _ => none

def pageStatusArgs : List Byte → Option PageStatusArgs
  | [page] => some { page := unlessOnes page }
  | _ => none

def linksArgs : List Byte → Option LinksArgs
  | [enableA, enableB, home] => some { enableA, enableB, home }
  | _ => none

def portStatusArgs : List Byte → Option PortStatusArgs
  | [port] => some { port := unlessOnes port }
  | _ => none

/-- The 8-byte labels of the PORTS group, one after another. -/
def labelsArg : List Byte → List (List Byte)
  | b0 :: b1 :: b2 :: b3 :: b4 :: b5 :: b6 :: b7 :: rest => [b0, b1, b2, b3, b4, b5, b6, b7] :: labelsArg rest
  | _ => []

/-- SETTINGS: group name, PORTS 0, FEED 3 and STORE 4, then the group's fields in the order of R167; FEED without the fields
that LINKS writes. -/
def settingsArgs : List Byte → Option SettingsArgs
  | [] => none
  | group :: fields =>
    match group.toNat with
    | 0 =>
      if fields.length = 150 then
        some (.ports (fields.take 6) (((fields.drop 6).take 16).map unlessOnes) (labelsArg (fields.drop 22)))
      else none
    | 3 =>
      match fields with
      | [stall, settle, attempts, window, mode] => some (.feed stall settle attempts window mode)
      | _ => none
    | 4 =>
      match fields with
      | [l1, l0, h1, h0, e1, e0, o1, o0] => some (.store (word16 l1 l0) (word16 h1 h0) (word16 e1 e0) (word16 o1 o0))
      | _ => none
    | _ => some (.other group)

/-! ### Commands and frames -/

/-- The command of a code, with the bytes after it (R175, spec/09 9.10). -/
def commandOf (h : Head) (code : Byte) (l : List Byte) : Instr :=
  match code.toNat with
  | 1 => .file h (fileArgs l)
  | 2 => .find h (wholeList l)
  | 3 => .describe h (handleArgs l)
  | 4 => .reclassify h (reclassifyArgs l)
  | 5 => .route h (routeArgs l)
  | 6 => .spike h (handleArgs l)
  | 7 => .restore h (handleArgs l)
  | 8 => .purge h (handleArgs l)
  | 9 => .read h (readArgs l)
  | 10 => .storeStatus h (noArgs l)
  | 11 => .checkout h (custodyArgs l)
  | 12 => .renew h (custodyArgs l)
  | 13 => .abandon h (custodyArgs l)
  | 14 => .checkin h (checkinArgs l)
  | 15 => .breakLock h (handleArgs l)
  | 16 => .offer h (offerArgs l)
  | 17 => .accept h (deskArgs l)
  | 18 => .decline h (declineArgs l)
  | 19 => .withdraw h (deskArgs l)
  | 20 => .collect h (byteArg l)
  | 21 => .filter h (filterArgs l)
  | 22 => .mask h (maskArgs l)
  | 23 => .watch h (watchArgs l)
  | 24 => .unwatch h (watchArgs l)
  | 25 => .clockStart h (noArgs l)
  | 26 => .clockStop h (noArgs l)
  | 27 => .turn h (turnArgs l)
  | 28 => .editionLength h (lengthArg l)
  | 29 => .deadline h (deadlineArgs l)
  | 30 => .channel h (channelArgs l)
  | 31 => .clockStatus h (noArgs l)
  | 32 => .page h (pageArgs l)
  | 33 => .place h (placeArgs l)
  | 34 => .unplace h (unplaceArgs l)
  | 35 => .release h (releaseArgs l)
  | 36 => .recall h (byteArg l)
  | 37 => .pageStatus h (pageStatusArgs l)
  | 38 => .links h (linksArgs l)
  | 39 => .feedStatus h (noArgs l)
  | 40 => .attach h (noArgs l)
  | 41 => .reattach h (byteArg l)
  | 42 => .portStatus h (portStatusArgs l)
  | 43 => .settings h (settingsArgs l)
  | 44 => .save h (noArgs l)
  | 45 => .dump h (noArgs l)
  | 46 => .hold h (byteArg l)
  | 47 => .unhold h (byteArg l)
  | 48 => .restart h (noArgs l)
  | 49 => .identify h (noArgs l)
  | _ => .unknownCommand h (some code)

/-- The row a good frame spells: a command, a data frame, or a frame of a kind a desk processor does not send (R174, R175). -/
def Frame.event (p : PortId) (f : Frame) : Instr :=
  if f.kind = 0x01 then
    match f.payload with
    | [] => .unknownCommand { port := p, tag := f.tag } none
    | code :: l => commandOf { port := p, tag := f.tag } code l
  else if f.kind = 0x02 then .dataFrame p f.tag f.payload
  else .unexpectedFrame p f.kind

/-- The row that the bytes of one frame spell at a port: a frame that fails its check is a frame fault (R160, R174), and so are bytes
outside a frame (DESIGN CHOICE, log entry 45; unsafe). -/
def wireEvent (p : PortId) (bytes : List Byte) : Instr :=
  match Frame.receive bytes with
  | none => .frameFault p
  | some f => f.event p

/-! ### The frames a desk processor sends, written from the same layouts -/

/-- A two-byte number as two bytes. -/
def wordBytes (w : Word16) : List Byte := be16 w.toNat

/-- A handle's three bytes. -/
def handleBytes (h : HandleArg) : List Byte := wordBytes h.slot ++ [h.gen]

/-- A one-byte value or its all-ones form. -/
def orOnes (b : Option Byte) : Byte := b.getD 0xFF

/-- PAGE's action and its fields. -/
def actionBytes : PageAction → List Byte
  | .define letter number owner binding => [0, letter, number, owner, orOnes binding]
  | .undefine => [1]
  | .other code => [code]

/-- SETTINGS' group name and fields. -/
def settingsBytes : SettingsArgs → List Byte
  | .ports privileges serving labels => 0 :: (privileges ++ serving.map orOnes ++ labels.flatten)
  | .feed stall settle attempts window mode => [3, stall, settle, attempts, window, mode]
  | .store low high lease offer => 4 :: (wordBytes low ++ wordBytes high ++ wordBytes lease ++ wordBytes offer)
  | .other group => [group]

/-- The frame of a command with its parameters' bytes. -/
def commandFrame (h : Head) (c : Cmd) (l : List Byte) : PortId × Frame :=
  (h.port, { kind := 0x01, tag := h.tag, payload := Cmd.code c :: l })

/-- The frame that spells a row, and the port it comes in on; none for a row that is no frame, and for a payload that has not
the layout of its command. -/
def frameOf : Instr → Option (PortId × Frame)
  | .file h (some a) => some (commandFrame h .file (counted a.slug ++ [a.owner, a.urgency] ++ wordBytes a.category ++ [a.screen] ++ counted a.route ++ wordBytes a.length))
  | .find h (some a) => some (commandFrame h .find (counted a))
  | .describe h (some a) => some (commandFrame h .describe (handleBytes a))
  | .reclassify h (some a) => some (commandFrame h .reclassify (handleBytes a.handle ++ [orOnes a.urgency] ++ wordBytes (a.category.getD 0xFFFF)))
  | .route h (some a) => some (commandFrame h .route (handleBytes a.handle ++ counted a.route))
  | .spike h (some a) => some (commandFrame h .spike (handleBytes a))
  | .restore h (some a) => some (commandFrame h .restore (handleBytes a))
  | .purge h (some a) => some (commandFrame h .purge (handleBytes a))
  | .read h (some a) => some (commandFrame h .read (handleBytes a.handle ++ wordBytes (a.version.getD 0)))
  | .storeStatus h (some ()) => some (commandFrame h .storeStatus [])
  | .checkout h (some a) => some (commandFrame h .checkout (a.screen :: handleBytes a.handle))
  | .renew h (some a) => some (commandFrame h .renew (a.screen :: handleBytes a.handle))
  | .abandon h (some a) => some (commandFrame h .abandon (a.screen :: handleBytes a.handle))
  | .checkin h (some a) => some (commandFrame h .checkin (a.screen :: (handleBytes a.handle ++ wordBytes a.length ++ [a.keep])))
  | .breakLock h (some a) => some (commandFrame h .breakLock (handleBytes a))
  | .offer h (some a) => some (commandFrame h .offer (handleBytes a.handle ++ [orOnes a.target, a.note]))
  | .accept h (some a) => some (commandFrame h .accept (handleBytes a.handle ++ [a.desk]))
  | .decline h (some a) => some (commandFrame h .decline (handleBytes a.handle ++ [a.desk, a.note]))
  | .withdraw h (some a) => some (commandFrame h .withdraw (handleBytes a.handle ++ [a.desk]))
  | .collect h (some a) => some (commandFrame h .collect [a])
  | .filter h (some a) => some (commandFrame h .filter ([a.number, a.enabled, a.mask, a.desk, a.urgency] ++ wordBytes a.category ++ [a.destinations]))
  | .mask h (some a) => some (commandFrame h .mask [a.number, a.compareDesk, a.compareUrgency, a.categoryBits])
  | .watch h (some a) => some (commandFrame h .watch (handleBytes a.handle ++ [a.screen]))
  | .unwatch h (some a) => some (commandFrame h .unwatch (handleBytes a.handle ++ [a.screen]))
  | .clockStart h (some ()) => some (commandFrame h .clockStart [])
  | .clockStop h (some ()) => some (commandFrame h .clockStop [])
  | .turn h (some a) => some (commandFrame h .turn [orOnes a.edition])
  | .editionLength h (some a) => some (commandFrame h .editionLength (wordBytes a))
  | .deadline h (some a) => some (commandFrame h .deadline (a.channel :: wordBytes a.deadline))
  | .channel h (some a) => some (commandFrame h .channel ([a.channel, a.bufferMode] ++ wordBytes a.warnLead ++ [a.releaseMode] ++ wordBytes a.lateInterval ++ [a.lateDivisor]))
  | .clockStatus h (some ()) => some (commandFrame h .clockStatus [])
  | .page h (some a) => some (commandFrame h .page (a.page :: actionBytes a.action))
  | .place h (some a) => some (commandFrame h .place (a.page :: (handleBytes a.handle ++ [orOnes a.position] ++ a.frame)))
  | .unplace h (some a) => some (commandFrame h .unplace [a.page, a.position])
  | .release h (some a) => some (commandFrame h .release [a.page, a.rush])
  | .recall h (some a) => some (commandFrame h .recall [a])
  | .pageStatus h (some a) => some (commandFrame h .pageStatus [orOnes a.page])
  | .links h (some a) => some (commandFrame h .links [a.enableA, a.enableB, a.home])
  | .feedStatus h (some ()) => some (commandFrame h .feedStatus [])
  | .attach h (some ()) => some (commandFrame h .attach [])
  | .reattach h (some a) => some (commandFrame h .reattach [a])
  | .portStatus h (some a) => some (commandFrame h .portStatus [orOnes a.port])
  | .settings h (some a) => some (commandFrame h .settings (settingsBytes a))
  | .save h (some ()) => some (commandFrame h .save [])
  | .dump h (some ()) => some (commandFrame h .dump [])
  | .hold h (some a) => some (commandFrame h .hold [a])
  | .unhold h (some a) => some (commandFrame h .unhold [a])
  | .restart h (some ()) => some (commandFrame h .restart [])
  | .identify h (some ()) => some (commandFrame h .identify [])
  | .unknownCommand h code => some (h.port, { kind := 0x01, tag := h.tag, payload := code.toList })
  | .dataFrame p tag text => some (p, { kind := 0x02, tag := tag, payload := text })
  | _ => none

end Sys2Proof.Machine
end

