-- ==== Sys2Proof/Safety.lean ====
section
/-! DEFINITION. The words of the statements: when a port takes a command, what a reply leaves, and the invariants that every step keeps. -/

namespace Sys2Proof.Machine

/-! ### Commands and their ports -/

/-- The head and command of a row that is a good command frame of the catalogue (spec/09 9.10). -/
def commandRow : Instr → Option (Head × Cmd)
  | .file h _ => some (h, .file)
  | .find h _ => some (h, .find)
  | .describe h _ => some (h, .describe)
  | .reclassify h _ => some (h, .reclassify)
  | .route h _ => some (h, .route)
  | .spike h _ => some (h, .spike)
  | .restore h _ => some (h, .restore)
  | .purge h _ => some (h, .purge)
  | .read h _ => some (h, .read)
  | .storeStatus h _ => some (h, .storeStatus)
  | .checkout h _ => some (h, .checkout)
  | .renew h _ => some (h, .renew)
  | .abandon h _ => some (h, .abandon)
  | .checkin h _ => some (h, .checkin)
  | .breakLock h _ => some (h, .breakLock)
  | .offer h _ => some (h, .offer)
  | .accept h _ => some (h, .accept)
  | .decline h _ => some (h, .decline)
  | .withdraw h _ => some (h, .withdraw)
  | .collect h _ => some (h, .collect)
  | .filter h _ => some (h, .filter)
  | .mask h _ => some (h, .mask)
  | .watch h _ => some (h, .watch)
  | .unwatch h _ => some (h, .unwatch)
  | .clockStart h _ => some (h, .clockStart)
  | .clockStop h _ => some (h, .clockStop)
  | .turn h _ => some (h, .turn)
  | .editionLength h _ => some (h, .editionLength)
  | .deadline h _ => some (h, .deadline)
  | .channel h _ => some (h, .channel)
  | .clockStatus h _ => some (h, .clockStatus)
  | .page h _ => some (h, .page)
  | .place h _ => some (h, .place)
  | .unplace h _ => some (h, .unplace)
  | .release h _ => some (h, .release)
  | .recall h _ => some (h, .recall)
  | .pageStatus h _ => some (h, .pageStatus)
  | .links h _ => some (h, .links)
  | .feedStatus h _ => some (h, .feedStatus)
  | .attach h _ => some (h, .attach)
  | .reattach h _ => some (h, .reattach)
  | .portStatus h _ => some (h, .portStatus)
  | .settings h _ => some (h, .settings)
  | .save h _ => some (h, .save)
  | .dump h _ => some (h, .dump)
  | .hold h _ => some (h, .hold)
  | .unhold h _ => some (h, .unhold)
  | .restart h _ => some (h, .restart)
  | .identify h _ => some (h, .identify)
  | _ => none

/-- The head of a row that is a good command frame, and its command; none for a code outside the catalogue, or a missing one (R156, R175). -/
def anyCommandRow (i : Instr) : Option (Head × Option Cmd) :=
  match i with
  | .unknownCommand h _ => some (h, none)
  | i => (commandRow i).map fun x => (x.1, some x.2)

/-! ### Parameters in range (R175) -/

/-- The slot of a handle is 0 to 1023 (R2). -/
abbrev slotInRange (a : HandleArg) : Prop := a.slot.toNat < 1024

/-- A slug is 1 to 24 letters, digits and hyphens, the letters in either case (R3). -/
abbrev slugInRange (l : List Byte) : Prop :=
  1 ≤ l.length ∧ l.length ≤ 24 ∧
    ∀ b ∈ l, 0x41 ≤ b.toNat ∧ b.toNat ≤ 0x5A ∨ 0x61 ≤ b.toNat ∧ b.toNat ≤ 0x7A ∨ 0x30 ≤ b.toNat ∧ b.toNat ≤ 0x39 ∨ b = 0x2D

/-- A desk label is 8 capitals, digits, hyphens and spaces (R167). -/
abbrev deskLabelInRange (l : List Byte) : Prop :=
  l.length = 8 ∧ ∀ b ∈ l, 0x41 ≤ b.toNat ∧ b.toNat ≤ 0x5A ∨ 0x30 ≤ b.toNat ∧ b.toNat ≤ 0x39 ∨ b = 0x2D ∨ b = 0x20

/-- A route plan is 0 to 4 desks (R4). -/
abbrev routeInRange (l : List Byte) : Prop := l.length ≤ 4 ∧ ∀ b ∈ l, b.toNat < 16

/-- What SETTINGS writes is in its ranges (R167, R168). -/
def settingsArgsInRange : SettingsArgs → Prop
  | .ports privileges serving labels =>
    privileges.length = 6 ∧ (∀ b ∈ privileges, b.toNat ≤ 1) ∧ serving.length = 16 ∧ (∀ b, some b ∈ serving → b.toNat < 6) ∧
      labels.length = 16 ∧ ∀ l ∈ labels, deskLabelInRange l
  | .feed stall settle attempts window mode =>
    8 ≤ stall.toNat ∧ 8 ≤ settle.toNat ∧ 1 ≤ attempts.toNat ∧ attempts.toNat ≤ 7 ∧ 16 ≤ window.toNat ∧ mode.toNat ≤ 1
  | .store low high lease offer =>
    64 ≤ low.toNat ∧ low.toNat < high.toNat ∧ high.toNat ≤ 4096 ∧ 480 ≤ lease.toNat ∧ lease.toNat ≤ 28800 ∧
      80 ≤ offer.toNat ∧ offer.toNat ≤ 4800
  | .other _ => False

/-- Every parameter of a command frame is there and within its stated range and form; a position on a layout is bounded by that
layout beside this (R120, R121). A row that is no command frame has none. -/
def paramsInRange : Instr → Prop
  | .file _ (some a) =>
    slugInRange a.slug ∧ a.owner.toNat < 16 ∧ a.urgency.toNat < 4 ∧ a.category.toNat ≤ 1023 ∧ a.screen.toNat < 64 ∧
      routeInRange a.route
  | .find _ (some slug) => slugInRange slug
  | .describe _ (some a) => slotInRange a
  | .reclassify _ (some a) =>
    slotInRange a.handle ∧ (∀ u, a.urgency = some u → u.toNat < 4) ∧ (∀ c, a.category = some c → c.toNat ≤ 1023) ∧
      ¬(a.urgency = none ∧ a.category = none)
  | .route _ (some a) => slotInRange a.handle ∧ routeInRange a.route
  | .spike _ (some a) => slotInRange a
  | .restore _ (some a) => slotInRange a
  | .purge _ (some a) => slotInRange a
  | .read _ (some a) => slotInRange a.handle ∧ ∀ v, a.version = some v → 1 ≤ v.toNat
  | .storeStatus _ a => a ≠ none
  | .checkout _ (some a) => a.screen.toNat < 64 ∧ slotInRange a.handle
  | .renew _ (some a) => a.screen.toNat < 64 ∧ slotInRange a.handle
  | .abandon _ (some a) => a.screen.toNat < 64 ∧ slotInRange a.handle
  | .checkin _ (some a) => a.screen.toNat < 64 ∧ slotInRange a.handle ∧ a.keep.toNat ≤ 1
  | .breakLock _ (some a) => slotInRange a
  | .offer _ (some a) => slotInRange a.handle ∧ ∀ d, a.target = some d → d.toNat < 16
  | .accept _ (some a) => slotInRange a.handle ∧ a.desk.toNat < 16
  | .decline _ (some a) => slotInRange a.handle ∧ a.desk.toNat < 16
  | .withdraw _ (some a) => slotInRange a.handle ∧ a.desk.toNat < 16
  | .collect _ (some n) => 1 ≤ n.toNat ∧ n.toNat ≤ 8
  | .filter _ (some a) =>
    a.number.toNat < 24 ∧ a.enabled.toNat ≤ 1 ∧ a.mask.toNat < 4 ∧ a.desk.toNat < 16 ∧ a.urgency.toNat < 4 ∧
      a.category.toNat ≤ 1023 ∧ a.destinations.toNat < 64
  | .mask _ (some a) => a.number.toNat < 4 ∧ a.compareDesk.toNat ≤ 1 ∧ a.compareUrgency.toNat ≤ 1 ∧ a.categoryBits.toNat ≤ 10
  | .watch _ (some a) => a.screen.toNat < 64 ∧ slotInRange a.handle
  | .unwatch _ (some a) => a.screen.toNat < 64 ∧ slotInRange a.handle
  | .clockStart _ a => a ≠ none
  | .clockStop _ a => a ≠ none
  | .turn _ (some a) => ∀ e, a.edition = some e → 1 ≤ e.toNat
  | .editionLength _ (some n) => 1200 ≤ n.toNat
  | .deadline _ (some a) => a.channel.toNat < 16 ∧ 1 ≤ a.deadline.toNat
  | .channel _ (some a) =>
    a.channel.toNat < 16 ∧ a.bufferMode.toNat ≤ 1 ∧ a.releaseMode.toNat ≤ 2 ∧ 1 ≤ a.lateDivisor.toNat ∧ a.lateDivisor.toNat ≤ 8
  | .clockStatus _ a => a ≠ none
  | .page _ (some ⟨q, .define letter number owner binding⟩) =>
    q.toNat < 128 ∧ 0x41 ≤ letter.toNat ∧ letter.toNat ≤ 0x5A ∧ 1 ≤ number.toNat ∧ number.toNat ≤ 99 ∧ owner.toNat < 16 ∧
      ∀ c, binding = some c → c.toNat < 16
  | .page _ (some ⟨q, .undefine⟩) => q.toNat < 128
  | .place _ (some a) => a.page.toNat < 128 ∧ slotInRange a.handle ∧ a.frame.length = 16
  | .unplace _ (some a) => a.page.toNat < 128
  | .release _ (some a) => a.page.toNat < 128 ∧ a.rush.toNat ≤ 1
  | .recall _ (some q) => q.toNat < 128
  | .pageStatus _ (some a) => ∀ q, a.page = some q → q.toNat < 128
  | .links _ (some a) => a.enableA.toNat ≤ 1 ∧ a.enableB.toNat ≤ 1 ∧ a.home.toNat ≤ 1
  | .feedStatus _ a => a ≠ none
  | .attach _ a => a ≠ none
  | .reattach _ (some p) => p.toNat < 6
  | .portStatus _ (some a) => ∀ p, a.port = some p → p.toNat < 6
  | .settings _ (some a) => settingsArgsInRange a
  | .save _ a => a ≠ none
  | .dump _ a => a ≠ none
  | .hold _ (some b) => 1 ≤ b.toNat ∧ b.toNat < 32
  | .unhold _ (some b) => 1 ≤ b.toNat ∧ b.toNat < 32
  | .restart _ a => a ≠ none
  | .identify _ a => a ≠ none
  | _ => False

/-- The handle a command names whose first check after its ranges is that the handle names a story (R6, R11, R35, R41, R53, R61,
R65, R67, R93, R94). -/
def namedStory : Instr → Option HandleArg
  | .describe _ a => a
  | .reclassify _ a => a.map ReclassifyArgs.handle
  | .route _ a => a.map RouteArgs.handle
  | .spike _ a => a
  | .restore _ a => a
  | .purge _ a => a
  | .read _ a => a.map ReadArgs.handle
  | .checkout _ a => a.map ScreenArgs.handle
  | .renew _ a => a.map ScreenArgs.handle
  | .abandon _ a => a.map ScreenArgs.handle
  | .checkin _ a => a.map CheckinArgs.handle
  | .breakLock _ a => a
  | .offer _ a => a.map OfferArgs.handle
  | .accept _ a => a.map DeskArgs.handle
  | .decline _ a => a.map DeclineArgs.handle
  | .withdraw _ a => a.map DeskArgs.handle
  | .watch _ a => a.map ScreenArgs.handle
  | .unwatch _ a => a.map ScreenArgs.handle
  | _ => none

/-- The six checks of R156 pass on a port whose reset line is down (R165), so that the block that owns the command takes it. -/
abbrev Switch.takes (s : Switch) (h : Head) (c : Cmd) : Prop :=
  (s.ports.get h.port).resetLine = false ∧ s.starting = false ∧ (s.ports.get h.port).phase = .idle ∧ h.tag ≠ 0 ∧
    ((s.ports.get h.port).standing ≠ .detached ∨ c = .attach) ∧
    (controlOnly c = true → s.groups.ports.privilege.get h.port = .control)

/-- The right over what a desk owns (R5, R118): the port serves the desk, or its privilege is CONTROL. -/
abbrev Switch.hasRight (s : Switch) (p : PortId) (d : DeskId) : Prop :=
  s.groups.ports.serving.get d = some p ∨ s.groups.ports.privilege.get p = .control

/-! ### The numbers of named values: positions in their lists, counted from 0 (R175) -/

def Status.number : Status → Byte
  | .filing => 1
  | .filed => 2
  | .opened _ => 3
  | .offered _ => 4
  | .spiked _ => 5

def Urgency.number : Urgency → Byte
  | .routine => 0
  | .priority => 1
  | .bulletin => 2
  | .flash => 3

def ChannelState.number : ChannelState → Byte
  | .quiet => 0
  | .warned => 1
  | .due => 2
  | .cleared => 3

def PageState.number : PageState → Byte
  | .making => 0
  | .queued => 1
  | .sending => 2
  | .sent => 3
  | .faulted => 4

def LinkState.number : LinkState → Byte
  | .off => 0
  | .down => 1
  | .settling => 2
  | .up => 3

def Engine.number : Engine → Byte
  | .idle => 0
  | .presenting => 1
  | .awaiting => 2
  | .voiding => 3

def Phase.number : Phase → Byte
  | .idle => 0
  | .command => 1
  | .executing => 2
  | .result => 3

def Standing.number : Standing → Byte
  | .active => 0
  | .guarded => 1
  | .detached => 2

def Privilege.number : Privilege → Byte
  | .desk => 0
  | .control => 1

def BufferMode.number : BufferMode → Byte
  | .atTurn => 0
  | .direct => 1

def ReleaseMode.number : ReleaseMode → Byte
  | .manual => 0
  | .atDeadline => 1
  | .atTurn => 2

def PaceMode.number : PaceMode → Byte
  | .single => 0
  | .average4 => 1

def StartCause.number : StartCause → Byte
  | .powerOn => 0
  | .resetLine => 1
  | .restartCommand => 2

def LinkId.number : LinkId → Byte
  | .a => 0
  | .b => 1

/-- The kinds of notice, from FILED as 1 to EDITION_TURNED as 24 (spec/11 11.4). -/
def NoticeKind.number : NoticeKind → Byte
  | .filed => 1
  | .upgraded => 2
  | .changed => 3
  | .gone => 4
  | .offered => 5
  | .offerTaken => 6
  | .offerDeclined => 7
  | .offerWithdrawn => 8
  | .offerExpired => 9
  | .lockLapsed => 10
  | .lockBroken => 11
  | .deadlineNear => 12
  | .atRisk => 13
  | .pageLate => 14
  | .releaseBlocked => 15
  | .pageFault => 16
  | .pageSent => 17
  | .linkSwitched => 18
  | .linkDown => 19
  | .linkReturned => 20
  | .storeTight => 21
  | .storeEased => 22
  | .portDetached => 23
  | .editionTurned => 24

/-- The reason codes (spec/11 11.4). -/
def Reason.number : Reason → Byte
  | .newVersion => 1
  | .reclassified => 2
  | .spiked => 3
  | .restored => 4
  | .withdrawn => 5
  | .window => 6
  | .portDetached => 7
  | .rejected => 8
  | .stalled => 9
  | .linkA => 10
  | .linkB => 11

/-- The result codes in the order of their table, which numbers them from OK as 0 to LAST_CONTROL as 36 (spec/09 9.9, R175). -/
def resultCodes : List Code :=
  [.ok, .busy, .checkError, .starting, .detached, .badCommand, .badParam, .notPermitted, .portGuarded, .tooSoon] ++
  [.notDetached, .dataTimeout, .noStory, .duplicate, .tooMany, .storeTight, .storeFull, .versionsPinned, .noVersion] ++
  [.versionRetiring, .storyBusy, .notSpiked, .lockedElsewhere, .notHolder, .notOpen, .lockBroken, .noRoute, .sameDesk] ++
  [.noDesk, .offerGone, .noPage, .pageBusy, .emptyPage, .queueFull, .notQueued, .editionPassed, .lastControl]

/-- The commands in the order of their catalogue, which numbers them from FILE as 1 to IDENTIFY as 49 (spec/09 9.10, R175). -/
def catalogue : List Cmd :=
  [.file, .find, .describe, .reclassify, .route, .spike, .restore, .purge, .read, .storeStatus] ++
  [.checkout, .renew, .abandon, .checkin, .breakLock, .offer, .accept, .decline, .withdraw, .collect] ++
  [.filter, .mask, .watch, .unwatch, .clockStart, .clockStop, .turn, .editionLength, .deadline, .channel] ++
  [.clockStatus, .page, .place, .unplace, .release, .recall, .pageStatus, .links, .feedStatus, .attach] ++
  [.reattach, .portStatus, .settings, .save, .dump, .hold, .unhold, .restart, .identify]

/-- A flag byte: 00h no, 01h yes. -/
def yesNo (b : Bool) : Byte := if b = true then 1 else 0

/-! ### Replies -/

/-- The step of a result frame that carries OK: one from the fault count, not below 0, and the standing that follows; a
DETACHED port does not move (R161). -/
def Port.credited (x : Port) : Port :=
  if x.standing = .detached then x
  else { x with faults := x.faults - 1, standing := if 128 ≤ x.faults - 1 then .guarded else .active }

/-- A result frame: kind 03h, the command's tag, the code and its values (R155, R175). -/
def resultFrame (h : Head) (code : Code) (values : List Byte) : Emission :=
  .frame h.port { kind := 0x03, tag := h.tag, payload := code.byte :: values }

/-- The ports after a result frame that carries OK. -/
def Switch.creditedPorts (s : Switch) (p : PortId) : Bank 6 Port := s.ports.set p (s.ports.get p).credited

/-- The state of an event that sends one result frame and does nothing else to the port (R155, R161). -/
def Switch.replied (s : Switch) (h : Head) (code : Code) (values : List Byte) : Switch :=
  { s with
    ports := if code = .ok then s.creditedPorts h.port else s.ports
    last := { sent := [resultFrame h code values], released := false } }

/-- The state of an event that opens a result stream: the OK with its values, and the port in RESULT (R155). A hold line that
is up starts its hold at once (log entry 23). -/
def Switch.streaming (s : Switch) (h : Head) (c : Cmd) (values : List Byte) (x : Stream) : Switch :=
  let s := s.replied h .ok values
  let p := s.ports.get h.port
  { s with
    ports := s.ports.set h.port
      { p with phase := .result, running := some { tag := h.tag, cmd := c }, stream := some x,
               holdStart := if p.holdLine then some s.wall else none } }

/-- The state of an event that sends nothing. -/
def Switch.quietly (s : Switch) : Switch := { s with last := { sent := [], released := false } }

/-! ### The edition turn and the automatic releases -/

/-- What an automatic release leaves as it was: everything but the channels, stories, inboxes, pages and the queue (R114, R131). -/
structure Switch.ReleaseFrame (s w : Switch) : Prop where
  wall : w.wall = s.wall
  watches : w.watches = s.watches
  store : w.store = s.store
  uploads : w.uploads = s.uploads
  sending : w.sending = s.sending
  links : w.links = s.links
  active : w.active = s.active
  pace : w.pace = s.pace
  groups : w.groups = s.groups
  holds : w.holds = s.holds
  image : w.image = s.image
  saving : w.saving = s.saving
  starting : w.starting = s.starting
  cause : w.cause = s.cause
  defaulted : w.defaulted = s.defaulted
  free : w.free = s.free

/-- The records after a story's purge has completed: GONE to the watchers, their entries gone, the chains back at the front of the
pool one after another, the slot VACANT under the next generation, and no upload's victim looked for on its list (R17, R22, R26). -/
def Switch.purged (s : Switch) (k : Handle) (st : Story) : Switch :=
  { s with
    slots := s.slots.set k.slot { gen := k.gen + 1, story := none }
    watches := s.watches.filter fun w => w.handle != k
    inboxes :=
      (s.postWatchers k
        { kind := .gone, cls := st.urgency, stamp := s.wall, handle := some k, slug := some st.slug }).inboxes
    store :=
      { s.store with
        freePool := ((st.versions.map Version.chain).reverse.flatten) ++ s.store.freePool
        freeCount := s.store.freeCount + (st.versions.map fun v => v.chain.length).sum }
    uploads := s.uploads.map fun x => x.map fun u => if u.handle = k then { u with victim := none } else u
    last := { s.last with released := true } }

/-- An upload record as it was, or, its story purged, with no victim to look for (R26). -/
def uploadKept (s w : Switch) (p : PortId) : Prop :=
  w.uploads.get p = s.uploads.get p ∨
    ∃ u, s.uploads.get p = some u ∧ w.uploads.get p = some { u with victim := none } ∧
      (w.slots.get u.handle.slot).gen = u.handle.gen + 1

/-- A story but for its pin counts, which a release may raise. -/
def Story.unpinnedFields (st : Story) : Story := { st with versions := st.versions.map fun v => { v with pins := 0 } }

/-- A channel after its deadline match, in QUIET or WARNED before it (R109). -/
def Switch.matched (s : Switch) (c : ChannelId) : Channel :=
  let x := s.channels.get c
  let interval := (s.groups.clock.channels.get c).lateInterval
  if s.groupDone c then { x with state := .cleared }
  else
    { x with
      state := .due, lateCount := 0
      nextLate := if interval = 0 ∨ 65535 < s.clock.ticks + interval then none else some (s.clock.ticks + interval) }

/-- The records after an edition turn: the clock (R100), each channel (R113), each story (R18), each page (R114, R132), and all
that no owner of the turn changes. -/
structure Switch.TurnedFrom (s w : Switch) : Prop where
  clock : w.clock =
    { running := s.clock.running, ticks := 0, edition := if s.clock.edition = 255 then 1 else s.clock.edition + 1,
      activeLength := s.groups.clock.editionLength }
  channels : ∀ c, w.channels.get c =
    { active :=
        if (s.groups.clock.channels.get c).bufferMode = .atTurn then (s.groups.clock.channels.get c).deadline
        else (s.channels.get c).active
      state := .quiet, lateCount := 0, nextLate := none, atRisk := false, warningDue := false }
  purged : ∀ i st pending, (s.slots.get i).story = some st → st.status = .spiked pending → (∀ v ∈ st.versions, v.pins = 0) →
    w.slots.get i = { gen := (s.slots.get i).gen + 1, story := none }
  purgePending : ∀ i st pending, (s.slots.get i).story = some st → st.status = .spiked pending → ¬(∀ v ∈ st.versions, v.pins = 0) →
    w.slots.get i = { s.slots.get i with story := some { st with status := .spiked true } }
  keptStory : ∀ i, (∀ st pending, (s.slots.get i).story = some st → st.status ≠ .spiked pending) →
    (w.slots.get i).gen = (s.slots.get i).gen ∧
      (w.slots.get i).story.map Story.unpinnedFields = (s.slots.get i).story.map Story.unpinnedFields
  sentPage : ∀ q, (s.pages.get q).state = .sent → w.pages.get q = { s.pages.get q with state := .making }
  placedPage : ∀ q, (s.pages.get q).state = .queued ∨ (s.pages.get q).state = .sending → w.pages.get q = s.pages.get q
  otherPage : ∀ q, (s.pages.get q).state = .making ∨ (s.pages.get q).state = .faulted →
    w.pages.get q = s.pages.get q ∨ ∃ job, w.pages.get q = { s.pages.get q with state := .queued, job := some job }
  reserved : w.store.reserved = s.store.reserved
  copy : w.store.copy = s.store.copy
  uploads : ∀ p, uploadKept s w p
  sending : w.sending = s.sending
  links : w.links = s.links
  active : w.active = s.active
  pace : w.pace = s.pace
  groups : w.groups = s.groups
  holds : w.holds = s.holds
  image : w.image = s.image
  saving : w.saving = s.saving
  starting : w.starting = s.starting
  cause : w.cause = s.cause
  defaulted : w.defaulted = s.defaulted
  free : w.free = s.free

/-! ### Ports cleared and start-ups begun -/

/-- A port in IDLE: no running command, no stream, no hold start (R155). -/
def Port.idled (x : Port) : Port := { x with phase := .idle, running := none, stream := none, holdStart := none }

/-- What a detach and a rise of a port's reset line both leave: the port's command abandoned, its locks let go, its watch entries
gone and its inbox empty, with everything no other port's records share as it was (R162, R165). -/
structure Switch.ClearedFrom (s w : Switch) (p : PortId) : Prop where
  upload : w.uploads.get p = none
  otherUpload : ∀ k, k ≠ p → uploadKept s w k
  otherPort : ∀ k, k ≠ p → w.ports.get k = s.ports.get k
  watches : ∀ x ∈ w.watches, x ∈ s.watches ∧ x.port ≠ p
  otherWatches : ∀ x ∈ s.watches, x.port ≠ p → (w.slots.get x.handle.slot).gen = (s.slots.get x.handle.slot).gen → x ∈ w.watches
  inbox : w.inboxes.get p = { notices := [], lost := 0 }
  locks : ∀ i st l, (w.slots.get i).story = some st → st.status = .opened l → l.holder.port ≠ p
  otherLocks : ∀ i st l, (s.slots.get i).story = some st → st.status = .opened l → l.holder.port ≠ p →
    (∀ u, s.uploads.get p = some u → u.kind = .file → u.handle.slot ≠ i) → (w.slots.get i).story.map Story.status = some (.opened l)
  copy : w.store.copy = s.store.copy
  wall : w.wall = s.wall
  clock : w.clock = s.clock
  channels : w.channels = s.channels
  pages : w.pages = s.pages
  queue : w.queue = s.queue
  sending : w.sending = s.sending
  releases : w.releases = s.releases
  links : w.links = s.links
  active : w.active = s.active
  pace : w.pace = s.pace
  groups : w.groups = s.groups
  holds : w.holds = s.holds
  image : w.image = s.image
  saving : w.saving = s.saving.map fun x => if x.port = some p then { x with port := none } else x
  starting : w.starting = s.starting
  cause : w.cause = s.cause
  defaulted : w.defaulted = s.defaulted
  free : w.free = s.free

/-- The locks of a port's screens let go, with no notice, and its watch entries gone (R56, R96). -/
def Switch.letGo (s : Switch) (p : PortId) : Switch :=
  { s with
    slots := s.slots.map fun x =>
      match x.story with
      | none => x
      | some st =>
        match st.status with
        | .opened l => if l.holder.port = p then { x with story := some { st with status := .filed } } else x
        | _ => x
    watches := s.watches.filter fun w => w.port != p }

/-- A version after a restart: no pin and no retiring mark (R38). -/
def Version.restarted (v : Version) : Version := { v with pins := 0, retiring := false }

/-- A slot after a restart (R20, R38, R57, R73). -/
def Slot.restarted (x : Slot) : Slot :=
  match x.story with
  | none => x
  | some st =>
    let kept := st.versions.map Version.restarted
    match st.status with
    | .filing => { gen := x.gen + 1, story := none }
    | .spiked true => { gen := x.gen + 1, story := none }
    | .spiked false => { x with story := some { st with versions := kept } }
    | .filed => { x with story := some { st with versions := kept } }
    | .opened _ => { x with story := some { st with status := .filed, versions := kept } }
    | .offered _ => { x with story := some { st with status := .filed, versions := kept } }

/-- The chains a restart retires from a slot: those of a story whose purge is pending (R20, R38). -/
def Slot.restartChains (x : Slot) : List (List Nat) :=
  match x.story with
  | none => []
  | some st => if st.status = .spiked true then st.versions.map Version.chain else []

/-- The chains a restart returns: the staging chains in port order, then the purged stories' in slot order (R22). -/
def Switch.restartChains (s : Switch) : List (List Nat) :=
  (s.uploads.cells.filterMap fun u => u.map Upload.staging) ++ s.slots.cells.flatMap Slot.restartChains

/-- The records at the beginning of a restart (R20, R22, R38, R57, R73, R86, R92, R98, R104, R133, R153, R154, R171). -/
structure Switch.RestartedFrom (s w : Switch) (cause : StartCause) : Prop where
  starting : w.starting = true
  cause : w.cause = cause
  ports : ∀ p, w.ports.get p =
    { phase := .idle, running := none, faults := 0, standing := .active, dataStart := (s.ports.get p).dataStart, holdStart := none,
      quietStart := 0, stream := none, holdLine := (s.ports.get p).holdLine, resetLine := (s.ports.get p).resetLine }
  uploads : ∀ p, w.uploads.get p = none
  watches : w.watches = []
  inboxes : ∀ p, w.inboxes.get p = { notices := [], lost := 0 }
  slots : ∀ i, w.slots.get i = (s.slots.get i).restarted
  store : w.store =
    { freePool := s.restartChains.reverse.flatten ++ s.store.freePool
      freeCount := s.store.freeCount + (s.restartChains.map List.length).sum
      reserved := 0, tight := s.store.tight, copy := s.store.copy }
  channels : ∀ c, w.channels.get c = { s.channels.get c with warningDue := false }
  releases : w.releases = 0
  active : w.active = s.active
  free : w.free = s.free
  pages : ∀ q, w.pages.get q =
    { s.pages.get q with
      state := if (s.pages.get q).state = .queued ∨ (s.pages.get q).state = .sending then .making else (s.pages.get q).state
      job := none }
  queue : w.queue = []
  sending : w.sending = none
  links : ∀ l, w.links.get l =
    { s.links.get l with state := .off, engine := .idle, page := none, taken := 0, trailerTaken := 0, voided := none }
  pace : w.pace = { window := none, samples := [], pace := 0 }
  saving : w.saving = none
  clock : w.clock = { s.clock with running := false }
  wall : w.wall = s.wall
  groups : w.groups = s.groups
  holds : w.holds = s.holds
  image : w.image = s.image
  defaulted : w.defaulted = s.defaulted

/-- What start-up's load finds: the image's contents when its check matches and every field is in range, else the factory
defaults (R172, R178). -/
def Switch.loaded (s : Switch) : Option Groups :=
  match s.image with
  | none => none
  | some x => if x.check = crc32 x.contents.fields ∧ x.contents.inRange = true then some x.contents else none

/-! ### Invariants -/

/-- The bytes of the copy store are in canonical form. -/
def Switch.copyCanonical (s : Switch) : Prop := Memory.wf s.store.copy = true

/-- An inbox holds at most 48 notices in descending class order, and its lost count is at most 255 (R77, R78, R81). -/
def Inbox.ordered (box : Inbox) : Prop :=
  box.notices.length ≤ 48 ∧ box.notices.Pairwise (fun m n => n.cls.rank ≤ m.cls.rank) ∧ box.lost ≤ 255

/-- Every inbox is ordered (R77). -/
def Switch.inboxesOrdered (s : Switch) : Prop := ∀ p : PortId, (s.inboxes.get p).ordered

/-- Every field of the running groups is in its range, with a CONTROL port and low-water below high-water (R167), and the clock
stands inside its edition: edition 1 to 255, ticks below the active length, which is at most 65,535; and it is stopped while
start-up runs (R98, R103, R171). -/
def Switch.settingsInRange (s : Switch) : Prop :=
  s.groups.inRange = true ∧ 1 ≤ s.clock.edition ∧ s.clock.edition ≤ 255 ∧ s.clock.ticks < s.clock.activeLength ∧
    s.clock.activeLength ≤ 65535 ∧ (s.starting = true → s.clock.running = false)

/-- Every port's fault count is at most 255 and its standing follows the count, unless it is DETACHED (R161). -/
def Switch.standingsFollow (s : Switch) : Prop :=
  ∀ p : PortId, (s.ports.get p).faults ≤ 255 ∧
    ((s.ports.get p).standing = .detached ∨
      (s.ports.get p).standing = if 128 ≤ (s.ports.get p).faults then .guarded else .active)

/-! ### Invariants of the store, its pins, the watch table and the queue -/

/-- The chains of the versions of a slot's story. -/
def Slot.chains (x : Slot) : List (List Nat) := ((x.story.map Story.versions).getD []).map Version.chain

/-- Every block in the three places of R21: the free pool, the version chains, the staging chains. -/
def Switch.heldBlocks (s : Switch) : List Nat :=
  s.store.freePool ++ (s.slots.cells.flatMap Slot.chains).flatten ++
    s.uploads.cells.flatMap fun u => (u.map Upload.staging).getD []

/-- The sum of the remaining reservations of all open upload records (R21). -/
def Switch.reservations (s : Switch) : Nat := (s.uploads.cells.map fun u => (u.map Upload.remaining).getD 0).sum

/-- A version list as R27 and R28 give it: at most 4 versions, numbered 1 to 65,535 with no number twice, each chain of
ceil(length/512) blocks. -/
def versionsInOrder (l : List Version) : Prop :=
  l.length ≤ 4 ∧ (l.map Version.number).Nodup ∧
    ∀ v ∈ l, 1 ≤ v.number ∧ v.number ≤ 65535 ∧ v.length ≤ 65535 ∧ v.chain.length = (v.length + 511) / 512

/-- An upload record of a port as R24 gives it, with the story it is for: a FILE's in FILING (R7), a CHECKIN's in FILLING locked
by a screen of the port with its lease suspended (R46), its list with room for the new version (R28). -/
structure Switch.UploadInOrder (s : Switch) (p : PortId) (u : Upload) : Prop where
  phase : (s.ports.get p).phase = .command
  taken : u.taken ≤ u.declared ∧ u.declared ≤ 65535
  filling : u.mode = .filling →
    u.staging.length = (u.taken + 511) / 512 ∧ u.remaining + u.staging.length = (u.declared + 511) / 512
  draining : u.mode = .draining → u.staging = [] ∧ u.remaining = 0
  file : u.kind = .file → u.mode = .filling ∧ u.victim = none ∧ ∃ st, s.story u.handle = some st ∧ st.status = .filing
  checkin : ∀ keep, u.kind = .checkin keep → u.mode = .filling →
    ∃ st l, s.story u.handle = some st ∧ st.status = .opened l ∧ l.holder.port = p ∧ l.suspended = true ∧
      (u.victim = none → st.versions.length ≤ 3) ∧ ∀ n, u.victim = some n → ∃ v ∈ st.versions, v.number = n

/-- The accounts of the store (R21, R22): each of the 8,192 blocks in exactly one of its three places, the free-pool count the
blocks of the pool, the outstanding reservation the sum of the remaining reservations and not above the free-pool count; every
version list in order, with 1 to 4 versions but for a FILING story, which has none (R27, R28); every upload record in order,
no two FILE uploads of one slot (R7, R24); and a port whose SAVE is being written in EXECUTING (R169). -/
structure Switch.StoreInOrder (s : Switch) : Prop where
  blocks : s.heldBlocks.Perm (List.range 8192)
  freeCount : s.store.freeCount = s.store.freePool.length
  reserved : s.store.reserved = s.reservations ∧ s.store.reserved ≤ s.store.freeCount
  versions : ∀ i st, (s.slots.get i).story = some st →
    versionsInOrder st.versions ∧ (st.versions = [] ↔ st.status = .filing)
  uploads : ∀ p u, s.uploads.get p = some u → s.UploadInOrder p u
  files : ∀ p p' u u', s.uploads.get p = some u → s.uploads.get p' = some u' → u.kind = .file → u'.kind = .file →
    u.handle.slot = u'.handle.slot → p = p'
  saving : ∀ x p, s.saving = some x → x.port = some p → (s.ports.get p).phase = .executing

/-- The number of snapshot entries of QUEUED and SENDING pages that captured a version, and of READ streams of it (R31). -/
def Switch.pinsOn (s : Switch) (k : Handle) (n : Nat) : Nat :=
  (s.pages.cells.flatMap fun x => (x.job.map Job.entries).getD []).countP (fun e => e.handle == k && e.version == some n) +
    s.ports.cells.countP fun x =>
      match x.stream with
      | some (.read h m _) => h == k && m == n
      | _ => false

/-- A handle names a story with a version of a number on its list (R2, R28). -/
def Switch.hasVersion (s : Switch) (k : Handle) (n : Nat) : Prop := ∃ st v, s.story k = some st ∧ v ∈ st.versions ∧ v.number = n

/-- The pins agree with what holds them (R31): each pin count is the number of entries and READ streams on the version, a version
so held stands on its list, a marked version is unpinned and not current, a pending purge waits for a pin (R16, R19), and an
upload's victim is a marked version that no other upload names (R26, R29). -/
structure Switch.PinsAgree (s : Switch) : Prop where
  pins : ∀ i st v, (s.slots.get i).story = some st → v ∈ st.versions → v.pins = s.pinsOn (s.handleAt i) v.number
  marked : ∀ i st v, (s.slots.get i).story = some st → v ∈ st.versions → v.retiring = true →
    v.pins = 0 ∧ st.versions.getLast? ≠ some v
  pending : ∀ i st, (s.slots.get i).story = some st → st.status = .spiked true → ∃ v ∈ st.versions, v.pins ≠ 0
  entries : ∀ q j e n, (s.pages.get q).job = some j → e ∈ j.entries → e.version = some n → s.hasVersion e.handle n
  streams : ∀ p k n sent, (s.ports.get p).stream = some (.read k n sent) → s.hasVersion k n
  result : ∀ p, (s.ports.get p).stream ≠ none → (s.ports.get p).phase = .result
  victims : ∀ p u n, s.uploads.get p = some u → u.victim = some n →
    ∃ st v, s.story u.handle = some st ∧ v ∈ st.versions ∧ v.number = n ∧ v.retiring = true
  apart : ∀ p p' u u', s.uploads.get p = some u → s.uploads.get p' = some u' → u.handle = u'.handle → u.victim ≠ none →
    u.victim = u'.victim → p = p'

/-- The watch table (R92): at most 512 entries, no two the same, each naming a story and a port that is not DETACHED. -/
def Switch.watchesInOrder (s : Switch) : Prop :=
  s.watches.length ≤ 512 ∧ s.watches.Nodup ∧
    ∀ x ∈ s.watches, s.story x.handle ≠ none ∧ (s.ports.get x.port).standing ≠ .detached

/-- The standing of a waiting page in the queue, and the release order of its job (R125). -/
def Switch.standingOf (s : Switch) (q : PageId) : (Nat × Nat) × Nat :=
  match (s.pages.get q).job with
  | none => ((4, 0), 0)
  | some j => (j.rank, j.order)

/-- One waiting page stands before another: by its standing, and among equals by its release order (R125). -/
def Switch.standsBefore (s : Switch) (q q' : PageId) : Prop :=
  rankBefore (s.standingOf q).1 (s.standingOf q').1 = true ∨
    (s.standingOf q).1 = (s.standingOf q').1 ∧ (s.standingOf q).2 < (s.standingOf q').2

/-- The page table, the release queue and the engines in accord: the queue lists each QUEUED page once, in the order of R125, and with
the SENDING page holds at most 32 places; a job is present exactly while a page is QUEUED or SENDING, an undefined record is empty,
and no layout or snapshot is longer than 16 (R117, R124); the SENDING page is in flight on the active link, whose engine alone may be
busy, and only while UP (R125, R135, R137); a link is OFF while disabled (R135); and start-up runs with the queue empty, the clock
stopped, both links OFF and no engine busy (R98, R125, R153). -/
structure Switch.QueueInOrder (s : Switch) : Prop where
  queued : ∀ q, q ∈ s.queue ↔ (s.pages.get q).state = .queued
  sending : ∀ q, s.sending = some q ↔ (s.pages.get q).state = .sending
  jobs : ∀ q, (s.pages.get q).job ≠ none ↔ (s.pages.get q).state = .queued ∨ (s.pages.get q).state = .sending
  places : s.queue.Nodup ∧ s.queue.length + (if s.sending = none then 0 else 1) ≤ 32
  order : s.queue.Pairwise s.standsBefore
  releases : ∀ q j, (s.pages.get q).job = some j → j.order ≤ s.releases
  returned : ∀ q j, (s.pages.get q).job = some j → j.returned = true → s.queue.head? = some q ∧ s.sending = none
  sizes : ∀ q, (s.pages.get q).layout.length ≤ 16 ∧ ∀ j, (s.pages.get q).job = some j → j.entries.length ≤ 16
  undefined : ∀ q, s.groups.clock.pages.get q = none →
    s.pages.get q = { state := .making, lastSent := 0, layout := [], job := none }
  flight : ∀ l q, (s.links.get l).page = some q ↔ s.sending = some q ∧ l = s.active
  engines : ∀ l,
    ((s.links.get l).page ≠ none ↔ (s.links.get l).engine = .presenting ∨ (s.links.get l).engine = .awaiting) ∧
      ((s.links.get l).engine ≠ .idle → l = s.active ∧ (s.links.get l).state = .up)
  off : ∀ l, s.groups.feed.enable.get l = false → (s.links.get l).state = .off
  startUp : s.starting = true → s.clock.running = false ∧ s.queue = [] ∧ s.sending = none ∧
    ∀ l, (s.links.get l).state = .off ∧ (s.links.get l).engine = .idle

end Sys2Proof.Machine
end

