-- ==== Sys2Proof/WellFormed.lean ====
section
/-! DEFINITION. Which terms of `Instr` a frame of a desk port or an event can be: lengths that a payload of 256 bytes holds, values that are not their own 'all bits one' word, codes that name no other row (R174, R175). -/

namespace Sys2Proof

/-- A one-byte value that is not all bits one, which would be read as its word. -/
def notOnes (b : Option Byte) : Bool := b != some 0xFF

/-- The lengths that make a payload of at most 256 bytes of FILE: code, slug, owner, urgency, category, screen, plan, length. -/
def FileArgs.wf (a : FileArgs) : Bool := decide (a.slug.length ≤ 255 ∧ a.route.length ≤ 255 ∧ 10 + a.slug.length + a.route.length ≤ 256)

/-- PAGE's other action is neither DEFINE nor UNDEFINE; a binding is not FFh. -/
def PageAction.wf : PageAction → Bool
  | .define _ _ _ binding => notOnes binding
  | .undefine => true
  | .other code => code != 0 && code != 1

/-- SETTINGS carries six privileges, sixteen serving ports and sixteen labels of eight bytes; its other groups are those it does
not write. -/
def SettingsArgs.wf : SettingsArgs → Bool
  | .ports privileges serving labels =>
    decide (privileges.length = 6) && decide (serving.length = 16) && serving.all notOnes && decide (labels.length = 16) &&
      labels.all fun l => decide (l.length = 8)
  | .feed _ _ _ _ _ => true
  | .store _ _ _ _ => true
  | .other group => group != 0 && group != 3 && group != 4

/-- A well-formed row. Rows that are not named hold no value that needs a check. -/
def Instr.wf : Instr → Bool
  | .file _ (some a) => a.wf
  | .find _ (some slug) => decide (slug.length ≤ 254)
  | .reclassify _ (some a) => notOnes a.urgency && a.category != some 0xFFFF
  | .route _ (some a) => decide (a.route.length ≤ 251)
  | .read _ (some a) => a.version != some 0
  | .offer _ (some a) => notOnes a.target
  | .turn _ (some a) => notOnes a.edition
  | .page _ (some a) => a.action.wf
  | .place _ (some a) => decide (a.frame.length = 16) && notOnes a.position
  | .pageStatus _ (some a) => notOnes a.page
  | .portStatus _ (some a) => notOnes a.port
  | .settings _ (some a) => a.wf
  | .dataFrame _ _ text => decide (text.length ≤ 256)
  | .unexpectedFrame _ kind => kind != 1 && kind != 2
  | .unknownCommand _ code =>
    match code with
    | none => true
    | some c => decide (c.toNat = 0 ∨ 50 ≤ c.toNat)
  | _ => true

end Sys2Proof
end

