-- ==== Sys2Proof/Certificates/Slice0/Obligations.lean ====
section
/-! DEFINITION. The statements about the model, for the provers: what its commands and events do, clause by clause from the rules of spec/. -/

open Sys2Proof Sys2Proof.Machine

/-! ### The step, the reset and the port's own checks -/

/-- A step with a command at the front of the queue is that command's meaning on the queue's rest. -/
def Obligations.StepTakesTheFrontCommand : Prop :=
  ∀ (c : Instr) (s : State), step { s with pending := c :: s.pending } = exec c s

/-- Every command and event goes on to a next state, and none of them touches the queue (log entry 7). -/
def Obligations.EveryCommandGoesOn : Prop :=
  ∀ (c : Instr) (s : State), ∃ w : Switch, exec c s = .next { s with sw := w }

/-- What the chapters give for power-on, start-up running (R1, R21, R22, R59, R77, R92, R97, R98, R104, R117, R125, R135, R153, R154, R170,
R171). That reset is the event of power-on is log entry 1. The values before the first load that the manual does not give (log entries 2, 4, 5)
and the lines' levels (3) are left out. -/
def Obligations.ResetLeavesThePowerOnRecords : Prop :=
  let s := State.reset.sw
  (∀ i, s.slots.get i = { gen := 0, story := none }) ∧
  s.store.freePool.length = 8192 ∧ (∀ k < 8192, s.store.freePool[k]? = some k) ∧ s.store.freeCount = 8192 ∧
  s.store.reserved = 0 ∧ s.store.tight = false ∧ (∀ p, s.uploads.get p = none) ∧
  s.watches = [] ∧ (∀ p, s.inboxes.get p = { notices := [], lost := 0 }) ∧
  s.wall = 0 ∧ s.clock.running = false ∧ s.clock.ticks = 0 ∧ s.clock.edition = 1 ∧
  (∀ c, (s.channels.get c).state = .quiet ∧ (s.channels.get c).lateCount = 0 ∧ (s.channels.get c).nextLate = none ∧
    (s.channels.get c).atRisk = false) ∧
  (∀ q, (s.pages.get q).state = .making ∧ (s.pages.get q).layout = [] ∧ (s.pages.get q).lastSent = 0 ∧
    (s.pages.get q).job = none) ∧
  s.queue = [] ∧ s.sending = none ∧ s.releases = 0 ∧
  (∀ l, (s.links.get l).state = .off ∧ (s.links.get l).engine = .idle ∧ (s.links.get l).page = none ∧
    (s.links.get l).voided = none) ∧
  s.pace.window = none ∧ s.pace.samples = [] ∧ s.pace.pace = 0 ∧
  (∀ p, (s.ports.get p).phase = .idle ∧ (s.ports.get p).running = none ∧ (s.ports.get p).faults = 0 ∧
    (s.ports.get p).standing = .active ∧ (s.ports.get p).holdStart = none ∧ (s.ports.get p).quietStart = 0 ∧
    (s.ports.get p).stream = none) ∧
  s.holds = { ports := false, routing := false, clock := false, feed := false, store := false } ∧
  s.saving = none ∧ s.starting = true ∧ s.cause = .powerOn ∧ State.reset.pending = []

/-- The port's own checks of a command frame, one with an unknown code or with none among them, in the order of R156 and after R165; a
refusal changes nothing else. A command frame with an unknown code, or with none, that meets no earlier check is answered BAD_COMMAND,
and a good frame of another kind is discarded (R156, R165, R174, R175). -/
def Obligations.PortsRefuseInTheirOrder : Prop :=
  (∀ (i : Instr) (h : Head) (c : Option Cmd) (s : State), anyCommandRow i = some (h, c) →
    let x := s.sw.ports.get h.port
    (x.resetLine = true → exec i s = .next { s with sw := s.sw.quietly }) ∧
    (x.resetLine = false →
      (s.sw.starting = true → exec i s = .next { s with sw := s.sw.replied h .starting [] }) ∧
      (s.sw.starting = false →
        (x.phase ≠ .idle → exec i s = .next { s with sw := s.sw.replied h .busy [] }) ∧
        (x.phase = .idle →
          (h.tag = 0 → exec i s = .next { s with sw := s.sw.replied h .badParam [] }) ∧
          (h.tag ≠ 0 →
            (x.standing = .detached → c ≠ some .attach → exec i s = .next { s with sw := s.sw.replied h .detached [] }) ∧
            (∀ k, c = some k → x.standing ≠ .detached → controlOnly k = true →
              s.sw.groups.ports.privilege.get h.port = .desk →
                exec i s = .next { s with sw := s.sw.replied h .notPermitted [] })))))) ∧
  ((∀ (h : Head) (code : Option Byte) (s : State),
    let x := s.sw.ports.get h.port
    x.resetLine = false → s.sw.starting = false → x.phase = .idle → h.tag ≠ 0 → x.standing ≠ .detached →
      exec (.unknownCommand h code) s = .next { s with sw := s.sw.replied h .badCommand [] }) ∧
  (∀ (p : PortId) (kind : Byte) (s : State), exec (.unexpectedFrame p kind) s = .next { s with sw := s.sw.quietly }))

/-- The owning blocks' checks of a command that its port hands on, in their order, the first that fails giving the code: a parameter
missing or out of range is BAD_PARAM (R6, R35, R41, R61, R65, R67, R118, R175), a handle that names no story NO_STORY (R2); and FILE, the right
over a story (R5), RECLASSIFY, CHECKOUT, CHECKIN with its victim, OFFER with its target, ACCEPT, DECLINE, WITHDRAW and the page commands in
theirs (R6, R7, R12, R29, R34, R41, R42, R43, R46, R61, R62, R65, R66, R67, R118, R120, R121). The codes of ROUTE, SPIKE, RESTORE, PURGE, READ,
RENEW, ABANDON, BREAK, RELEASE, RECALL and PAGE by the state of their story or page, of a lock held elsewhere, and of the commands of the
other blocks, stand in the statements about those commands. The model's choices: a payload of the wrong layout is a row with no parameters,
BAD_PARAM by the owning block (log entry 12), and so is a set byte with a bit that stands for no port or group (33). -/
def Obligations.BlocksRefuseInTheirOrder : Prop :=
  ∀ (s : State) (h : Head),
    let x := s.sw.ports.get h.port
    let no (i : Instr) (code : Code) : Prop := exec i s = .next { s with sw := s.sw.replied h code [] }
    let short (n : Nat) : Prop := s.sw.store.freeCount - s.sw.store.reserved < (n + 511) / 512
    (∀ i c, commandRow i = some (h, c) → s.sw.takes h c →
      (¬paramsInRange i → no i .badParam) ∧
      (∀ a k, paramsInRange i → namedStory i = some a → handleOf a = some k → s.sw.story k = none → no i .noStory)) ∧
    (∀ a f, s.sw.takes h .file → FileArgs.check a = some f →
      (x.standing = .guarded → no (.file h (some a)) .portGuarded) ∧
      (x.standing = .active → ¬s.sw.hasRight h.port f.owner → no (.file h (some a)) .notPermitted) ∧
      (x.standing = .active → s.sw.hasRight h.port f.owner →
        ((∃ j st, (s.sw.slots.get j).story = some st ∧ st.slug = f.slug) → no (.file h (some a)) .duplicate) ∧
        ((∀ j st, (s.sw.slots.get j).story = some st → st.slug ≠ f.slug) →
          ((∀ j, (s.sw.slots.get j).story ≠ none) → no (.file h (some a)) .tooMany) ∧
          (∀ j, (s.sw.slots.get j).story = none →
            (s.sw.store.tight = true → f.urgency = .routine → no (.file h (some a)) .storeTight) ∧
            (¬(s.sw.store.tight = true ∧ f.urgency = .routine) → short f.length → no (.file h (some a)) .storeFull))))) ∧
    (∀ k st, s.sw.story k = some st →
      (¬s.sw.hasRight h.port st.owner →
        (∀ a r, s.sw.takes h .reclassify → ReclassifyArgs.check a = some r → r.handle = k →
          no (.reclassify h (some a)) .notPermitted) ∧
        (∀ a plan, s.sw.takes h .route → RouteArgs.check a = some (k, plan) → no (.route h (some a)) .notPermitted) ∧
        (∀ a, s.sw.takes h .spike → handleOf a = some k → no (.spike h (some a)) .notPermitted) ∧
        (∀ a, s.sw.takes h .restore → handleOf a = some k → no (.restore h (some a)) .notPermitted)) ∧
      (∀ a r, s.sw.takes h .reclassify → ReclassifyArgs.check a = some r → r.handle = k → s.sw.hasRight h.port st.owner →
        st.status = .filing ∨ (∃ b, st.status = .spiked b) → no (.reclassify h (some a)) .storyBusy) ∧
      (∀ a n, s.sw.takes h .checkout → ScreenArgs.check a = some (n, k) →
        (x.standing = .guarded → no (.checkout h (some a)) .portGuarded) ∧
        (x.standing = .active → ¬s.sw.hasRight h.port st.owner → no (.checkout h (some a)) .notPermitted) ∧
        (x.standing = .active → s.sw.hasRight h.port st.owner →
          st.status = .filing ∨ (∃ o, st.status = .offered o) ∨ (∃ b, st.status = .spiked b) →
            no (.checkout h (some a)) .storyBusy)) ∧
      (∀ a c, s.sw.takes h .checkin → CheckinArgs.check a = some c → c.handle = k →
        ((∀ l, st.status = .opened l → l.holder ≠ { port := h.port, number := c.screen }) →
          no (.checkin h (some a)) .notHolder) ∧
        (∀ l, st.status = .opened l → l.holder = { port := h.port, number := c.screen } →
          (s.sw.store.tight = true → st.urgency = .routine → no (.checkin h (some a)) .storeTight) ∧
          (¬(s.sw.store.tight = true ∧ st.urgency = .routine) →
            (short c.length → no (.checkin h (some a)) .storeFull) ∧
            (¬short c.length → st.versions.length = 4 → (∀ v ∈ st.versions.dropLast, v.pins ≠ 0 ∨ v.retiring = true) →
              no (.checkin h (some a)) .versionsPinned)))) ∧
      (∀ a c, s.sw.takes h .offer → OfferArgs.check a = some c → c.handle = k →
        (x.standing = .guarded → no (.offer h (some a)) .portGuarded) ∧
        (x.standing = .active → ¬s.sw.hasRight h.port st.owner → no (.offer h (some a)) .notPermitted) ∧
        (x.standing = .active → s.sw.hasRight h.port st.owner →
          (st.status ≠ .filed → no (.offer h (some a)) .storyBusy) ∧
          (st.status = .filed →
            (c.target = some st.owner → no (.offer h (some a)) .sameDesk) ∧
            (c.target = none → (∀ d ∈ st.route, d = st.owner) → no (.offer h (some a)) .noRoute) ∧
            (∀ d,
              (c.target = some d ∧ d ≠ st.owner ∨
                c.target = none ∧ d ≠ st.owner ∧ ∃ passed rest, (∀ e ∈ passed, e = st.owner) ∧ st.route = passed ++ d :: rest) →
              (∀ p, s.sw.groups.ports.serving.get d = some p → (s.sw.ports.get p).standing = .detached) →
                no (.offer h (some a)) .noDesk)))) ∧
      (∀ d,
        (∀ a, s.sw.takes h .accept → DeskArgs.check a = some (k, d) →
          (s.sw.groups.ports.serving.get d ≠ some h.port → no (.accept h (some a)) .notPermitted) ∧
          (s.sw.groups.ports.serving.get d = some h.port → (∀ o, st.status = .offered o → o.target ≠ d) →
            no (.accept h (some a)) .offerGone)) ∧
        (∀ a note, s.sw.takes h .decline → DeclineArgs.check a = some (k, d, note) →
          (s.sw.groups.ports.serving.get d ≠ some h.port → no (.decline h (some a)) .notPermitted) ∧
          (s.sw.groups.ports.serving.get d = some h.port → (∀ o, st.status = .offered o → o.target ≠ d) →
            no (.decline h (some a)) .offerGone)) ∧
        (∀ a, s.sw.takes h .withdraw → DeskArgs.check a = some (k, d) →
          (¬s.sw.hasRight h.port st.owner → no (.withdraw h (some a)) .notPermitted) ∧
          (s.sw.hasRight h.port st.owner → (∀ o, st.status = .offered o → o.target ≠ d) →
            no (.withdraw h (some a)) .offerGone)))) ∧
    (∀ a c, s.sw.takes h .place → PlaceArgs.check a = some c →
      let layout := (s.sw.pages.get c.page).layout
      (∀ n, c.position = some n → layout.length < n → no (.place h (some a)) .badParam) ∧
      ((∀ n, c.position = some n → n ≤ layout.length) →
        (s.sw.groups.clock.pages.get c.page = none → no (.place h (some a)) .noPage) ∧
        (∀ d, s.sw.groups.clock.pages.get c.page = some d →
          (¬s.sw.hasRight h.port d.owner → no (.place h (some a)) .notPermitted) ∧
          (s.sw.hasRight h.port d.owner →
            (s.sw.story c.handle = none → no (.place h (some a)) .noStory) ∧
            (s.sw.story c.handle ≠ none → 16 ≤ layout.length → no (.place h (some a)) .tooMany))))) ∧
    (∀ a q n, s.sw.takes h .unplace → UnplaceArgs.check a = some (q, n) →
      let layout := (s.sw.pages.get q).layout
      (layout.length ≤ n → no (.unplace h (some a)) .badParam) ∧
      (n < layout.length →
        (s.sw.groups.clock.pages.get q = none → no (.unplace h (some a)) .noPage) ∧
        (∀ d, s.sw.groups.clock.pages.get q = some d → ¬s.sw.hasRight h.port d.owner → no (.unplace h (some a)) .notPermitted))) ∧
    (∀ a q rush, s.sw.takes h .release → ReleaseArgs.check a = some (q, rush) →
      (s.sw.groups.clock.pages.get q = none → no (.release h (some a)) .noPage) ∧
      (∀ d, s.sw.groups.clock.pages.get q = some d → ¬s.sw.hasRight h.port d.owner → no (.release h (some a)) .notPermitted)) ∧
    (∀ (b : Byte) (q : PageId), s.sw.takes h .recall → b.toNat = q.val →
      (s.sw.groups.clock.pages.get q = none → no (.recall h (some b)) .noPage) ∧
      (∀ d, s.sw.groups.clock.pages.get q = some d → ¬s.sw.hasRight h.port d.owner → no (.recall h (some b)) .notPermitted))

/-! ### The directory -/

/-- A FILE of a length above 0 that passes every check of R6 and R7: the slot, the reservation and its tight test, the upload
record and the data phase. -/
def Obligations.FileOpensItsDataPhase : Prop :=
  ∀ (s : State) (h : Head) (a : FileArgs) (f : FileParams) (i : SlotId),
    FileArgs.check a = some f → s.sw.takes h .file → (s.sw.ports.get h.port).standing = .active → s.sw.hasRight h.port f.owner →
    (∀ j st, (s.sw.slots.get j).story = some st → st.slug ≠ f.slug) →
    (s.sw.slots.get i).story = none → (∀ j, j < i → (s.sw.slots.get j).story ≠ none) →
    ¬(s.sw.store.tight = true ∧ f.urgency = .routine) →
    0 < f.length → (f.length + 511) / 512 ≤ s.sw.store.freeCount - s.sw.store.reserved →
      let n := (f.length + 511) / 512
      let store := { s.sw.store with reserved := s.sw.store.reserved + n }
      let opened : Switch :=
        { s.sw with
          slots := s.sw.slots.set i
            { s.sw.slots.get i with
              story := some
                { status := .filing, slug := f.slug, owner := f.owner, urgency := f.urgency, category := f.category,
                  versions := [], route := f.route } }
          uploads := s.sw.uploads.set h.port
            (some
              { kind := .file, handle := { slot := i, gen := (s.sw.slots.get i).gen }, declared := f.length, taken := 0,
                staging := [], remaining := n, victim := none, mode := .filling,
                author := { port := h.port, number := f.screen } })
          ports := s.sw.ports.set h.port
            { s.sw.ports.get h.port with
              phase := .command, running := some { tag := h.tag, cmd := .file }, dataStart := s.sw.wall }
          last := { sent := [], released := false } }
      exec (.file h (some a)) s = .next
        { s with
          sw :=
            if store.freeCount - store.reserved < s.sw.groups.store.low ∧ s.sw.store.tight = false then
              { opened with
                store := { store with tight := true }
                inboxes := (s.sw.postControl { kind := .storeTight, cls := .bulletin, stamp := s.sw.wall }).inboxes }
            else { opened with store := store } }

/-- FIND changes nothing and answers with the handle and state of the story that holds the slug, or NO_STORY; a malformed slug is
BAD_PARAM (R10). -/
def Obligations.FindNamesTheStory : Prop :=
  (∀ (s : State) (h : Head) (slug folded : List Byte) (i : SlotId) (st : Story),
    s.sw.takes h .find → slugOf slug = some folded → (s.sw.slots.get i).story = some st → st.slug = folded →
    (∀ j, j < i → ∀ st', (s.sw.slots.get j).story = some st' → st'.slug ≠ folded) →
      exec (.find h (some slug)) s = .next
        { s with
          sw := s.sw.replied h .ok (be16 i.val ++ [(s.sw.slots.get i).gen, (s.sw.slots.get i).stateByte]) }) ∧
  (∀ (s : State) (h : Head) (slug folded : List Byte),
    s.sw.takes h .find → slugOf slug = some folded →
    (∀ j st, (s.sw.slots.get j).story = some st → st.slug ≠ folded) →
      exec (.find h (some slug)) s = .next { s with sw := s.sw.replied h .noStory [] }) ∧
  (∀ (s : State) (h : Head) (slug : List Byte),
    s.sw.takes h .find → slugOf slug = none →
      exec (.find h (some slug)) s = .next { s with sw := s.sw.replied h .badParam [] })

/-- DESCRIBE, CLOCK STATUS, FEED STATUS, DUMP and PAGE STATUS change nothing but their port, which owes the report in frames of 256 bytes each
but the last; and the bytes of each report (R11, R116, R134, R152, R155, R167, R170, R175). The model's choices in it: a hold line already up
starts the hold when the stream opens (log entry 23); how a screen, the hold flags, an unbound key, a next late tick of none, an undefined page
and an OMITTED version stand in a report (17, 18), the width of the release order and the flags byte of a snapshot entry (39), and the one flag
byte before a job, its queue place and its snapshot entries (43). For a SENDING page the report holds a free value, whose counter moves on
(19). -/
def Obligations.ReportsOpenAStream : Prop :=
  (∀ (s : State) (h : Head) (a : HandleArg) (k : Handle) (st : Story),
    s.sw.takes h .describe → handleOf a = some k → s.sw.story k = some st →
      exec (.describe h (some a)) s = .next
        { s with sw := s.sw.streaming h .describe [] (.report (chunks (s.sw.storyReport k st))) }) ∧
  (∀ (s : State) (h : Head), s.sw.takes h .clockStatus →
    exec (.clockStatus h (some ())) s = .next
      { s with sw := s.sw.streaming h .clockStatus [] (.report (chunks s.sw.clockReport)) }) ∧
  (∀ (s : State) (h : Head), s.sw.takes h .feedStatus →
    exec (.feedStatus h (some ())) s = .next
      { s with sw := s.sw.streaming h .feedStatus [] (.report (chunks s.sw.feedReport)) }) ∧
  (∀ (s : State) (h : Head), s.sw.takes h .dump →
    exec (.dump h (some ())) s = .next
      { s with sw := s.sw.streaming h .dump [] (.report (chunks (s.sw.groups.bytes ++ s.sw.holds.bytes))) }) ∧
  (∀ (s : State) (h : Head), s.sw.takes h .pageStatus →
    exec (.pageStatus h (some ⟨none⟩)) s = .next
      { s with sw := s.sw.streaming h .pageStatus [] (.report (chunks s.sw.queueReport)) }) ∧
  (∀ (s : State) (h : Head) (b : Byte) (q : PageId), s.sw.takes h .pageStatus → b.toNat = q.val →
    exec (.pageStatus h (some ⟨some b⟩)) s = .next
      { s with
        sw :=
          ({ s.sw with free := if (s.sw.pages.get q).state = PageState.sending then s.sw.free + 1 else s.sw.free }).streaming h
            .pageStatus [] (.report (chunks (s.sw.pageReport q))) }) ∧
  (∀ l : List Byte,
    (chunks l).flatten = l ∧ (∀ f ∈ (chunks l).dropLast, f.length = 256) ∧ ∀ f ∈ chunks l, 0 < f.length ∧ f.length ≤ 256) ∧
  (∀ (s : Switch) (k : Handle) (st : Story), s.story k = some st →
    s.storyReport k st =
      be16 k.slot.val ++ [k.gen, st.status.number, byte st.slug.length] ++ st.slug ++ [byte st.owner.val, st.urgency.number] ++
        be16 st.category ++ [byte st.route.length] ++ (st.route.map fun d => byte d.val) ++
        [yesNo (st.status == .spiked true)] ++ be16 (s.watches.countP fun w => w.handle == k) ++
        [byte st.versions.length] ++
        (st.versions.map fun v =>
          be16 v.number ++ be16 v.length ++ be16 v.pins ++ be32 v.stamp.toNat ++
            [byte v.author.port.val, byte v.author.number.val, yesNo v.retiring]).flatten ++
        (match st.status with
          | .opened l =>
            [1, byte l.holder.port.val, byte l.holder.number.val] ++ be32 (l.start + BitVec.ofNat 32 l.length).toNat ++
              [yesNo l.suspended]
          | _ => [0]) ++
        (match st.status with
          | .offered o => [1, byte o.target.val, byte o.port.val, o.note] ++ be32 (o.start + BitVec.ofNat 32 o.length).toNat
          | _ => [0])) ∧
  (∀ s : Switch,
    s.clockReport =
      be32 s.wall.toNat ++ [yesNo s.clock.running] ++ be16 s.clock.ticks ++ [byte s.clock.edition] ++ be16 s.clock.activeLength ++
        be16 s.groups.clock.editionLength ++ [16] ++
        ((allBelow 16).map fun c =>
          let x := s.channels.get c
          be16 x.active ++ be16 (s.groups.clock.channels.get c).deadline ++ [x.state.number] ++ be16 x.lateCount ++
            (match x.nextLate with
              | none => [0xFF, 0xFF]
              | some n => be16 n) ++
            [yesNo x.atRisk]).flatten) ∧
  (∀ s : Switch,
    s.feedReport =
      [2, yesNo s.groups.feed.enable.a, s.links.a.state.number, s.links.a.engine.number, yesNo s.groups.feed.enable.b,
          s.links.b.state.number, s.links.b.engine.number, LinkId.number s.groups.feed.home, LinkId.number s.active,
          byte s.queue.length] ++
        (match s.sending with
          | none => [0]
          | some q =>
            [1, byte q.val, byte (((s.pages.get q).job.map Job.attempts).getD 0)] ++ be32 (s.links.get s.active).taken ++
              be32 (((s.pages.get q).job.map Job.length).getD 0)) ++
        be32 s.pace.pace ++ [s.groups.feed.paceMode.number, byte s.pace.samples.length]) ∧
  (∀ (s : Switch) (q : PageId),
    let x := s.pages.get q
    let key (j : Job) : List Byte :=
      match j.key with
      | none => [0]
      | some n => 1 :: be16 n
    let binding (b : Option ChannelId) : Byte :=
      match b with
      | none => 0xFF
      | some c => byte c.val
    (s.groups.clock.pages.get q = none → s.pageReport q = [0]) ∧
    (∀ d, s.groups.clock.pages.get q = some d →
      s.pageReport q =
        [1, d.label.letter, byte d.label.number, byte d.owner.val, binding d.binding, x.state.number, byte x.lastSent,
            byte x.layout.length] ++
          (x.layout.map fun pl => be16 pl.handle.slot.val ++ [pl.handle.gen] ++ pl.frame).flatten ++
          match x.job with
          | none => [0]
          | some j =>
            [1, byte j.edition] ++ be32 j.length ++ [yesNo j.rush] ++ key j ++ be32 j.order ++ [byte j.attempts] ++
              be32 j.stamp.toNat ++
              [yesNo j.returned, j.label.letter, byte j.label.number, byte j.owner.val, binding j.binding,
                if x.state = .sending then Config.sendingPlace s.free else byte (s.queue.idxOf q + 1), byte j.entries.length] ++
              (j.entries.map fun e =>
                be16 e.handle.slot.val ++ [e.handle.gen] ++ be16 (e.version.getD 0) ++ be16 e.length ++
                  [(if e.openAtRelease = true then 1 else 0) + (if e.version = none then 2 else 0)]).flatten)) ∧
  (∀ s : Switch,
    let holders := s.sending.toList ++ s.queue
    (∀ q ∈ holders, (s.pages.get q).job ≠ none) →
      s.queueReport =
        [byte holders.length] ++
          (holders.map fun q =>
            match (s.pages.get q).job with
            | none => []
            | some j =>
              [byte q.val, (s.pages.get q).state.number, yesNo j.rush] ++
                (match j.key with
                  | none => [0]
                  | some n => 1 :: be16 n) ++
                [yesNo j.returned, byte j.edition, byte j.attempts] ++ be32 j.length).flatten) ∧
  (∀ g : Groups,
    g.bytes =
      [6] ++ g.ports.privilege.cells.map Privilege.number ++ [16] ++
        (g.ports.serving.cells.map fun x =>
          match x with
          | none => 0xFF
          | some p => byte p.val) ++
        [16] ++ g.ports.label.cells.flatten ++
        [24] ++
        (g.routing.filters.cells.map fun f =>
          [yesNo f.enabled, byte f.mask.val, byte f.desk.val, f.urgency.number] ++ be16 f.category ++
            [byte f.destinations.toNat]).flatten ++
        [4] ++ (g.routing.masks.cells.map fun m => [yesNo m.compareDesk, yesNo m.compareUrgency, byte m.categoryBits]).flatten ++
        be16 g.clock.editionLength ++ [16] ++
        (g.clock.channels.cells.map fun c =>
          be16 c.deadline ++ [c.bufferMode.number] ++ be16 c.warnLead ++ [c.releaseMode.number] ++ be16 c.lateInterval ++
            [byte c.lateDivisor]).flatten ++
        [128] ++
        (g.clock.pages.cells.map fun x =>
          match x with
          | none => [0]
          | some d =>
            [1, d.label.letter, byte d.label.number, byte d.owner.val,
              match d.binding with
              | none => 0xFF
              | some c => byte c.val]).flatten ++
        [yesNo g.feed.enable.a, yesNo g.feed.enable.b, LinkId.number g.feed.home, byte g.feed.stallWindow, byte g.feed.settlePeriod,
          byte g.feed.attemptLimit, byte g.feed.paceWindow, g.feed.paceMode.number] ++
        be16 g.store.low ++ be16 g.store.high ++ be16 g.store.lease ++ be16 g.store.offerWindow) ∧
  (∀ h : Holds, h.bytes = [yesNo h.ports, yesNo h.routing, yesNo h.clock, yesNo h.feed, yesNo h.store])

/-- RECLASSIFY on a FILED, OPEN or OFFERED story: the given fields, UPGRADED through the filters on a raise, CHANGED to the watchers.
ROUTE replaces the plan whole and changes nothing else, and on a FILING or SPIKED story is STORY_BUSY. SPIKE takes a FILED story, and from
a control port an OFFERED one with OFFER_WITHDRAWN (SPIKED) to the target side, to SPIKED, leaves a SPIKED one as it is, and is else STORY_BUSY.
RESTORE takes a SPIKED story to FILED, and is NOT_SPIKED or, on a FILING story, STORY_BUSY (R12, R13, R14, R15). That CHANGED
stands before OFFER_WITHDRAWN is log entry 47, the model's choice. -/
def Obligations.StoriesAreReclassifiedRoutedSpikedAndRestored : Prop :=
  (∀ (s : State) (h : Head) (a : ReclassifyArgs) (r : ReclassifyParams) (st : Story),
    s.sw.takes h .reclassify → ReclassifyArgs.check a = some r → s.sw.story r.handle = some st → s.sw.hasRight h.port st.owner →
    st.status ≠ .filing → st.status ≠ .spiked false → st.status ≠ .spiked true →
      let new := { st with urgency := r.urgency.getD st.urgency, category := r.category.getD st.category }
      let posted := if st.urgency.rank < new.urgency.rank then s.sw.postFiltered .upgraded r.handle new else s.sw
      exec (.reclassify h (some a)) s = .next
        { s with
          sw :=
            ({ s.sw with
                slots := s.sw.slots.set r.handle.slot { s.sw.slots.get r.handle.slot with story := some new }
                inboxes := (posted.postChanged r.handle new .reclassified new.currentNumber).inboxes }).replied h .ok [] }) ∧
  (∀ (s : State) (h : Head) (a : RouteArgs) (k : Handle) (plan : List DeskId) (st : Story),
    s.sw.takes h .route → RouteArgs.check a = some (k, plan) → s.sw.story k = some st → s.sw.hasRight h.port st.owner →
      (st.status ≠ .filing → st.status ≠ .spiked false → st.status ≠ .spiked true →
        exec (.route h (some a)) s = .next
          { s with
            sw :=
              ({ s.sw with
                  slots := s.sw.slots.set k.slot { s.sw.slots.get k.slot with story := some { st with route := plan } } }).replied
                h .ok [] }) ∧
      (st.status = .filing ∨ st.status = .spiked false ∨ st.status = .spiked true →
        exec (.route h (some a)) s = .next { s with sw := s.sw.replied h .storyBusy [] })) ∧
  (∀ (s : State) (h : Head) (a : HandleArg) (k : Handle) (st : Story),
    s.sw.takes h .spike → handleOf a = some k → s.sw.story k = some st → s.sw.hasRight h.port st.owner →
      let spiked : Switch :=
        { s.sw with
          slots := s.sw.slots.set k.slot { s.sw.slots.get k.slot with story := some { st with status := .spiked false } }
          inboxes := (s.sw.postChanged k st .spiked st.currentNumber).inboxes }
      (st.status = .filed → exec (.spike h (some a)) s = .next { s with sw := spiked.replied h .ok [] }) ∧
      (∀ o, st.status = .offered o →
        (s.sw.groups.ports.privilege.get h.port = .control →
          exec (.spike h (some a)) s = .next
            { s with
              sw :=
                ({ spiked with
                    inboxes :=
                      (spiked.post
                        { kind := .offerWithdrawn, cls := st.urgency, stamp := s.sw.wall, handle := some k, slug := some st.slug,
                          fromDesk := some st.owner, toDesk := some o.target, reason := some .spiked }
                        (fun p => s.sw.groups.ports.serving.get o.target == some p)).inboxes }).replied h .ok [] }) ∧
        (s.sw.groups.ports.privilege.get h.port = .desk →
          exec (.spike h (some a)) s = .next { s with sw := s.sw.replied h .storyBusy [] })) ∧
      (∀ pending, st.status = .spiked pending →
        exec (.spike h (some a)) s = .next { s with sw := s.sw.replied h .ok [] }) ∧
      (st.status = .filing ∨ (∃ l, st.status = .opened l) →
        exec (.spike h (some a)) s = .next { s with sw := s.sw.replied h .storyBusy [] })) ∧
  (∀ (s : State) (h : Head) (a : HandleArg) (k : Handle) (st : Story),
    s.sw.takes h .restore → handleOf a = some k → s.sw.story k = some st → s.sw.hasRight h.port st.owner →
      (∀ pending, st.status = .spiked pending →
        exec (.restore h (some a)) s = .next
          { s with
            sw :=
              ({ s.sw with
                  slots := s.sw.slots.set k.slot { s.sw.slots.get k.slot with story := some { st with status := .filed } }
                  inboxes := (s.sw.postChanged k st .restored st.currentNumber).inboxes }).replied h .ok [] }) ∧
      (st.status = .filing → exec (.restore h (some a)) s = .next { s with sw := s.sw.replied h .storyBusy [] }) ∧
      (st.status = .filed ∨ (∃ l, st.status = .opened l) ∨ (∃ o, st.status = .offered o) →
        exec (.restore h (some a)) s = .next { s with sw := s.sw.replied h .notSpiked [] }))

/-- PURGE of a SPIKED story: with no version pinned it completes, with GONE to the watchers, their entries gone, its blocks back in the
pool, its slot VACANT under the next generation, and the eased test; with a version pinned it is pending; of another story it is NOT_SPIKED,
and of a FILING one STORY_BUSY (R16, R17, R22, R30, R33). That STORE_EASED follows GONE is log entry 13, the model's choice. -/
def Obligations.PurgeCompletesOrWaits : Prop :=
  ∀ (s : State) (h : Head) (a : HandleArg) (k : Handle) (st : Story),
    s.sw.takes h .purge → handleOf a = some k → s.sw.story k = some st →
      (∀ pending, st.status = .spiked pending →
        ((∀ v ∈ st.versions, v.pins = 0) →
          exec (.purge h (some a)) s = .next
            { s with
              sw :=
                Switch.easedTest
                  { s.sw.purged k st with
                    ports := s.sw.creditedPorts h.port
                    last := { sent := [resultFrame h .ok [0]], released := true } } }) ∧
        (¬(∀ v ∈ st.versions, v.pins = 0) →
          exec (.purge h (some a)) s = .next
            { s with
              sw :=
                ({ s.sw with
                    slots := s.sw.slots.set k.slot
                      { s.sw.slots.get k.slot with story := some { st with status := .spiked true } } }).replied h .ok [1] })) ∧
      (st.status = .filing → exec (.purge h (some a)) s = .next { s with sw := s.sw.replied h .storyBusy [] }) ∧
      (st.status = .filed ∨ (∃ l, st.status = .opened l) ∨ (∃ o, st.status = .offered o) →
        exec (.purge h (some a)) s = .next { s with sw := s.sw.replied h .notSpiked [] })

/-! ### The copy store -/

/-- READ of a version that may be read: its pin and its stream; a text of length 0 owes no frame and takes no pin. A FILING story, or a
version not on the list, is NO_VERSION; a pending purge STORY_BUSY; a marked version VERSION_RETIRING, in that order (R35). That a hold line
already up starts the hold when the stream opens is log entry 23, the model's choice. -/
def Obligations.ReadPinsItsVersion : Prop :=
  ∀ (s : State) (h : Head) (a : ReadArgs) (k : Handle) (n : Option Nat) (st : Story),
    s.sw.takes h .read → ReadArgs.check a = some (k, n) → s.sw.story k = some st →
      let named := match n with
        | none => st.versions.getLast?
        | some m => st.versions.find? fun v => v.number == m
      (st.status = .filing ∨ named = none →
        exec (.read h (some a)) s = .next { s with sw := s.sw.replied h .noVersion [] }) ∧
      (∀ v, st.status ≠ .filing → named = some v →
        (st.status = .spiked true → exec (.read h (some a)) s = .next { s with sw := s.sw.replied h .storyBusy [] }) ∧
        (st.status ≠ .spiked true → v.retiring = true →
          exec (.read h (some a)) s = .next { s with sw := s.sw.replied h .versionRetiring [] }) ∧
        (st.status ≠ .spiked true → v.retiring = false → 0 < v.length →
          exec (.read h (some a)) s = .next
            { s with
              sw :=
                ({ s.sw with
                    slots := s.sw.slots.set k.slot
                      { s.sw.slots.get k.slot with
                        story := some
                          { st with
                            versions := st.versions.map fun (x : Version) =>
                              if x.number = v.number then { x with pins := x.pins + 1 } else x } } }).streaming h .read
                  (be16 v.number ++ be16 v.length) (.read k v.number 0) }) ∧
        (st.status ≠ .spiked true → v.retiring = false → v.length = 0 →
          exec (.read h (some a)) s = .next { s with sw := s.sw.replied h .ok (be16 v.number ++ be16 v.length) }))

/-- STORE STATUS answers with the free-pool count, the outstanding reservation, the tight condition and the number of pinned version
records; PORT STATUS with the named port's values, a port that reports on itself in EXECUTING; IDENTIFY with the part code, the revision
letter, the last start cause, the settings source, the hold flags and whether a SAVE is in progress. All three change nothing (R37, R166,
R173). The model's choices: a port's own report names PORT STATUS as its running command (log entry 30) and gives the fault count and
standing from before the step of its own OK (41); the order of the desks and the flag bytes of the running command and the line levels are
the model's (44); the hold flags are one byte each (17); the revision letter has no value (20); a write
without its port is a SAVE in progress (48). -/
def Obligations.StatusesAndIdentifyReport : Prop :=
  (∀ (s : State) (h : Head), s.sw.takes h .storeStatus →
    exec (.storeStatus h (some ())) s = .next
      { s with
        sw := s.sw.replied h .ok
          (be16 s.sw.store.freeCount ++ be16 s.sw.store.reserved ++ [yesNo s.sw.store.tight] ++
            be16 ((s.sw.slots.cells.flatMap fun x => (x.story.map Story.versions).getD []).countP fun v => v.pins != 0)) }) ∧
  (∀ (s : State) (h : Head) (b : Option Byte) (p : PortId), s.sw.takes h .portStatus →
    (match b with
      | none => p = h.port
      | some b => b.toNat = p.val) →
      let x := s.sw.ports.get p
      exec (.portStatus h (some ⟨b⟩)) s = .next
        { s with
          sw := s.sw.replied h .ok
            ([if p = h.port then Phase.executing.number else x.phase.number] ++
              (if p = h.port then [1, Cmd.code .portStatus]
               else match x.running with | none => [0] | some r => [1, Cmd.code r.cmd]) ++
              [byte x.faults, x.standing.number, byte (s.sw.inboxes.get p).notices.length, byte (s.sw.inboxes.get p).lost,
                (s.sw.groups.ports.privilege.get p).number] ++
              [byte ((allBelow 16).filter fun d => s.sw.groups.ports.serving.get d == some p).length] ++
              ((allBelow 16).filter fun d => s.sw.groups.ports.serving.get d == some p).map (fun d => byte d.val) ++
              [yesNo x.holdLine, yesNo x.resetLine]) }) ∧
  (∀ (s : State) (h : Head), s.sw.takes h .identify →
      exec (.identify h (some ())) s = .next
        { s with
          sw := s.sw.replied h .ok
            ([60, Config.revisionLetter, s.sw.cause.number, if s.sw.defaulted then 1 else 0] ++
              [yesNo s.sw.holds.ports, yesNo s.sw.holds.routing, yesNo s.sw.holds.clock, yesNo s.sw.holds.feed,
                yesNo s.sw.holds.store] ++ [if s.sw.saving = none then 0 else 1]) })

/-! ### Edit custody -/

/-- CHECKOUT locks a FILED story for the screen under a fresh lease and renews the screen's own lock; another screen's lock is
LOCKED_ELSEWHERE; RENEW starts the holder's lease afresh, ABANDON lets the lock go, and both answer NOT_HOLDER to a screen that
does not hold the lock (R39, R40, R42, R43, R44, R45). -/
def Obligations.CustodyPassesToAndFromAScreen : Prop :=
  ∀ (s : State) (h : Head) (a : ScreenArgs) (n : ScreenNo) (k : Handle) (st : Story),
    ScreenArgs.check a = some (n, k) → s.sw.story k = some st →
      let me : Screen := { port := h.port, number := n }
      let lease := s.sw.groups.store.lease
      let expiry := be32 (s.sw.wall + BitVec.ofNat 32 lease).toNat
      let current := be16 st.currentNumber ++ be16 ((st.versions.getLast?.map Version.length).getD 0)
      let withStatus (x : Status) : Switch := { s.sw with slots := (s.sw.setStory k.slot { st with status := x }).slots }
      (s.sw.takes h .checkout → (s.sw.ports.get h.port).standing = .active → s.sw.hasRight h.port st.owner →
        (st.status = .filed →
          exec (.checkout h (some a)) s = .next
            { s with
              sw :=
                (withStatus (.opened { holder := me, start := s.sw.wall, length := lease, suspended := false })).replied h .ok
                  (current ++ expiry) }) ∧
        (∀ l, st.status = .opened l →
          (l.holder = me →
            exec (.checkout h (some a)) s = .next
              { s with
                sw := (withStatus (.opened { l with start := s.sw.wall, length := lease })).replied h .ok (current ++ expiry) }) ∧
          (l.holder ≠ me →
            exec (.checkout h (some a)) s = .next { s with sw := s.sw.replied h .lockedElsewhere [] }))) ∧
      (∀ l, st.status = .opened l → l.holder = me →
        (s.sw.takes h .renew →
          exec (.renew h (some a)) s = .next
            { s with sw := (withStatus (.opened { l with start := s.sw.wall, length := lease })).replied h .ok expiry }) ∧
        (s.sw.takes h .abandon →
          exec (.abandon h (some a)) s = .next { s with sw := (withStatus .filed).replied h .ok [] })) ∧
      ((∀ l, st.status = .opened l → l.holder ≠ me) →
        (s.sw.takes h .renew → exec (.renew h (some a)) s = .next { s with sw := s.sw.replied h .notHolder [] }) ∧
        (s.sw.takes h .abandon → exec (.abandon h (some a)) s = .next { s with sw := s.sw.replied h .notHolder [] }))

/-- A CHECKIN of a length above 0 that passes every check of R46: the lease suspended, the victim of R29 marked, the blocks
reserved and tested, the upload record and the data phase; and the reservation itself: one that leaves the available count below the
low-water mark makes a store that is not tight tight, with STORE_TIGHT to the control ports (R23, R24, R29, R32, R46). -/
def Obligations.CheckinOpensItsDataPhase : Prop :=
  (∀ (s : State) (h : Head) (a : CheckinArgs) (c : CheckinParams) (st : Story) (l : Lock),
    CheckinArgs.check a = some c → s.sw.takes h .checkin → s.sw.story c.handle = some st → st.status = .opened l →
    l.holder = { port := h.port, number := c.screen } → ¬(s.sw.store.tight = true ∧ st.urgency = .routine) →
    0 < c.length → (c.length + 511) / 512 ≤ s.sw.store.freeCount - s.sw.store.reserved →
      let victim := if st.versions.length = 4 then st.versions.dropLast.find? fun v => v.pins == 0 && !v.retiring else none
      (st.versions.length = 4 → victim ≠ none) →
        let n := (c.length + 511) / 512
        let r := s.sw.quietly.reserve n
        let marked := st.versions.map fun (v : Version) =>
          if victim.map Version.number = some v.number then { v with retiring := true } else v
        exec (.checkin h (some a)) s = .next
          { s with
            sw :=
              { r with
                slots :=
                  (s.sw.setStory c.handle.slot
                    { st with status := .opened { l with suspended := true }, versions := marked }).slots
                uploads := s.sw.uploads.set h.port
                  (some
                    { kind := .checkin c.keep, handle := c.handle, declared := c.length, taken := 0, staging := [],
                      remaining := n, victim := victim.map Version.number, mode := .filling, author := l.holder })
                ports := s.sw.ports.set h.port
                  { s.sw.ports.get h.port with
                    phase := .command, running := some { tag := h.tag, cmd := .checkin }, dataStart := s.sw.wall } } }) ∧
  (∀ (s : Switch) (n : Nat),
    let store := { s.store with reserved := s.store.reserved + n }
    s.reserve n =
      if store.freeCount - store.reserved < s.groups.store.low ∧ s.store.tight = false then
        { s with
          store := { store with tight := true }
          inboxes := (s.postControl { kind := .storeTight, cls := .bulletin, stamp := s.wall }).inboxes }
      else { s with store := store })

/-- A lease that is due and not suspended expires, with LOCK_LAPSED to the holder's port, and otherwise does not (log entry 7); BREAK of
an OPEN story files it, with LOCK_BROKEN to the holder's port, and turns the lock's CHECKIN upload in FILLING to DRAINING, its blocks
and reservation going back before the one eased test; a story not OPEN is NOT_OPEN (R26, R33, R51, R53, R54). That STORE_EASED follows
LOCK_BROKEN is log entry 13, the model's choice. -/
def Obligations.LocksExpireAndBreak : Prop :=
  ((∀ (s : State) (i : SlotId) (st : Story) (l : Lock),
    (s.sw.slots.get i).story = some st → st.status = .opened l → l.suspended = false → l.length ≤ (s.sw.wall - l.start).toNat →
      exec (.leaseExpiry i) s = .next
        { s with
          sw :=
            { s.sw with
              slots := (s.sw.setStory i { st with status := .filed }).slots
              inboxes :=
                (s.sw.post
                  { kind := .lockLapsed, cls := .bulletin, stamp := s.sw.wall, handle := some (s.sw.handleAt i),
                    slug := some st.slug, version := some st.currentNumber, note := some (byte l.holder.number.val) }
                  (fun p => p == l.holder.port)).inboxes
              last := { sent := [], released := false } } }) ∧
  (∀ (s : State) (i : SlotId),
    (∀ st l, (s.sw.slots.get i).story = some st → st.status = .opened l →
      l.suspended = true ∨ (s.sw.wall - l.start).toNat < l.length) →
      exec (.leaseExpiry i) s = .next { s with sw := s.sw.quietly })) ∧
  (∀ (s : State) (h : Head) (a : HandleArg) (k : Handle) (st : Story),
    s.sw.takes h .breakLock → handleOf a = some k → s.sw.story k = some st →
      (∀ l, st.status = .opened l →
        let freed : Switch :=
          { s.sw with
            slots := (s.sw.setStory k.slot { st with status := .filed }).slots
            inboxes :=
              (s.sw.post
                { kind := .lockBroken, cls := .bulletin, stamp := s.sw.wall, handle := some k,
                  slug := some st.slug, version := some st.currentNumber, note := some (byte l.holder.number.val) }
                (fun p => p == l.holder.port)).inboxes }
        ((∀ u keep, s.sw.uploads.get l.holder.port = some u → u.kind = .checkin keep → u.handle = k → u.mode = .draining) →
          exec (.breakLock h (some a)) s = .next { s with sw := freed.replied h .ok [] }) ∧
        (∀ u keep, s.sw.uploads.get l.holder.port = some u → u.kind = .checkin keep → u.handle = k → u.mode = .filling →
          exec (.breakLock h (some a)) s = .next
            { s with
              sw :=
                Switch.easedTest
                  { freed with
                    store :=
                      { s.sw.store with
                        freePool := u.staging ++ s.sw.store.freePool
                        freeCount := s.sw.store.freeCount + u.staging.length
                        reserved := s.sw.store.reserved - u.remaining }
                    uploads := s.sw.uploads.set l.holder.port
                      (some { u with mode := .draining, staging := [], remaining := 0 })
                    ports := s.sw.creditedPorts h.port
                    last := { sent := [resultFrame h .ok []], released := true } } })) ∧
      ((∀ l, st.status ≠ .opened l) →
        exec (.breakLock h (some a)) s = .next { s with sw := s.sw.replied h .notOpen [] }))

/-! ### Passing copy between desks -/

/-- OFFER of a FILED story: the target named, or the first desk of the plan that is not the owner, the plan losing it and the
desks before it; the story OFFERED, and OFFERED to the target's port with class at least PRIORITY (R61, R62, R63). -/
def Obligations.OfferGoesToItsTarget : Prop :=
  ∀ (s : State) (h : Head) (a : OfferArgs) (c : OfferParams) (st : Story) (target : DeskId) (route : List DeskId) (p : PortId),
    OfferArgs.check a = some c → s.sw.takes h .offer → s.sw.story c.handle = some st → st.status = .filed →
    (s.sw.ports.get h.port).standing = .active → s.sw.hasRight h.port st.owner → target ≠ st.owner →
    (c.target = some target ∧ route = st.route ∨
      c.target = none ∧ ∃ passed, (∀ d ∈ passed, d = st.owner) ∧ st.route = passed ++ target :: route) →
    s.sw.groups.ports.serving.get target = some p → (s.sw.ports.get p).standing ≠ .detached →
      let window := s.sw.groups.store.offerWindow
      exec (.offer h (some a)) s = .next
        { s with
          sw :=
            ({ s.sw with
                slots :=
                  (s.sw.setStory c.handle.slot
                    { st with
                      status := .offered
                        { target := target, port := h.port, note := c.note, start := s.sw.wall, length := window }
                      route := route }).slots
                inboxes :=
                  (s.sw.post
                    { kind := .offered, cls := if st.urgency = Urgency.routine then Urgency.priority else st.urgency, stamp := s.sw.wall,
                      handle := some c.handle, slug := some st.slug, fromDesk := some st.owner, toDesk := some target,
                      note := some c.note }
                    (fun q => q == p)).inboxes }).replied h .ok
              (byte target.val :: be32 (s.sw.wall + BitVec.ofNat 32 window).toNat) }

/-- An offer ends by ACCEPT (the target desk owns the story), DECLINE, WITHDRAW or its expiry (the owner keeps it), each with its
notice to the other side; an offer expiry that is not due does nothing, which is log entry 7, the model's choice (R58, R65, R66, R67, R68). -/
def Obligations.OffersEnd : Prop :=
  ∀ (s : State) (k : Handle) (st : Story) (o : Offer), s.sw.story k = some st → st.status = .offered o →
    let ownerSide := fun (p : PortId) => s.sw.groups.ports.serving.get st.owner == some p || p == o.port
    let targetSide := fun (p : PortId) => s.sw.groups.ports.serving.get o.target == some p
    let notice : Notice :=
      { kind := .offerTaken, cls := st.urgency, stamp := s.sw.wall, handle := some k, slug := some st.slug,
        fromDesk := some st.owner, toDesk := some o.target }
    let filed (owner : DeskId) (n : Notice) (who : PortId → Bool) : Switch :=
      { s.sw with
        slots := (s.sw.setStory k.slot { st with status := .filed, owner := owner }).slots
        inboxes := (s.sw.post n who).inboxes }
    (∀ (h : Head) (a : DeskArgs), s.sw.takes h .accept → DeskArgs.check a = some (k, o.target) →
      s.sw.groups.ports.serving.get o.target = some h.port →
        exec (.accept h (some a)) s = .next { s with sw := (filed o.target notice ownerSide).replied h .ok [] }) ∧
    (∀ (h : Head) (a : DeclineArgs) (note : Byte), s.sw.takes h .decline → DeclineArgs.check a = some (k, o.target, note) →
      s.sw.groups.ports.serving.get o.target = some h.port →
        exec (.decline h (some a)) s = .next
          { s with
            sw := (filed st.owner { notice with kind := .offerDeclined, note := some note } ownerSide).replied h .ok [] }) ∧
    (∀ (h : Head) (a : DeskArgs), s.sw.takes h .withdraw → DeskArgs.check a = some (k, o.target) →
      s.sw.hasRight h.port st.owner →
        exec (.withdraw h (some a)) s = .next
          { s with
            sw :=
              (filed st.owner { notice with kind := .offerWithdrawn, reason := some .withdrawn } targetSide).replied h .ok [] }) ∧
    (o.length ≤ (s.sw.wall - o.start).toNat →
      exec (.offerExpiry k.slot) s = .next
        { s with
          sw := (filed st.owner { notice with kind := .offerExpired, reason := some .window } ownerSide).quietly }) ∧
    ((s.sw.wall - o.start).toNat < o.length → exec (.offerExpiry k.slot) s = .next { s with sw := s.sw.quietly })

/-! ### Notices -/

/-- A notice that does not coalesce, at an inbox of fewer than 48: after the last of its own class and of every higher class,
before the first of a lower one, the waiting notices in their order (R78). -/
def Obligations.NoticesTakeTheirPlace : Prop :=
  ∀ (box : Inbox) (n : Notice), box.notices.length < 48 →
    (∀ m ∈ box.notices, ¬(n.kind = .changed ∧ m.kind = .changed ∧ m.handle = n.handle)) →
    box.notices.Pairwise (fun m m' => m'.cls.rank ≤ m.cls.rank) →
      ∃ before after, box.notices = before ++ after ∧ box.place n = { box with notices := before ++ n :: after } ∧
        (box.place n).notices.length = box.notices.length + 1 ∧
        (∀ m ∈ before, n.cls.rank ≤ m.cls.rank) ∧ (∀ m ∈ after, m.cls.rank < n.cls.rank)

/-- A CHANGED notice coalesces with the waiting CHANGED of its handle; any other notice at an inbox of 48 overflows, the last
notice giving way to one of a higher class, and the lost count rises, not above 255 (R79, R80, R81). -/
def Obligations.NoticesCoalesceOrOverflow : Prop :=
  (∀ (box : Inbox) (n m : Notice) (before after : List Notice), box.notices = before ++ m :: after →
    n.kind = .changed → m.kind = .changed → m.handle = n.handle →
    (∀ x ∈ before ++ after, ¬(x.kind = .changed ∧ x.handle = n.handle)) →
      box.place n =
        { box with
          notices :=
            before ++ { m with stamp := n.stamp, version := n.version, reason := n.reason, screens := n.screens } :: after }) ∧
  (∀ (box : Inbox) (n last : Notice) (kept : List Notice), box.notices = kept ++ [last] → box.notices.length = 48 →
    (∀ m ∈ box.notices, ¬(n.kind = .changed ∧ m.kind = .changed ∧ m.handle = n.handle)) →
      (last.cls.rank < n.cls.rank →
        box.place n = { notices := (Inbox.place { box with notices := kept } n).notices, lost := min 255 (box.lost + 1) }) ∧
      (n.cls.rank ≤ last.cls.rank → box.place n = { box with lost := min 255 (box.lost + 1) }))

/-- A notice posted to a set of ports is placed in the inbox of each that is not DETACHED, and changes nothing else: a filtered notice's
ports are those that some enabled matching filter names, a control notice's those whose privilege is CONTROL, and a CHANGED or GONE notice's
those with a watching screen, each copy with that port's screens ascending (R75, R88, R89, R95). -/
def Obligations.FiltersAndWatchesAddressNotices : Prop :=
  (∀ (s : Switch) (n : Notice) (who : PortId → Bool) (k : Handle) (p : PortId),
    s.post n who = { s with inboxes := (s.post n who).inboxes } ∧
    (who p = true → (s.ports.get p).standing ≠ .detached → (s.post n who).inboxes.get p = (s.inboxes.get p).place n) ∧
    (who p = false ∨ (s.ports.get p).standing = .detached → (s.post n who).inboxes.get p = s.inboxes.get p) ∧
    s.postControl n = s.post n (fun p => s.groups.ports.privilege.get p == .control) ∧
    s.postWatchers k n = { s with inboxes := (s.postWatchers k n).inboxes } ∧
    (∀ screens : List ScreenNo,
      screens.Pairwise (· < ·) → (∀ sc, sc ∈ screens ↔ ({ handle := k, port := p, screen := sc } : Watch) ∈ s.watches) →
        (s.postWatchers k n).inboxes.get p =
          if screens = [] ∨ (s.ports.get p).standing = .detached then s.inboxes.get p
          else (s.inboxes.get p).place { n with screens := some screens })) ∧
  (∀ (s : Switch) (k : Handle) (st : Story) (p : PortId),
    (∀ kind : NoticeKind,
      let matching (f : Filter) : Prop :=
        let m := s.groups.routing.masks.get f.mask
        f.enabled = true ∧ (m.compareDesk = true → st.owner = f.desk) ∧
          (m.compareUrgency = true → f.urgency.rank ≤ st.urgency.rank) ∧
          st.category / 2 ^ (10 - m.categoryBits) = f.category / 2 ^ (10 - m.categoryBits)
      let n : Notice :=
        { kind := kind, cls := st.urgency, stamp := s.wall, handle := some k, slug := some st.slug, fromDesk := some st.owner }
      ((∃ i, matching (s.groups.routing.filters.get i) ∧ (s.groups.routing.filters.get i).destinations.getLsbD p.val = true) →
        (s.ports.get p).standing ≠ .detached →
          (s.postFiltered kind k st).inboxes.get p = (s.inboxes.get p).place n) ∧
      ((∀ i, matching (s.groups.routing.filters.get i) →
          (s.groups.routing.filters.get i).destinations.getLsbD p.val = false) ∨ (s.ports.get p).standing = .detached →
        (s.postFiltered kind k st).inboxes.get p = s.inboxes.get p)) ∧
    (∀ (reason : Reason) (version : Nat) (screens : List ScreenNo),
      screens.Pairwise (· < ·) → (∀ sc, sc ∈ screens ↔ ({ handle := k, port := p, screen := sc } : Watch) ∈ s.watches) →
        (s.postChanged k st reason version).inboxes.get p =
          if screens = [] ∨ (s.ports.get p).standing = .detached then s.inboxes.get p
          else
            (s.inboxes.get p).place
              { kind := .changed, cls := st.urgency, stamp := s.wall, handle := some k, slug := some st.slug,
                version := some version, reason := some reason, screens := some screens }))

/-- COLLECT reports and clears the lost count and opens a stream of the smaller of its count and the inbox's depth, and on an empty
inbox owes no frame; FILTER and MASK replace the fields of the filter or mask they name and change nothing else; WATCH adds its entry once,
TOO_MANY on a full table, and UNWATCH removes it and says whether it was there (R83, R90, R91, R92, R93, R94, R155). That a hold line already
up starts the hold when COLLECT's stream opens is log entry 23, the model's choice. -/
def Obligations.CollectFilterMaskAndWatchAct : Prop :=
  (∀ (s : State) (h : Head) (b : Byte), s.sw.takes h .collect → 1 ≤ b.toNat → b.toNat ≤ 8 →
      let box := s.sw.inboxes.get h.port
      let send := min b.toNat box.notices.length
      let values := [byte box.lost, byte (box.notices.length - send)]
      let cleared : Switch := { s.sw with inboxes := s.sw.inboxes.set h.port { box with lost := 0 } }
      (box.notices = [] → exec (.collect h (some b)) s = .next { s with sw := cleared.replied h .ok values }) ∧
      (box.notices ≠ [] →
        exec (.collect h (some b)) s = .next { s with sw := cleared.streaming h .collect values (.collect send) })) ∧
  ((∀ (s : State) (h : Head) (a : FilterArgs) (i : Fin 24) (f : Filter), s.sw.takes h .filter →
    FilterArgs.check a = some (i, f) →
      exec (.filter h (some a)) s = .next
        { s with
          sw :=
            ({ s.sw with
                groups :=
                  { s.sw.groups with
                    routing := { s.sw.groups.routing with filters := s.sw.groups.routing.filters.set i f } } }).replied h .ok
              [] }) ∧
  (∀ (s : State) (h : Head) (a : MaskArgs) (i : Fin 4) (m : Mask), s.sw.takes h .mask →
    MaskArgs.check a = some (i, m) →
      exec (.mask h (some a)) s = .next
        { s with
          sw :=
            ({ s.sw with
                groups :=
                  { s.sw.groups with
                    routing := { s.sw.groups.routing with masks := s.sw.groups.routing.masks.set i m } } }).replied h .ok [] })) ∧
  (∀ (s : State) (h : Head) (a : ScreenArgs) (n : ScreenNo) (k : Handle) (st : Story),
    ScreenArgs.check a = some (n, k) → s.sw.story k = some st →
      let w : Watch := { handle := k, port := h.port, screen := n }
      (s.sw.takes h .watch →
        (w ∈ s.sw.watches → exec (.watch h (some a)) s = .next { s with sw := s.sw.replied h .ok [] }) ∧
        (w ∉ s.sw.watches → s.sw.watches.length < 512 →
          exec (.watch h (some a)) s = .next
            { s with sw := ({ s.sw with watches := s.sw.watches ++ [w] }).replied h .ok [] }) ∧
        (w ∉ s.sw.watches → 512 ≤ s.sw.watches.length →
          exec (.watch h (some a)) s = .next { s with sw := s.sw.replied h .tooMany [] })) ∧
      (s.sw.takes h .unwatch →
        exec (.unwatch h (some a)) s = .next
          { s with
            sw :=
              ({ s.sw with watches := s.sw.watches.filter fun x => x != w }).replied h .ok
                [if w ∈ s.sw.watches then 1 else 0] }))

/-! ### The edition clock and the deadline channels -/

/-- A tick raises the wall counter; a running clock's edition ticks rise with it, below the active length, and each channel whose
warning point they reach has its warning due; CLOCK STOP stops the clock and reports its ticks; CLOCK START on a stopped clock runs
it, and in ascending order each QUIET or WARNED channel whose active deadline is at or below the edition ticks takes its match: CLEARED
where its group is done, else DUE with PAGE_LATE and any AT_DEADLINE release (R97, R99, R101, R104, R106, R109, R114; the warning-due mark
and when a match is due are log entry 10, CLOCK STOP's values on a stopped clock log entry 22). -/
def Obligations.TheClockRunsAndStops : Prop :=
  ((∀ s : State, s.sw.clock.running = false →
    exec .tick s = .next { s with sw := { s.sw with wall := s.sw.wall + 1, last := { sent := [], released := false } } }) ∧
  (∀ s : State, s.sw.clock.running = true → s.sw.clock.ticks + 1 < s.sw.clock.activeLength →
    exec .tick s = .next
      { s with
        sw :=
          { s.sw with
            wall := s.sw.wall + 1
            clock := { s.sw.clock with ticks := s.sw.clock.ticks + 1 }
            channels := s.sw.channels.mapIdx fun c x =>
              let lead := (s.sw.groups.clock.channels.get c).warnLead
              if 0 < lead ∧ lead < x.active ∧ x.active - lead = s.sw.clock.ticks + 1 then { x with warningDue := true } else x
            last := { sent := [], released := false } } }) ∧
  (∀ (s : State) (h : Head), s.sw.takes h .clockStop →
    (s.sw.clock.running = true →
      exec (.clockStop h (some ())) s = .next
        { s with
          sw := ({ s.sw with clock := { s.sw.clock with running := false } }).replied h .ok (be16 s.sw.clock.ticks) }) ∧
    (s.sw.clock.running = false → exec (.clockStop h (some ())) s = .next { s with sw := s.sw.replied h .ok [] }))) ∧
  (∀ (s : State) (h : Head), s.sw.takes h .clockStart →
    (s.sw.clock.running = true → exec (.clockStart h (some ())) s = .next { s with sw := s.sw.replied h .ok [] }) ∧
    (s.sw.clock.running = false →
      let started : Switch :=
        { s.sw with clock := { s.sw.clock with running := true }, last := { sent := [], released := false } }
      let taken (t : Switch) (c : ChannelId) : Switch :=
        let x := t.channels.get c
        let matched : Switch := { t with channels := t.channels.set c (t.matched c) }
        let late : Switch :=
          { matched with
            inboxes :=
              (t.post
                { kind := .pageLate, cls := .flash, stamp := t.wall, channel := some c, edition := some t.clock.edition, note := some 0 }
                (t.channelRecipients c)).inboxes }
        if (x.state = .quiet ∨ x.state = .warned) ∧ x.active ≤ t.clock.ticks then
          if t.groupDone c = true then matched
          else if (t.groups.clock.channels.get c).releaseMode = .atDeadline then late.autoRelease c t.clock.edition
          else late
        else t
      let w : Switch :=
        { (allBelow 16).foldl taken started with
          ports := s.sw.creditedPorts h.port
          last := { sent := [resultFrame h .ok []], released := false } }
      exec (.clockStart h (some ())) s = .next { s with sw := w } ∧ s.sw.ReleaseFrame w ∧
        w.clock = { s.sw.clock with running := true } ∧
        ∀ c, let x := s.sw.channels.get c
          w.channels.get c =
            if (x.state = .quiet ∨ x.state = .warned) ∧ x.active ≤ s.sw.clock.ticks then s.sw.matched c else x))

/-- The edition turns at the tick that would reach the active length, and at TURN with "current" or the current edition's number;
another number is EDITION_PASSED. In a turn the clock moves on, EDITION_TURNED goes to every ACTIVE and GUARDED port, each channel takes its
new edition and, in AT_TURN mode, releases its group by the edition that has ended, every SPIKED story has its purge requested, and SENT pages
become MAKING (R18, R99, R100, R102, R113, R114, R132). The model's choices: the order of channels, directory and page table, and of the
slots (log entry 14), that a turn clears a warning still due (10),
and that STORE_EASED follows the other notices (13). That TICK and EDITION_TURN are the same event there is log entry 9,
and that EDITION_TURN does not happen at another time log entry 7. -/
def Obligations.TheEditionTurns : Prop :=
  (∀ s : Switch,
    let e := if s.clock.edition = 255 then 1 else s.clock.edition + 1
    let begun : Switch :=
      { s with
        clock := { running := s.clock.running, ticks := 0, edition := e, activeLength := s.groups.clock.editionLength }
        inboxes :=
          (s.post { kind := .editionTurned, cls := .priority, stamp := s.wall, edition := some e }
            (fun p => (s.ports.get p).standing == .active || (s.ports.get p).standing == .guarded)).inboxes }
    let channel (t : Switch) (c : ChannelId) : Switch :=
      let settings := t.groups.clock.channels.get c
      let started : Switch :=
        { t with
          channels := t.channels.set c
            { active := if settings.bufferMode = .atTurn then settings.deadline else (t.channels.get c).active
              state := .quiet, lateCount := 0, nextLate := none, atRisk := false, warningDue := false } }
      if settings.releaseMode = .atTurn then started.autoRelease c s.clock.edition else started
    let purge (t : Switch) (i : SlotId) : Switch :=
      match (t.slots.get i).story with
      | none => t
      | some st =>
        if ∀ v ∈ st.versions, v.pins = 0 then t.purged (t.handleAt i) st
        else { t with slots := (t.setStory i { st with status := .spiked true }).slots }
    let released := (allBelow 16).foldl channel begun
    let spiked := released.slots.indices fun x =>
      match x.story.map Story.status with
      | some (.spiked _) => true
      | _ => false
    let cleared := spiked.foldl purge released
    s.turnEdition =
      { cleared with pages := cleared.pages.map fun x => if x.state = .sent then { x with state := .making } else x }) ∧
  (∀ s : State, s.sw.clock.running = true → s.sw.clock.activeLength ≤ s.sw.clock.ticks + 1 →
    let w := Switch.easedTest (Switch.turnEdition { s.sw with wall := s.sw.wall + 1, last := { sent := [], released := false } })
    exec .editionTurn s = .next { s with sw := w } ∧ exec .tick s = .next { s with sw := w } ∧
      s.sw.TurnedFrom w ∧ w.wall = s.sw.wall + 1 ∧ w.ports = s.sw.ports ∧ w.last.sent = []) ∧
  (∀ s : State, s.sw.clock.running = false ∨ s.sw.clock.ticks + 1 < s.sw.clock.activeLength →
    exec .editionTurn s = .next { s with sw := s.sw.quietly }) ∧
  (∀ (s : State) (h : Head) (a : TurnArgs) (e : Option Nat), s.sw.takes h .turn → TurnArgs.check a = some e →
    (e = none ∨ e = some s.sw.clock.edition →
      let t := s.sw.quietly.turnEdition
      let w := Switch.easedTest
        { t with
          ports := s.sw.creditedPorts h.port
          last := { t.last with sent := [resultFrame h .ok [byte t.clock.edition]] } }
      exec (.turn h (some a)) s = .next { s with sw := w } ∧ s.sw.TurnedFrom w ∧ w.wall = s.sw.wall) ∧
    (∀ n, e = some n → n ≠ s.sw.clock.edition →
      exec (.turn h (some a)) s = .next { s with sw := s.sw.replied h .editionPassed [] }))

/-- A group is the defined pages bound to its channel that hold a placement; it is done when each was last sent in the current
edition; a channel not CLEARED whose group becomes done goes to CLEARED with no next late tick; and its notices go to the control
ports and the ports that serve its pages' owner desks. An automatic release takes, in ascending slot order, the MAKING and FAULTED pages of
the group not last sent in the reference edition; each is released with the rush flag clear, or stays with RELEASE_BLOCKED to its owner's
port when 32 queue places are held (R105, R106, R111, R114, R131). -/
def Obligations.GroupsAreJudgedAndReleased : Prop :=
  (∀ (s : Switch) (c : ChannelId) (q : PageId),
    q ∈ s.groupPages c ↔ (∃ d, s.groups.clock.pages.get q = some d ∧ d.binding = some c) ∧ (s.pages.get q).layout ≠ []) ∧
  (∀ (s : Switch) (c : ChannelId),
    s.groupDone c = true ↔ ∀ q ∈ s.groupPages c, (s.pages.get q).lastSent = s.clock.edition) ∧
  (∀ s before : Switch,
    s.judgeGroups before =
      { s with
        channels := s.channels.mapIdx fun c x =>
          if before.groupDone c = false ∧ s.groupDone c = true ∧ x.state ≠ .cleared then
            { x with state := .cleared, nextLate := none }
          else x }) ∧
  (∀ (s : Switch) (c : ChannelId) (p : PortId),
    s.channelRecipients c p = true ↔
      s.groups.ports.privilege.get p = .control ∨
        ∃ q ∈ s.groupPages c, ∃ d, s.groups.clock.pages.get q = some d ∧ s.groups.ports.serving.get d.owner = some p) ∧
  (∀ (s : Switch) (c : ChannelId) (reference : Nat),
      s.autoRelease c reference = (s.autoSelected c reference).foldl (Switch.autoReleasePage c) s ∧
      (s.autoSelected c reference).Pairwise (· < ·) ∧
      (∀ q, q ∈ s.autoSelected c reference ↔
        q ∈ s.groupPages c ∧ ((s.pages.get q).state = .making ∨ (s.pages.get q).state = .faulted) ∧
          (s.pages.get q).lastSent ≠ reference) ∧
      (∀ q d, s.groups.clock.pages.get q = some d →
        let held := s.queue.length + if s.sending = none then 0 else 1
        (held < 32 → s.autoReleasePage c q = s.releasePage q d false) ∧
        (32 ≤ held →
          s.autoReleasePage c q =
            { s with
              inboxes :=
                (s.post
                  { kind := .releaseBlocked, cls := .flash, stamp := s.wall, page := some q, channel := some c,
                    edition := some s.clock.edition }
                  (fun p => s.groups.ports.serving.get d.owner == some p)).inboxes })))

/-- EDITION LENGTH writes the buffered length, and the active one on a stopped clock below it; DEADLINE writes the buffered
deadline and CHANNEL the other five settings, and both move the active deadline where R107 and R108 say; a moved active deadline
clears the at-risk flag and takes a passed match on a running clock: CLEARED where the group is done, else DUE with PAGE_LATE and any
AT_DEADLINE release (R103, R106, R107, R108, R109, R114). The model's choices: a new value is one that differs
(log entry 15), and a new active deadline or warn lead clears a warning still due (10). -/
def Obligations.ClockSettingsAreWritten : Prop :=
  (∀ (s : State) (h : Head) (w : Word16), s.sw.takes h .editionLength → 1200 ≤ w.toNat →
    exec (.editionLength h (some w)) s = .next
      { s with
        sw :=
          ({ s.sw with
              groups := { s.sw.groups with clock := { s.sw.groups.clock with editionLength := w.toNat } }
              clock :=
                { s.sw.clock with
                  activeLength :=
                    if s.sw.clock.running = false ∧ s.sw.clock.ticks < w.toNat then w.toNat
                    else s.sw.clock.activeLength } }).replied h .ok [] }) ∧
  (∀ (s : State) (h : Head) (a : DeadlineArgs) (c : ChannelId) (n : Nat), s.sw.takes h .deadline →
    DeadlineArgs.check a = some (c, n) →
      let old := s.sw.groups.clock.channels.get c
      let written : Switch :=
        { s.sw with
          groups :=
            { s.sw.groups with
              clock := { s.sw.groups.clock with channels := s.sw.groups.clock.channels.set c { old with deadline := n } } } }
      exec (.deadline h (some a)) s = .next
        { s with
          sw :=
            if old.bufferMode = .direct ∨ s.sw.clock.running = false then
              (written.setActive c n).replied h .ok (be16 n)
            else written.replied h .ok (be16 (s.sw.channels.get c).active) }) ∧
  (∀ (s : State) (h : Head) (a : ChannelArgs) (m : ChannelParams), s.sw.takes h .channel → ChannelArgs.check a = some m →
      let c := m.channel
      let old := s.sw.groups.clock.channels.get c
      let x := s.sw.channels.get c
      let late := s.sw.clock.ticks + m.lateInterval
      let written : Switch :=
        { s.sw with
          groups :=
            { s.sw.groups with
              clock :=
                { s.sw.groups.clock with
                  channels := s.sw.groups.clock.channels.set c
                    { deadline := old.deadline, bufferMode := m.bufferMode, warnLead := m.warnLead,
                      releaseMode := m.releaseMode, lateInterval := m.lateInterval, lateDivisor := m.lateDivisor } } }
          channels := s.sw.channels.set c
            { x with
              warningDue := if m.warnLead = old.warnLead then x.warningDue else false
              nextLate :=
                if x.state = .due ∧ m.lateInterval ≠ old.lateInterval then
                  (if m.lateInterval = 0 ∨ 65535 < late then none else some late)
                else x.nextLate } }
      exec (.channel h (some a)) s = .next
        { s with
          sw :=
            if m.bufferMode = .direct ∧ old.bufferMode = .atTurn then (written.setActive c old.deadline).replied h .ok []
            else written.replied h .ok [] }) ∧
  (∀ (s : Switch) (c : ChannelId) (n : Nat),
      let x := s.channels.get c
      let moved : Switch := { s with channels := s.channels.set c { x with active := n, atRisk := false, warningDue := false } }
      s.setActive c n =
        if x.active = n then s
        else if s.clock.running = true ∧ (x.state = .quiet ∨ x.state = .warned) ∧ n ≤ s.clock.ticks then moved.takeMatch c
        else moved) ∧
  (∀ (s : Switch) (c : ChannelId),
    let x := s.channels.get c
    let matched : Switch := { s with channels := s.channels.set c (s.matched c) }
    let late : Switch :=
      { matched with
        inboxes :=
          (s.post
            { kind := .pageLate, cls := .flash, stamp := s.wall, channel := some c, edition := some s.clock.edition, note := some 0 }
            (s.channelRecipients c)).inboxes }
    s.takeMatch c =
      if x.state = .quiet ∨ x.state = .warned then
        if s.groupDone c = true then matched
        else if (s.groups.clock.channels.get c).releaseMode = .atDeadline then late.autoRelease c s.clock.edition
        else late
      else s)

/-- A channel's warning point, deadline match and late tick, each with its state, notice and automatic release; where one is not
due, nothing happens (R104, R106, R109, R110). The model's choices: an event that is not due does nothing (log entry 7), when each is due
(10), and that a stopped clock lets a due warning be taken and keeps a match and a late tick waiting (37). -/
def Obligations.ChannelEventsAct : Prop :=
  ∀ (s : State) (c : ChannelId),
    let x := s.sw.channels.get c
    let settings := s.sw.groups.clock.channels.get c
    let notice (kind : NoticeKind) (cls : Urgency) (note : Option Byte) : Notice :=
      { kind := kind, cls := cls, stamp := s.sw.wall, channel := some c, edition := some s.sw.clock.edition, note := note }
    let left (x : Channel) (boxes : Bank 6 Inbox) : Switch :=
      { s.sw with channels := s.sw.channels.set c x, inboxes := boxes, last := { sent := [], released := false } }
    (x.warningDue = true → x.state = .quiet → s.sw.groupDone c = false →
      exec (.warningPoint c) s = .next
        { s with
          sw := left { x with state := .warned, warningDue := false }
            (s.sw.post (notice .deadlineNear .bulletin none) (s.sw.channelRecipients c)).inboxes }) ∧
    (x.warningDue = true → x.state ≠ .quiet ∨ s.sw.groupDone c = true →
      exec (.warningPoint c) s = .next { s with sw := left { x with warningDue := false } s.sw.inboxes }) ∧
    (x.warningDue = false → exec (.warningPoint c) s = .next { s with sw := s.sw.quietly }) ∧
    (s.sw.clock.running = true → x.state = .quiet ∨ x.state = .warned → x.active ≤ s.sw.clock.ticks →
      (s.sw.groupDone c = true → exec (.deadlineMatch c) s = .next { s with sw := left { x with state := .cleared } s.sw.inboxes }) ∧
      (s.sw.groupDone c = false →
        let due := left (s.sw.matched c)
          (s.sw.post (notice .pageLate .flash (some 0)) (s.sw.channelRecipients c)).inboxes
        exec (.deadlineMatch c) s = .next
          { s with sw := if settings.releaseMode = .atDeadline then due.autoRelease c s.sw.clock.edition else due })) ∧
    (s.sw.clock.running = false ∨ x.state = .due ∨ x.state = .cleared ∨ s.sw.clock.ticks < x.active →
      exec (.deadlineMatch c) s = .next { s with sw := s.sw.quietly }) ∧
    (∀ n, s.sw.clock.running = true → x.state = .due → x.nextLate = some n → n ≤ s.sw.clock.ticks →
      let count := x.lateCount + 1
      let next := n + settings.lateInterval
      exec (.lateTick c) s = .next
        { s with
          sw := left
            { x with
              lateCount := count
              nextLate := if settings.lateInterval = 0 ∨ 65535 < next then none else some next }
            (if count % settings.lateDivisor = 0 then
              (s.sw.post (notice .pageLate .flash (some (byte (min 255 count)))) (s.sw.channelRecipients c)).inboxes
            else s.sw.inboxes) }) ∧
    (s.sw.clock.running = false ∨ x.state ≠ .due ∨ x.nextLate = none ∨ (∃ n, x.nextLate = some n ∧ s.sw.clock.ticks < n) →
      exec (.lateTick c) s = .next { s with sw := s.sw.quietly })

/-! ### Pages and release -/

/-- PAGE defines, redefines and undefines a page, DUPLICATE on a label held by another page and PAGE_BUSY where R119 says; PLACE
and UNPLACE insert and remove a placement and answer with their number; the channels judge their groups in the same event (R111,
R119, R120, R121). -/
def Obligations.PagesAreDefinedAndLaidOut : Prop :=
  (∀ (s : State) (h : Head) (a : PageArgs) (q : PageId) (d : PageDef), s.sw.takes h .page → PageArgs.check a = some (q, some d) →
    let defined : Switch :=
      { s.sw with
        groups := { s.sw.groups with clock := { s.sw.groups.clock with pages := s.sw.groups.clock.pages.set q (some d) } }
        pages :=
          if s.sw.groups.clock.pages.get q = none then
            s.sw.pages.set q { state := .making, lastSent := 0, layout := [], job := none }
          else s.sw.pages }
    ((∃ k d', k ≠ q ∧ s.sw.groups.clock.pages.get k = some d' ∧ d'.label = d.label) →
      exec (.page h (some a)) s = .next { s with sw := s.sw.replied h .duplicate [] }) ∧
    ((∀ k d', k ≠ q → s.sw.groups.clock.pages.get k = some d' → d'.label ≠ d.label) →
      exec (.page h (some a)) s = .next { s with sw := (defined.judgeGroups s.sw).replied h .ok [] })) ∧
  (∀ (s : State) (h : Head) (a : PageArgs) (q : PageId), s.sw.takes h .page → PageArgs.check a = some (q, none) →
    let undefined : Switch :=
      { s.sw with
        groups := { s.sw.groups with clock := { s.sw.groups.clock with pages := s.sw.groups.clock.pages.set q none } }
        pages := s.sw.pages.set q { state := .making, lastSent := 0, layout := [], job := none } }
    exec (.page h (some a)) s = .next
      { s with
        sw :=
          if s.sw.groups.clock.pages.get q = none then s.sw.replied h .ok []
          else if (s.sw.pages.get q).state = .making then (undefined.judgeGroups s.sw).replied h .ok []
          else s.sw.replied h .pageBusy [] }) ∧
  (∀ (s : State) (h : Head) (a : PlaceArgs) (c : PlaceParams) (d : PageDef) (st : Story), s.sw.takes h .place →
    PlaceArgs.check a = some c → s.sw.groups.clock.pages.get c.page = some d → s.sw.hasRight h.port d.owner →
    s.sw.story c.handle = some st →
      let layout := (s.sw.pages.get c.page).layout
      let position := c.position.getD layout.length
      position ≤ layout.length → layout.length < 16 →
        let placed : Switch :=
          { s.sw with
            pages := s.sw.pages.set c.page
              { s.sw.pages.get c.page with
                layout := layout.take position ++ { handle := c.handle, frame := c.frame } :: layout.drop position } }
        exec (.place h (some a)) s = .next
          { s with sw := (placed.judgeGroups s.sw).replied h .ok [byte (layout.length + 1)] }) ∧
  (∀ (s : State) (h : Head) (a : UnplaceArgs) (q : PageId) (i : Nat) (d : PageDef), s.sw.takes h .unplace →
    UnplaceArgs.check a = some (q, i) → s.sw.groups.clock.pages.get q = some d → s.sw.hasRight h.port d.owner →
      let layout := (s.sw.pages.get q).layout
      i < layout.length →
        let removed : Switch :=
          { s.sw with
            pages := s.sw.pages.set q { s.sw.pages.get q with layout := layout.take i ++ layout.drop (i + 1) } }
        exec (.unplace h (some a)) s = .next
          { s with sw := (removed.judgeGroups s.sw).replied h .ok [byte (layout.length - 1)] })

/-- RELEASE of a page that holds no queue place: its job formed from a fresh snapshot, its place taken, and the values of R122; of
a QUEUED page: the job replaced in place, the old pins released first; of any other page the refusals of R122 (R122, R124, R126). The model's
choices: a re-release does not move the sequence of releases on (log entry 38), the order in which the old pins go (35), and that STORE_EASED
follows the other notices (13). -/
def Obligations.ReleaseFormsTheJob : Prop :=
  (∀ (s : Switch) (q : PageId) (d : PageDef) (rush : Bool),
    let t := (s.snapshot (s.pages.get q).layout).1
    let entries := (s.snapshot (s.pages.get q).layout).2
    let u : Switch :=
      { t with
        releases := s.releases + 1
        pages := s.pages.set q
          { s.pages.get q with
            state := .queued
            job := some
              { entries := entries, edition := s.clock.edition
                length := 16 + 32 * entries.length + (entries.map Entry.length).sum + 8, rush := rush
                key := d.binding.map fun c => (s.channels.get c).active, order := s.releases + 1, attempts := 0
                stamp := s.wall, returned := false, label := d.label, owner := d.owner, binding := d.binding } } }
    s.releasePage q d rush = { u with queue := u.enqueue q s.queue }) ∧
  (∀ (s : State) (h : Head) (a : ReleaseArgs) (q : PageId) (rush : Bool) (d : PageDef), s.sw.takes h .release →
    ReleaseArgs.check a = some (q, rush) → s.sw.groups.clock.pages.get q = some d → s.sw.hasRight h.port d.owner →
      let x := s.sw.pages.get q
      let held := s.sw.queue.length + if s.sw.sending = none then 0 else 1
      let values (j : Job) (queue : List PageId) : List Byte :=
        be32 j.length ++
          [byte j.edition, byte (j.entries.countP fun e => e.version.isNone), byte (queue.idxOf q + 1)]
      (x.state = .sending → exec (.release h (some a)) s = .next { s with sw := s.sw.replied h .pageBusy [] }) ∧
      (x.state ≠ .sending → x.layout = [] → exec (.release h (some a)) s = .next { s with sw := s.sw.replied h .emptyPage [] }) ∧
      (x.state ≠ .sending → x.state ≠ .queued → x.layout ≠ [] →
        (32 ≤ held → exec (.release h (some a)) s = .next { s with sw := s.sw.replied h .queueFull [] }) ∧
        (held < 32 →
          let t := s.sw.releasePage q d rush
          ∃ j, (t.pages.get q).job = some j ∧
            exec (.release h (some a)) s = .next { s with sw := t.replied h .ok (values j t.queue) })) ∧
      (∀ old, x.state = .queued → x.layout ≠ [] → x.job = some old →
        let t := s.sw.quietly.releasePins old.entries
        let u := (t.snapshot x.layout).1
        let entries := (t.snapshot x.layout).2
        let j : Job :=
          { old with
            entries := entries, edition := s.sw.clock.edition
            length := 16 + 32 * entries.length + (entries.map Entry.length).sum + 8, attempts := 0, stamp := s.sw.wall
            label := d.label, owner := d.owner, binding := d.binding }
        exec (.release h (some a)) s = .next
          { s with
            sw :=
              Switch.easedTest
                { u with
                  pages := s.sw.pages.set q { x with job := some j }
                  ports := s.sw.creditedPorts h.port
                  last := { u.last with sent := [resultFrame h .ok (values j s.sw.queue)] } } }))

/-- A snapshot captures, entry by entry in layout order, the current version of each FILED, OFFERED or OPEN story and OMITTED for
any other, and takes one pin for each captured entry; a page takes its queue place before the first page whose standing it
precedes: returned pages, then rush pages, then by queue key, "unbound" last (R31, R123, R125). -/
def Obligations.SnapshotsPinAndPagesQueue : Prop :=
  (∀ (s : Switch) (layout : List Placement),
    let entry (pl : Placement) : Entry :=
      let omitted : Entry := { handle := pl.handle, frame := pl.frame, version := none, length := 0, openAtRelease := false }
      match s.story pl.handle with
      | none => omitted
      | some st =>
        match st.versions.getLast?, st.status with
        | none, _ => omitted
        | _, .filing => omitted
        | _, .spiked _ => omitted
        | some v, .filed => { omitted with version := some v.number, length := v.length }
        | some v, .offered _ => { omitted with version := some v.number, length := v.length }
        | some v, .opened _ => { omitted with version := some v.number, length := v.length, openAtRelease := true }
    let t := (s.snapshot layout).1
    let entries := (s.snapshot layout).2
    entries = layout.map entry ∧ t = { s with slots := t.slots } ∧
      ∀ i, t.slots.get i =
        { s.slots.get i with
          story := (s.slots.get i).story.map fun st =>
            { st with
              versions := st.versions.map fun v =>
                { v with
                  pins := v.pins + entries.countP fun e => e.handle == s.handleAt i && e.version == some v.number } } }) ∧
  (∀ (s : Switch) (q : PageId) (queue : List PageId),
    let standing (k : PageId) : Nat × Nat :=
      match (s.pages.get k).job with
      | none => (4, 0)
      | some j =>
        if j.returned then (0, 0)
        else if j.rush then (1, 0)
        else
          match j.key with
          | some d => (2, d)
          | none => (3, 0)
    let precedes (k k' : PageId) : Prop :=
      (standing k).1 < (standing k').1 ∨ (standing k).1 = (standing k').1 ∧ (standing k).2 < (standing k').2
    queue.Pairwise (fun k k' => ¬precedes k' k) →
      ∃ before after, queue = before ++ after ∧ s.enqueue q queue = before ++ q :: after ∧
        (∀ k ∈ before, ¬precedes q k) ∧ (∀ k ∈ after, precedes q k))

/-- A pin released takes one from its version's count; the last pin of a story with its purge pending completes the purge: GONE to
the watchers, their entries gone, the chains back in the pool, the slot VACANT under the next generation, no upload's victim on its list looked
for any more; a new version's number is the next that no kept version holds; and a tight store that an event's returns leave at or above the
high-water mark is eased, with STORE_EASED to the control ports (R17, R19, R26, R27, R30, R31, R33). A
snapshot's pins are released one by one, an OMITTED entry holding none. The model's choices: the released mark (log entry 11) and that the
pins of a snapshot go in entry order (35). -/
def Obligations.PinsPurgesAndTheEasedTest : Prop :=
  ((∀ (s : Switch) (k : Handle) (n : Nat) (st : Story), s.story k = some st →
    let versions := st.versions.map fun (v : Version) => if v.number = n then { v with pins := v.pins - 1 } else v
    (¬(st.status = .spiked true ∧ ∀ v ∈ versions, v.pins = 0) →
      s.unpin k n = { s with slots := (s.setStory k.slot { st with versions := versions }).slots }) ∧
    (st.status = .spiked true → (∀ v ∈ versions, v.pins = 0) →
      s.unpin k n = s.purged k st)) ∧
  (∀ (s : Switch) (k : Handle) (n : Nat), s.story k = none → s.unpin k n = s) ∧
  (∀ (st : Story) (kept : List Version),
    (st.versions = [] → newNumber st kept = 1) ∧
    (∀ v, st.versions.getLast? = some v → 1 ≤ v.number → v.number ≤ 65535 → kept.length ≤ 4 →
      let n := newNumber st kept
      1 ≤ n ∧ n ≤ 65535 ∧ (∀ x ∈ kept, x.number ≠ n) ∧
        ∃ j, n = (v.number + j) % 65535 + 1 ∧ ∀ i < j, ∃ x ∈ kept, x.number = (v.number + i) % 65535 + 1))) ∧
  (∀ s : Switch,
    (s.last.released = true → s.store.tight = true → s.groups.store.high ≤ s.store.freeCount - s.store.reserved →
      s.easedTest =
        { s with
          store := { s.store with tight := false }
          inboxes := (s.postControl { kind := .storeEased, cls := .priority, stamp := s.wall }).inboxes }) ∧
    (s.last.released = false ∨ s.store.tight = false ∨ s.store.freeCount - s.store.reserved < s.groups.store.high →
      s.easedTest = s)) ∧
  (∀ s : Switch, s.releasePins [] = s) ∧
  (∀ (s : Switch) (e : Entry) (rest : List Entry),
    (e.version = none → s.releasePins (e :: rest) = s.releasePins rest) ∧
    (∀ n, e.version = some n → s.releasePins (e :: rest) = (s.unpin e.handle n).releasePins rest))

/-- RECALL takes a QUEUED page out of the queue, ends its job, releases its pins and leaves it MAKING; for the SENDING page it also
turns the link that carries it to VOIDING; any other page is NOT_QUEUED (R127, R147). That STORE_EASED follows the GONE notices of purges the
pins complete is log entry 13, the order of those purges log entry 35, and that the link's bytes taken and trailer bytes taken go to 0 log entry 4,
all the model's choices. -/
def Obligations.RecallFreesThePage : Prop :=
  ∀ (s : State) (h : Head) (b : Byte) (q : PageId) (d : PageDef), s.sw.takes h .recall → b.toNat = q.val →
    s.sw.groups.clock.pages.get q = some d → s.sw.hasRight h.port d.owner →
      let x := s.sw.pages.get q
      let freed : Switch :=
        { s.sw with
          queue := s.sw.queue.filter fun k => k != q
          sending := if s.sw.sending = some q then none else s.sw.sending
          pages := s.sw.pages.set q { x with state := .making, job := none }
          last := { sent := [], released := false } }
      let unpinned := freed.releasePins ((x.job.map Job.entries).getD [])
      (x.state = .queued →
        exec (.recall h (some b)) s = .next { s with sw := (unpinned.answer h .ok []).easedTest }) ∧
      (x.state = .sending →
        let l := s.sw.active
        let y := s.sw.links.get l
        (y.page = some q → y.engine = .presenting ∨ y.engine = .awaiting →
          exec (.recall h (some b)) s = .next
            { s with
              sw :=
                (({ unpinned with
                    links := s.sw.links.set l
                      { y with
                        engine := .voiding, page := none, taken := 0, trailerTaken := 0
                        voided := some (q, (x.job.map Job.edition).getD 0), progress := s.sw.wall }
                    pace := { s.sw.pace with window := none } } : Switch).answer h .ok []).easedTest })) ∧
      (x.state = .making ∨ x.state = .sent ∨ x.state = .faulted →
        exec (.recall h (some b)) s = .next { s with sw := s.sw.replied h .notQueued [] })

/-! ### The typesetting feed -/

/-- How a job ends: a completed page is SENT when its tag is the current edition, else MAKING, with PAGE_SENT to its owner's port and
the groups judged; a faulted page is FAULTED with PAGE_FAULT to its owner's port and the control ports (R111, R129, R130). That the
pins are released before the notice is log entry 13, and that they go in entry order log entry 35, both the model's choices. -/
def Obligations.JobsEnd : Prop :=
  ∀ (s : Switch) (q : PageId) (d : PageDef) (j : Job), s.groups.clock.pages.get q = some d → (s.pages.get q).job = some j →
    let ended (x : Page) : Switch :=
      Switch.releasePins
        { s with
          queue := s.queue.filter fun k => k != q
          sending := if s.sending = some q then none else s.sending
          pages := s.pages.set q { x with job := none } }
        j.entries
    let sent := ended
      { s.pages.get q with lastSent := j.edition, state := if j.edition = s.clock.edition then .sent else .making }
    let faulted := ended { s.pages.get q with state := .faulted }
    s.completePage q =
      Switch.judgeGroups
        { sent with
          inboxes :=
            (sent.post { kind := .pageSent, cls := .priority, stamp := s.wall, page := some q, edition := some j.edition }
              (fun p => s.groups.ports.serving.get d.owner == some p)).inboxes }
        s ∧
    ∀ reason,
      s.faultPage q reason =
        { faulted with
          inboxes :=
            (faulted.post
              { kind := .pageFault, cls := .flash, stamp := s.wall, page := some q, edition := some j.edition,
                reason := some reason }
              (fun p => s.groups.ports.serving.get d.owner == some p || s.groups.ports.privilege.get p == .control)).inboxes }

/-- A rise takes a DOWN link to SETTLING; a fall takes a SETTLING link, or an UP link with its engine IDLE, to DOWN, the active one
failing over; the settle period with ready up takes a SETTLING link to UP; and the active link changes by a fail-over, a take-over or a
return, each clearing the pace meter and each with its notice to the control ports (R135, R136, R138, R139, R140, R149; log entry 7). -/
def Obligations.LinksRiseFallAndTakeOver : Prop :=
  (∀ (s : State) (l : LinkId),
    let x := s.sw.links.get l
    let left (x : Link) : Switch := { s.sw with links := s.sw.links.set l x, last := { sent := [], released := false } }
    (x.state = .down →
      exec (.readyLineRise l) s = .next
        { s with sw := left { x with ready := true, state := .settling, settleStart := s.sw.wall } }) ∧
    (x.state ≠ .down → exec (.readyLineRise l) s = .next { s with sw := left { x with ready := true } }) ∧
    (x.state = .off ∨ x.state = .down ∨ x.state = .up ∧ x.engine ≠ .idle →
      exec (.readyLineFall l) s = .next { s with sw := left { x with ready := false } }) ∧
    (x.state = .settling → exec (.readyLineFall l) s = .next { s with sw := left { x with ready := false, state := .down } }) ∧
    (x.state = .up → x.engine = .idle →
      let down := left { x with ready := false, state := .down }
      exec (.readyLineFall l) s = .next { s with sw := if s.sw.active = l then down.failOver l none else down }) ∧
    (x.state = .settling → x.ready = true → s.sw.groups.feed.settlePeriod ≤ (s.sw.wall - x.settleStart).toNat →
      exec (.linkSettled l) s = .next { s with sw := ((left { x with state := .up }).takeOver l).returnHome }) ∧
    (x.state ≠ .settling ∨ x.ready = false ∨ (s.sw.wall - x.settleStart).toNat < s.sw.groups.feed.settlePeriod →
      exec (.linkSettled l) s = .next { s with sw := s.sw.quietly })) ∧
  (∀ (s : Switch) (l : LinkId),
    let moved (l : LinkId) (kind : NoticeKind) (cls : Urgency) (q : Option PageId) : Switch :=
      { s with
        active := l
        pace := { s.pace with samples := [], pace := 0 }
        inboxes :=
          (s.postControl
            { kind := kind, cls := cls, stamp := s.wall, reason := some (if l = .a then .linkA else .linkB),
              page := q }).inboxes }
    (∀ q, s.failOver l q =
      if (s.links.get l.other).state = .up then moved l.other .linkSwitched .flash q
      else
        { s with
          inboxes :=
            (s.postControl
              { kind := .linkDown, cls := .flash, stamp := s.wall, reason := some (if l = .a then .linkA else .linkB),
                page := q }).inboxes }) ∧
    (s.takeOver l =
      if l ≠ s.active ∧ (s.links.get s.active).state ≠ .up then
        (if l = s.groups.feed.home then moved l .linkReturned .priority none else moved l .linkSwitched .flash none)
      else s) ∧
    (s.returnHome =
      if s.active ≠ s.groups.feed.home ∧ (s.links.get s.groups.feed.home).state = .up ∧
          (s.links.get s.active).engine = .idle then
        moved s.groups.feed.home .linkReturned .priority none
      else s) ∧
    (let y := s.links.get l
     let down : Switch := { s with links := s.links.set l { y with state := .down } }
     s.engineIdled l =
      if y.ready = false ∧ y.state = .up then
        (if s.active = l then (down.failOver l none).returnHome else down.returnHome)
      else s.returnHome))

/-- A stall is due by the stall window or the end-of-page wait and takes the link DOWN; the attempt in flight is abandoned: the page
faulted at the attempt limit, else restarted on the other link when that is UP, else returned to the head of the queue (R128, R137,
R138, R140, R145, R147). The model's choices: a stall that is not due does nothing (log entry 7); the pins of a faulted page are released
before its PAGE_FAULT, and STORE_EASED follows PAGE_FAULT and the link notices of the event (13); the
idle link's bytes taken and trailer bytes taken go to 0 (4). -/
def Obligations.StallsBreakAttemptsOff : Prop :=
  (∀ (s : State) (l : LinkId),
    let x := s.sw.links.get l
    let due : Prop :=
      (x.engine = .presenting ∨ x.engine = .voiding) ∧ s.sw.groups.feed.stallWindow ≤ (s.sw.wall - x.progress).toNat ∨
        x.engine = .awaiting ∧ 40 ≤ (s.sw.wall - x.waitStart).toNat
    (due → exec (.linkStall l) s = .next { s with sw := (s.sw.quietly.breakOff l .down).easedTest }) ∧
    (¬due → exec (.linkStall l) s = .next { s with sw := s.sw.quietly })) ∧
  (∀ (s : Switch) (l : LinkId) (state : LinkState),
    let x := s.links.get l
    let idle : Switch :=
      { s with
        links := s.links.set l
          { x with state := state, engine := .idle, page := none, taken := 0, trailerTaken := 0, voided := none } }
    (x.engine = .voiding → s.breakOff l state = idle.failOver l none) ∧
    (∀ q j, x.engine = .presenting ∨ x.engine = .awaiting → x.page = some q → (s.pages.get q).job = some j →
      let cut : Switch := { idle with pace := { s.pace with window := none } }
      (s.groups.feed.attemptLimit ≤ j.attempts → s.breakOff l state = (cut.faultPage q .stalled).failOver l (some q)) ∧
      (j.attempts < s.groups.feed.attemptLimit → (s.links.get l.other).state = .up →
        let y := s.links.get l.other
        s.breakOff l state =
          { cut with
            active := l.other
            pages := s.pages.set q
              { s.pages.get q with
                state := .sending, job := some { j with attempts := j.attempts + 1, returned := false } }
            sending := some q
            links := idle.links.set l.other
              { y with engine := .presenting, page := some q, taken := 0, progress := s.wall }
            pace :=
              { window := some { start := s.wall, length := s.groups.feed.paceWindow, count := 0 }, samples := [], pace := 0 }
            inboxes :=
              (s.postControl
                { kind := .linkSwitched, cls := .flash, stamp := s.wall,
                  reason := some (if l.other = .a then .linkA else .linkB), page := some q }).inboxes }) ∧
      (j.attempts < s.groups.feed.attemptLimit → (s.links.get l.other).state ≠ .up →
        s.breakOff l state =
          { cut with
            pages := s.pages.set q { s.pages.get q with state := .queued, job := some { j with returned := true } }
            sending := none
            queue := q :: s.queue
            inboxes :=
              (s.postControl
                { kind := .linkDown, cls := .flash, stamp := s.wall, reason := some (if l = .a then .linkA else .linkB),
                  page := some q }).inboxes })))

/-- A start presents the head of the queue from its first byte with a pace window opened, or faults it when its attempts have
reached the limit; each strobe takes one byte of the page or of the VOID trailer, and the last leaves the engine AWAITING or IDLE;
any other strobe is disregarded (R137, R141, R142, R147, R148). The model's choices: a start that is not due does nothing (log entry 7), and
STORE_EASED follows the PAGE_FAULT of a start that faults its page (13); the
bytes taken and trailer bytes taken of a link whose VOID trailer ends go to 0 (4). -/
def Obligations.StartsAndStrobesSendThePage : Prop :=
  (∀ (s : State) (q : PageId) (rest : List PageId) (j : Job),
    let l := s.sw.active
    let x := s.sw.links.get l
    s.sw.queue = q :: rest → (s.sw.pages.get q).job = some j → x.state = .up → x.engine = .idle → s.sw.sending = none →
      (j.attempts < s.sw.groups.feed.attemptLimit →
        exec .pageStart s = .next
          { s with
            sw :=
              { s.sw with
                queue := rest
                sending := some q
                pages := s.sw.pages.set q
                  { s.sw.pages.get q with
                    state := .sending, job := some { j with attempts := j.attempts + 1, returned := false } }
                links := s.sw.links.set l { x with engine := .presenting, page := some q, taken := 0, progress := s.sw.wall }
                pace :=
                  { s.sw.pace with
                    window := some { start := s.sw.wall, length := s.sw.groups.feed.paceWindow, count := 0 } }
                last := { sent := [], released := false } } }) ∧
      (s.sw.groups.feed.attemptLimit ≤ j.attempts →
        exec .pageStart s = .next { s with sw := (s.sw.quietly.faultPage q .stalled).easedTest })) ∧
  (∀ s : State,
    s.sw.queue = [] ∨ (s.sw.links.get s.sw.active).state ≠ .up ∨ (s.sw.links.get s.sw.active).engine ≠ .idle ∨
        s.sw.sending ≠ none →
      exec .pageStart s = .next { s with sw := s.sw.quietly }) ∧
  (∀ (s : State) (l : LinkId),
    let x := s.sw.links.get l
    let sent : LastEvent := { sent := ((s.sw.presented l).map (Emission.byte l)).toList, released := false }
    (∀ q j, x.engine = .presenting → x.page = some q → (s.sw.pages.get q).job = some j →
      (x.taken + 1 < j.length →
        exec (.takeStrobe l) s = .next
          { s with
            sw :=
              { s.sw with
                links := s.sw.links.set l { x with taken := x.taken + 1, progress := s.sw.wall }
                pace := { s.sw.pace with window := s.sw.pace.window.map fun w => { w with count := w.count + 1 } }
                last := sent } }) ∧
      (j.length ≤ x.taken + 1 →
        exec (.takeStrobe l) s = .next
          { s with
            sw :=
              { s.sw with
                links := s.sw.links.set l
                  { x with taken := x.taken + 1, progress := s.sw.wall, engine := .awaiting, waitStart := s.sw.wall }
                pace := { s.sw.pace with window := none }
                last := sent } })) ∧
    (x.engine = .voiding →
      (x.trailerTaken + 1 < 8 →
        exec (.takeStrobe l) s = .next
          { s with
            sw :=
              { s.sw with
                links := s.sw.links.set l { x with trailerTaken := x.trailerTaken + 1, progress := s.sw.wall }
                last := sent } }) ∧
      (8 ≤ x.trailerTaken + 1 →
        exec (.takeStrobe l) s = .next
          { s with
            sw :=
              Switch.engineIdled
                { s.sw with
                  links := s.sw.links.set l
                    { x with
                      engine := .idle, page := none, taken := 0, trailerTaken := 0, voided := none, progress := s.sw.wall }
                  last := sent }
                l })) ∧
    (x.engine = .idle ∨ x.engine = .awaiting → exec (.takeStrobe l) s = .next { s with sw := s.sw.quietly }))

/-- The stream of an attempt: the page header, each placement header with its text, and the END trailer with the CRC-16 over every
byte before it; it is as long as the job length says; and what a link presents is its next byte, or the next of the VOID trailer
(R124, R142, R147, R177). -/
def Obligations.ThePageStreamIsLaidOut : Prop :=
  ∀ (s : Switch) (q : PageId) (j : Job),
    let body := s.pageBody q j
    let header : List Byte :=
      [0x50, j.label.letter, byte j.label.number, byte q.val, byte j.edition, byte j.entries.length] ++ be32 j.length ++
        [byte j.owner.val, match j.binding with | none => 0xFF | some c => byte c.val, 0, 0, 0, 0]
    let placement (i : Nat) (e : Entry) : List Byte :=
      [0x54, byte i] ++ be16 e.handle.slot.val ++
        [e.handle.gen, (if e.openAtRelease then 1 else 0) ||| (if e.version = none then 2 else 0)] ++
        be16 (e.version.getD 0) ++ be16 e.length ++ [0, 0, 0, 0, 0, 0] ++ e.frame ++ s.entryText e
    body = header ++ (j.entries.zipIdx.map fun x => placement x.2 x.1).flatten ∧
    s.pageStream q j = body ++ [0x45, byte q.val, byte j.edition, 0] ++ be16 (crc16 body).toNat ++ [0, 0] ∧
    (∀ e st v, s.story e.handle = some st → e.version = some v.number → (st.versions.find? fun x => x.number == v.number) = some v →
      s.entryText e = textSlice s.store.copy v.chain 0 e.length) ∧
    ((∀ e ∈ j.entries, e.frame.length = 16 ∧ (e.version = none → e.length = 0)) →
      (s.pageStream q j).length = 16 + 32 * j.entries.length + (j.entries.map Entry.length).sum + 8) ∧
    (∀ l, (s.links.get l).engine = .presenting → (s.links.get l).page = some q → (s.pages.get q).job = some j →
      s.presented l = (s.pageStream q j)[(s.links.get l).taken]?) ∧
    (∀ l edition, (s.links.get l).engine = .voiding → (s.links.get l).voided = some (q, edition) →
      s.presented l = ([0x56, byte q.val, byte edition, 0, 0, 0, 0, 0] : List Byte)[(s.links.get l).trailerTaken]?)

/-- An ACCEPT of the awaited page completes it and leaves the engine IDLE; a REJECT sends it again on the same link below the
attempt limit, else faults it; a status while the engine is not AWAITING reaches no page (R137, R143, R144). That STORE_EASED follows
PAGE_SENT, PAGE_FAULT and the link notices of the event is log entry 13, and that
the idle link's bytes taken and trailer bytes taken go to 0 log entry 4, both the model's choices. -/
def Obligations.StatusesEndTheAttempt : Prop :=
  ∀ (s : State) (l : LinkId),
    let x := s.sw.links.get l
    let idle : Link := { x with engine := .idle, page := none, taken := 0, trailerTaken := 0, voided := none }
    (∀ q j, x.engine = .awaiting → x.page = some q → (s.sw.pages.get q).job = some j →
      (let done := s.sw.quietly.completePage q
       exec (.typesetterAccept l) s = .next
        { s with sw := (Switch.engineIdled { done with links := s.sw.links.set l idle } l).easedTest }) ∧
      (j.attempts < s.sw.groups.feed.attemptLimit →
        exec (.typesetterReject l) s = .next
          { s with
            sw :=
              { s.sw with
                pages := s.sw.pages.set q
                  { s.sw.pages.get q with
                    state := .sending, job := some { j with attempts := j.attempts + 1, returned := false } }
                sending := some q
                links := s.sw.links.set l { x with engine := .presenting, taken := 0, progress := s.sw.wall }
                pace :=
                  { s.sw.pace with
                    window := some { start := s.sw.wall, length := s.sw.groups.feed.paceWindow, count := 0 } }
                last := { sent := [], released := false } } }) ∧
      (s.sw.groups.feed.attemptLimit ≤ j.attempts →
        let done := s.sw.quietly.faultPage q .rejected
        exec (.typesetterReject l) s = .next
          { s with sw := (Switch.engineIdled { done with links := s.sw.links.set l idle } l).easedTest })) ∧
    (x.engine ≠ .awaiting →
      exec (.typesetterAccept l) s = .next { s with sw := s.sw.quietly } ∧
        exec (.typesetterReject l) s = .next { s with sw := s.sw.quietly })

/-- A pace window that reaches its length while the active engine is PRESENTING closes with its sample, the pace by the pace mode, a
new window, and the at-risk test of every channel in ascending order; the test posts AT_RISK and sets the flag (R115, R148, R149;
log entry 7). -/
def Obligations.ThePaceWindowCloses : Prop :=
  (∀ (s : State) (w : PaceWindow), s.sw.pace.window = some w →
    (w.length ≤ (s.sw.wall - w.start).toNat → (s.sw.links.get s.sw.active).engine = .presenting →
      let samples := (s.sw.pace.samples ++ [w.count]).drop (s.sw.pace.samples.length + 1 - 4)
      exec .paceWindowClose s = .next
        { s with
          sw :=
            (allBelow 16).foldl Switch.testRisk
              { s.sw with
                pace :=
                  { window := some { start := s.sw.wall, length := s.sw.groups.feed.paceWindow, count := 0 }
                    samples := samples
                    pace := if s.sw.groups.feed.paceMode = .single then w.count else samples.sum / samples.length }
                last := { sent := [], released := false } } }) ∧
    ((s.sw.wall - w.start).toNat < w.length ∨ (s.sw.links.get s.sw.active).engine ≠ .presenting →
      exec .paceWindowClose s = .next { s with sw := s.sw.quietly })) ∧
  (∀ s : State, s.sw.pace.window = none → exec .paceWindowClose s = .next { s with sw := s.sw.quietly }) ∧
  (∀ (s : Switch) (c : ChannelId),
    let x := s.channels.get c
    let length (q : PageId) : Nat := ((s.pages.get q).job.map Job.length).getD 0
    let tested : Prop :=
      (x.state = .quiet ∨ x.state = .warned) ∧ x.atRisk = false ∧ (∃ q ∈ s.groupPages c, q ∈ s.queue) ∧
        s.clock.running = true ∧ s.pace.pace ≠ 0
    (¬tested → s.testRisk c = s) ∧
    (∀ before last after, tested → s.queue = before ++ last :: after → last ∈ s.groupPages c →
      (∀ q ∈ after, q ∉ s.groupPages c) →
        let ahead := (before.map length).sum + length last +
          match s.sending with
          | none => 0
          | some q => length q - (s.links.get s.active).taken
        let predicted := (ahead * s.groups.feed.paceWindow + (s.pace.pace - 1)) / s.pace.pace
        s.testRisk c =
          if x.active < s.clock.ticks + predicted then
            { s with
              channels := s.channels.set c { x with atRisk := true }
              inboxes :=
                (s.post
                  { kind := .atRisk, cls := .bulletin, stamp := s.wall, channel := some c, edition := some s.clock.edition }
                  (s.channelRecipients c)).inboxes }
          else s))

/-- LINKS in the order of R150: the enables with every link to SETTLING, DOWN or OFF, then the active link if it was disabled, then
the home link with its return; the result carries the state and engine of each link and the active link (R135, R138, R139, R145, R147, R150).
That STORE_EASED follows the link and page notices of the event is log entry 13, the model's choice. -/
def Obligations.LinksChangeInTheirOrder : Prop :=
  ∀ (s : State) (h : Head) (a : LinksArgs) (enable : PerLink Bool) (home : LinkId), s.sw.takes h .links →
    LinksArgs.check a = some (enable, home) →
      let old := s.sw.groups.feed.enable
      let l := s.sw.active
      let was := s.sw.links.get l
      let moved (k : LinkId) : Link :=
        let x := s.sw.links.get k
        if old.get k = enable.get k then x
        else if enable.get k = true then
          (if x.ready = true then { x with state := .settling, settleStart := s.sw.wall } else { x with state := .down })
        else { x with state := .off }
      let written : Switch :=
        { s.sw with
          groups := { s.sw.groups with feed := { s.sw.groups.feed with enable := enable } }
          links := ⟨moved .a, moved .b⟩
          last := { sent := [], released := false } }
      let settled : Switch :=
        if old.get l = true ∧ enable.get l = false then
          (if was.engine = .idle then (if was.state = .up then written.failOver l none else written)
          else written.breakOff l .off)
        else written
      let homed := Switch.returnHome { settled with groups := { settled.groups with feed := { settled.groups.feed with home := home } } }
      exec (.links h (some a)) s = .next
        { s with
          sw :=
            Switch.easedTest
              { homed with
                ports := s.sw.creditedPorts h.port
                last :=
                  { homed.last with
                    sent :=
                      [resultFrame h .ok
                        [homed.links.a.state.number, homed.links.a.engine.number, homed.links.b.state.number,
                          homed.links.b.engine.number, LinkId.number homed.active]] } } }

/-! ### Desk ports -/

/-- A good data frame that leaves bytes to come is taken: its bytes go to the upload in order, or are counted while it drains, and
the data window starts again; another frame is discarded; and text handed to an upload stands in its blocks, drawn from the front of
the pool, with no other byte of the store changed (R21, R24, R158, R165). -/
def Obligations.DataFramesFillTheUpload : Prop :=
  (∀ (s : State) (p : PortId) (tag : Byte) (text : List Byte),
    let x := s.sw.ports.get p
    (x.resetLine = true ∨ x.phase ≠ .command ∨ (∀ r, x.running = some r → r.tag ≠ tag) ∧ (x.running = none → tag ≠ 0) →
      exec (.dataFrame p tag text) s = .next { s with sw := s.sw.quietly }) ∧
    (∀ u r, x.resetLine = false → x.phase = .command → x.running = some r → r.tag = tag → s.sw.uploads.get p = some u →
      u.taken + text.length < u.declared →
        (u.mode = .filling →
          let t := s.sw.pushText u text
          exec (.dataFrame p tag text) s = .next
            { s with
              sw :=
                { t.1 with
                  uploads := s.sw.uploads.set p (some t.2)
                  ports := s.sw.ports.set p { x with dataStart := s.sw.wall }
                  last := { sent := [], released := false } } }) ∧
        (u.mode = .draining →
          exec (.dataFrame p tag text) s = .next
            { s with
              sw :=
                { s.sw with
                  uploads := s.sw.uploads.set p (some { u with taken := u.taken + text.length })
                  ports := s.sw.ports.set p { x with dataStart := s.sw.wall }
                  last := { sent := [], released := false } } }))) ∧
  (∀ (s : Switch) (u : Upload) (text : List Byte),
    let total := u.taken + text.length
    let drawn := (total + 511) / 512 - u.staging.length
    s.copyCanonical → u.staging.length = (u.taken + 511) / 512 → (u.staging ++ s.store.freePool).Nodup →
    drawn ≤ s.store.freePool.length →
      let t := s.pushText u text
      t.2 = { u with taken := total, staging := u.staging ++ s.store.freePool.take drawn, remaining := u.remaining - drawn } ∧
      t.1 =
        { s with
          store :=
            { s.store with
              freePool := s.store.freePool.drop drawn
              freeCount := s.store.freeCount - drawn
              reserved := s.store.reserved - drawn
              copy := t.1.store.copy } } ∧
      textSlice t.1.store.copy t.2.staging 0 total = textSlice s.store.copy u.staging 0 u.taken ++ text ∧
      ∀ a, (∀ i, u.taken ≤ i → i < total → a ≠ (t.2.staging[i / 512]?).getD 0 * 512 + i % 512) →
        Memory.read t.1.store.copy a = Memory.read s.store.copy a)

/-- The last declared byte completes a FILE (version 1, FILED through the filters, OK with the handle) or a CHECKIN (a new current
version, its victim retired, the lock kept or let go, CHANGED to the watchers), and ends a drain with LOCK_BROKEN (R8, R25, R48,
R55). That STORE_EASED follows the other notices of the completion is log entry 13, the model's choice. -/
def Obligations.UploadsComplete : Prop :=
  ∀ (s : State) (p : PortId) (text : List Byte) (u : Upload) (r : Running),
    let x := s.sw.ports.get p
    x.resetLine = false → x.phase = .command → x.running = some r → s.sw.uploads.get p = some u →
    u.taken + text.length = u.declared →
      let h : Head := { port := p, tag := r.tag }
      let t := (s.sw.pushText u text).1
      let filled := (s.sw.pushText u text).2
      let closed : Switch :=
        { t with
          uploads := s.sw.uploads.set p none
          ports := s.sw.ports.set p { x.idled with dataStart := s.sw.wall } }
      let version (n : Nat) : Version :=
        { number := n, length := u.declared, chain := filled.staging, pins := 0, stamp := s.sw.wall, author := u.author,
          retiring := false }
      (∀ st, u.mode = .filling → u.kind = .file → s.sw.story u.handle = some st → st.versions = [] → u.victim = none →
        let new := { st with status := .filed, versions := [version 1] }
        exec (.dataFrame p r.tag text) s = .next
          { s with
            sw :=
              ({ closed with
                  slots := (s.sw.setStory u.handle.slot new).slots
                  inboxes := (s.sw.postFiltered .filed u.handle new).inboxes }).replied h .ok
                (be16 u.handle.slot.val ++ [u.handle.gen]) }) ∧
      (∀ st l keep, u.mode = .filling → u.kind = .checkin keep → s.sw.story u.handle = some st → st.status = .opened l →
        let kept := st.versions.filter fun (v : Version) => u.victim != some v.number
        let leaving := st.versions.filter fun (v : Version) => u.victim == some v.number
        let n := newNumber st kept
        let lease := s.sw.groups.store.lease
        let new :=
          { st with
            status := if keep then .opened { l with start := s.sw.wall, length := lease, suspended := false } else .filed
            versions := kept ++ [version n] }
        exec (.dataFrame p r.tag text) s = .next
          { s with
            sw :=
              Switch.easedTest
                { closed with
                  slots := (s.sw.setStory u.handle.slot new).slots
                  inboxes := (s.sw.postChanged u.handle new .newVersion n).inboxes
                  store :=
                    { t.store with
                      freePool := ((leaving.map Version.chain).reverse.flatten) ++ t.store.freePool
                      freeCount := t.store.freeCount + (leaving.map fun v => v.chain.length).sum }
                  ports := closed.creditedPorts p
                  last :=
                    { sent :=
                        [resultFrame h .ok
                          (be16 n ++ if keep then be32 (s.sw.wall + BitVec.ofNat 32 lease).toNat else [])]
                      released := !leaving.isEmpty } } }) ∧
      (u.mode = .draining →
        exec (.dataFrame p r.tag text) s = .next
          { s with
            sw :=
              ({ s.sw with
                  slots := (s.sw.clearMark u).slots
                  uploads := s.sw.uploads.set p none
                  ports := s.sw.ports.set p { x.idled with dataStart := s.sw.wall } }).replied h .lockBroken [] })

/-- A FILE or CHECKIN of length 0 completes in the event that takes it, with no data phase, its reservation of 0 blocks tested all
the same (R7, R8, R32, R49). That STORE_EASED follows the FILED and CHANGED notices is log entry 13, and that the STORE_TIGHT of the reservation
stands before them log entry 49, both the model's. -/
def Obligations.EmptyTextsCompleteAtOnce : Prop :=
  (∀ (s : State) (h : Head) (a : FileArgs) (f : FileParams) (i : SlotId),
    FileArgs.check a = some f → s.sw.takes h .file → (s.sw.ports.get h.port).standing = .active → s.sw.hasRight h.port f.owner →
    (∀ j st, (s.sw.slots.get j).story = some st → st.slug ≠ f.slug) →
    (s.sw.slots.get i).story = none → (∀ j, j < i → (s.sw.slots.get j).story ≠ none) →
    ¬(s.sw.store.tight = true ∧ f.urgency = .routine) → f.length = 0 →
      let k := s.sw.handleAt i
      let t := s.sw.quietly.reserve 0
      let new : Story :=
        { status := .filed, slug := f.slug, owner := f.owner, urgency := f.urgency, category := f.category, route := f.route
          versions :=
            [{ number := 1, length := 0, chain := [], pins := 0, stamp := s.sw.wall,
               author := { port := h.port, number := f.screen }, retiring := false }] }
      exec (.file h (some a)) s = .next
        { s with
          sw :=
            ({ t with
                slots := (s.sw.setStory i new).slots
                uploads := s.sw.uploads.set h.port none
                inboxes := (t.postFiltered .filed k new).inboxes }).replied h .ok (be16 i.val ++ [k.gen]) }) ∧
  (∀ (s : State) (h : Head) (a : CheckinArgs) (c : CheckinParams) (st : Story) (l : Lock),
    CheckinArgs.check a = some c → s.sw.takes h .checkin → s.sw.story c.handle = some st → st.status = .opened l →
    l.holder = { port := h.port, number := c.screen } → ¬(s.sw.store.tight = true ∧ st.urgency = .routine) → c.length = 0 →
      let victim := if st.versions.length = 4 then st.versions.dropLast.find? fun v => v.pins == 0 && !v.retiring else none
      (st.versions.length = 4 → victim ≠ none) →
        let kept := st.versions.filter fun (v : Version) => victim.map Version.number != some v.number
        let leaving := st.versions.filter fun (v : Version) => victim.map Version.number == some v.number
        let n := newNumber st kept
        let t := s.sw.quietly.reserve 0
        let lease := s.sw.groups.store.lease
        let new :=
          { st with
            status := if c.keep then .opened { l with start := s.sw.wall, length := lease, suspended := false } else .filed
            versions := kept ++
              [{ number := n, length := 0, chain := [], pins := 0, stamp := s.sw.wall, author := l.holder, retiring := false }] }
        exec (.checkin h (some a)) s = .next
          { s with
            sw :=
              Switch.easedTest
                { t with
                  slots := (s.sw.setStory c.handle.slot new).slots
                  uploads := s.sw.uploads.set h.port none
                  inboxes := (t.postChanged c.handle new .newVersion n).inboxes
                  store :=
                    { t.store with
                      freePool := ((leaving.map Version.chain).reverse.flatten) ++ t.store.freePool
                      freeCount := t.store.freeCount + (leaving.map fun v => v.chain.length).sum }
                  ports := s.sw.creditedPorts h.port
                  last :=
                    { sent :=
                        [resultFrame h .ok
                          (be16 n ++ if c.keep then be32 (s.sw.wall + BitVec.ofNat 32 lease).toNat else [])]
                      released := !leaving.isEmpty } } })

/-- In RESULT with the hold line down a port sends its next result-data frame, a report's, a version's next 256 bytes or the notice at the head
of the inbox, and goes to IDLE with the last, a READ releasing its pin; else nothing is sent. A notice's frame carries its kind, class, stamp and
presence mask, and then each field present in the order of the mask's bits (R35, R36, R84, R85, R155, R159, R176). The model's choices: an event
that is not due does nothing (log entry 7), and STORE_EASED follows the GONE of a purge that the pin completes (13). -/
def Obligations.ResultDataIsSent : Prop :=
  (∀ (s : State) (p : PortId),
    let x := s.sw.ports.get p
    (x.phase ≠ .result ∨ x.holdLine = true → exec (.resultDataFrameSent p) s = .next { s with sw := s.sw.quietly }) ∧
    (∀ r, x.phase = .result → x.holdLine = false → x.running = some r →
      let after (y : Port) (payload : List Byte) : Switch :=
        { s.sw with
          ports := s.sw.ports.set p y
          last := { sent := [.frame p { kind := 0x04, tag := r.tag, payload := payload }], released := false } }
      (∀ f rest, x.stream = some (.report (f :: rest)) →
        exec (.resultDataFrameSent p) s = .next
          { s with sw := after (if rest = [] then x.idled else { x with stream := some (.report rest) }) f }) ∧
      (∀ owed n rest, x.stream = some (.collect owed) → (s.sw.inboxes.get p).notices = n :: rest →
        exec (.resultDataFrameSent p) s = .next
          { s with
            sw :=
              { after (if owed ≤ 1 then x.idled else { x with stream := some (.collect (owed - 1)) }) n.encode with
                inboxes := s.sw.inboxes.set p { s.sw.inboxes.get p with notices := rest } } }) ∧
      (∀ k n sent st v, x.stream = some (.read k n sent) → s.sw.story k = some st →
        (st.versions.find? fun v => v.number == n) = some v →
          let count := min 256 (v.length - sent)
          let text := textSlice s.sw.store.copy v.chain sent count
          (sent + count < v.length →
            exec (.resultDataFrameSent p) s = .next
              { s with sw := after { x with stream := some (.read k n (sent + count)) } text }) ∧
          (v.length ≤ sent + count →
            exec (.resultDataFrameSent p) s = .next { s with sw := ((after x.idled text).unpin k n).easedTest })))) ∧
  (∀ n : Notice,
    let bit (present : Bool) (k : Nat) : Nat := if present = true then 2 ^ k else 0
    n.encode =
      [n.kind.number, n.cls.number] ++ be32 n.stamp.toNat ++
        be16
          (bit n.handle.isSome 0 + bit n.slug.isSome 1 + bit n.version.isSome 2 + bit n.fromDesk.isSome 3 + bit n.toDesk.isSome 4 +
            bit n.page.isSome 5 + bit n.channel.isSome 6 + bit n.edition.isSome 7 + bit n.reason.isSome 8 + bit n.note.isSome 9 +
            bit n.screens.isSome 10) ++
        (match n.handle with | none => [] | some k => be16 k.slot.val ++ [k.gen]) ++
        (match n.slug with | none => [] | some l => byte l.length :: l) ++
        (match n.version with | none => [] | some v => be16 v) ++
        (match n.fromDesk with | none => [] | some d => [byte d.val]) ++
        (match n.toDesk with | none => [] | some d => [byte d.val]) ++
        (match n.page with | none => [] | some q => [byte q.val]) ++
        (match n.channel with | none => [] | some c => [byte c.val]) ++
        (match n.edition with | none => [] | some e => [byte e]) ++
        (match n.reason with | none => [] | some r => [r.number]) ++
        (match n.note with | none => [] | some b => [b]) ++
        (match n.screens with | none => [] | some l => byte l.length :: l.map fun sc => byte sc.val))

/-- The hold line's rise and fall, the data window that lapses at 16 ticks and the result window that lapses above 40: each lapse
ends its upload or its stream as a counted fault (R9, R26, R50, R55, R158, R159). The model's choices: a lapse that is not due does not happen
(log entry 7), the hold starts with the rise (23), its fall sends no frame itself (50), and STORE_EASED follows the PORT_DETACHED, GONE and lock notices of the event (13). -/
def Obligations.PortWindowsLapse : Prop :=
  (∀ (s : State) (p : PortId),
    let x := s.sw.ports.get p
    let left (y : Port) : Switch := { s.sw with ports := s.sw.ports.set p y, last := { sent := [], released := false } }
    exec (.holdLineRise p) s = .next
      { s with
        sw := left
          { x with
            holdLine := true
            holdStart := if x.phase = .result ∧ x.holdStart = none then some s.sw.wall else x.holdStart } } ∧
    exec (.holdLineFall p) s = .next { s with sw := left { x with holdLine := false, holdStart := none } } ∧
    (x.phase = .command → 16 ≤ (s.sw.wall - x.dataStart).toNat →
      exec (.dataWindowLapse p) s = .next
        { s with sw := (s.sw.quietly.countFault p (Switch.failDataPhase p .dataTimeout)).easedTest }) ∧
    (x.phase ≠ .command ∨ (s.sw.wall - x.dataStart).toNat < 16 →
      exec (.dataWindowLapse p) s = .next { s with sw := s.sw.quietly }) ∧
    (∀ start, x.phase = .result → x.holdStart = some start → 40 < (s.sw.wall - start).toNat →
      exec (.resultWindowLapse p) s = .next
        { s with sw := (s.sw.quietly.countFault p fun t => t.endStream p).easedTest }) ∧
    (x.phase ≠ .result ∨ x.holdStart = none ∨ (∃ start, x.holdStart = some start ∧ (s.sw.wall - start).toNat ≤ 40) →
      exec (.resultWindowLapse p) s = .next { s with sw := s.sw.quietly })) ∧
  (∀ (s : Switch) (p : PortId),
    let x := s.ports.get p
    let idle : Switch := { s with ports := s.ports.set p x.idled }
    (∀ k n sent, x.stream = some (.read k n sent) → s.endStream p = idle.unpin k n) ∧
    ((∀ k n sent, x.stream ≠ some (.read k n sent)) → s.endStream p = idle) ∧
    (∀ u r code, s.uploads.get p = some u → x.running = some r → code ≠ .ok →
      let freed : Switch :=
        { (if u.mode = .filling then
            { s with
              store :=
                { s.store with
                  freePool := u.staging ++ s.store.freePool
                  freeCount := s.store.freeCount + u.staging.length
                  reserved := s.store.reserved - u.remaining }
              last := { s.last with released := true } }
          else s) with
          slots := (s.clearMark u).slots
          uploads := s.uploads.set p none }
      let answered (t : Switch) : Switch :=
        { t with
          ports := s.ports.set p x.idled
          last := { t.last with sent := t.last.sent ++ [resultFrame { port := p, tag := r.tag } code []] } }
      (∀ keep, u.kind = .checkin keep → u.mode = .draining → s.failDataPhase p code = answered freed) ∧
      (∀ st, u.kind = .file → freed.story u.handle = some st →
        s.failDataPhase p code =
          answered
            { freed with
              slots := freed.slots.set u.handle.slot { gen := u.handle.gen + 1, story := none }
              watches := s.watches.filter fun w => w.handle != u.handle
              inboxes :=
                (s.postWatchers u.handle
                  { kind := .gone, cls := st.urgency, stamp := s.wall, handle := some u.handle, slug := some st.slug }).inboxes }) ∧
      (∀ keep st l, u.kind = .checkin keep → u.mode = .filling → freed.story u.handle = some st → st.status = .opened l →
        (l.length ≤ (s.wall - l.start).toNat →
          s.failDataPhase p code = answered (freed.endLock u.handle.slot st l .lockLapsed)) ∧
        ((s.wall - l.start).toNat < l.length →
          s.failDataPhase p code =
            answered
              { freed with
                slots := (freed.setStory u.handle.slot { st with status := .opened { l with suspended := false } }).slots }))))

/-- A frame fault or a gap is unread while the reset line is up, moves a DETACHED port's quiet start, and else is answered
CHECK_ERROR with tag 0 and counted: +8 and the standing, or the detach where that would pass 255; excess data is counted too. ATTACH of a
DETACHED port after its quiet period, and REATTACH of one at any time, clear its fault count and make it ACTIVE; before the quiet period ATTACH
is TOO_SOON, and of a port not DETACHED both are NOT_DETACHED (R158, R160, R161, R163, R164, R165). That STORE_EASED follows the notices of a
detach is log entry 13, the model's choice. -/
def Obligations.FaultsAreCountedAndPortsAttached : Prop :=
  (∀ (s : State) (p : PortId) (i : Instr), i = .frameFault p ∨ i = .frameGapTimeout p →
    let x := s.sw.ports.get p
    (x.resetLine = true → exec i s = .next { s with sw := s.sw.quietly }) ∧
    (x.resetLine = false → x.standing = .detached →
      exec i s = .next
        { s with
          sw :=
            { s.sw with
              ports := s.sw.ports.set p { x with quietStart := s.sw.wall }
              last := { sent := [], released := false } } }) ∧
    (x.resetLine = false → x.standing ≠ .detached →
      (x.faults + 8 ≤ 255 →
        exec i s = .next
          { s with
            sw :=
              { s.sw with
                ports := s.sw.ports.set p
                  { x with faults := x.faults + 8, standing := if 128 ≤ x.faults + 8 then .guarded else .active }
                last :=
                  { sent := [.frame p { kind := 0x03, tag := 0, payload := [Code.byte .checkError] }], released := false } } }) ∧
      (255 < x.faults + 8 → exec i s = .next { s with sw := (s.sw.quietly.detach p).easedTest }))) ∧
  (∀ (s : State) (p : PortId) (text : List Byte) (u : Upload) (r : Running),
    let x := s.sw.ports.get p
    x.resetLine = false → x.phase = .command → x.running = some r → s.sw.uploads.get p = some u →
    u.declared < u.taken + text.length →
      exec (.dataFrame p r.tag text) s = .next
        { s with sw := (s.sw.quietly.countFault p (Switch.failDataPhase p .badParam)).easedTest }) ∧
  (∀ (s : Switch) (p : PortId) (k : Switch → Switch), (s.ports.get p).standing ≠ .detached →
    (255 < (s.ports.get p).faults + 8 → s.countFault p k = s.detach p) ∧
    ((s.ports.get p).faults + 8 ≤ 255 →
      let x := (k s).ports.get p
      x.standing ≠ .detached →
        s.countFault p k =
          { k s with
            ports := (k s).ports.set p
              { x with faults := x.faults + 8, standing := if 128 ≤ x.faults + 8 then .guarded else .active } })) ∧
  (∀ (s : State) (h : Head), s.sw.takes h .attach →
    let x := s.sw.ports.get h.port
    (x.standing = .detached → 16 ≤ (s.sw.wall - x.quietStart).toNat →
      exec (.attach h (some ())) s = .next
        { s with
          sw :=
            { s.sw with
              ports := s.sw.ports.set h.port { x with faults := 0, standing := .active }
              last := { sent := [resultFrame h .ok []], released := false } } }) ∧
    (x.standing = .detached → (s.sw.wall - x.quietStart).toNat < 16 →
      exec (.attach h (some ())) s = .next { s with sw := s.sw.replied h .tooSoon [] }) ∧
    (x.standing ≠ .detached → exec (.attach h (some ())) s = .next { s with sw := s.sw.replied h .notDetached [] })) ∧
  (∀ (s : State) (h : Head) (b : Byte) (p : PortId), s.sw.takes h .reattach → b.toNat = p.val →
    let x := s.sw.ports.get p
    (x.standing = .detached →
      exec (.reattach h (some b)) s = .next
        { s with
          sw := ({ s.sw with ports := s.sw.ports.set p { x with faults := 0, standing := .active } }).replied h .ok [] }) ∧
    (x.standing ≠ .detached → exec (.reattach h (some b)) s = .next { s with sw := s.sw.replied h .notDetached [] }))

/-- A detach abandons the port's command (its upload's blocks, reservation and victim mark given back, a FILING slot VACANT with GONE, a
READ's pin released, a SAVE going on), lets its locks go, removes its watch entries, empties its inbox, ends the offers to its desks and
tells the control ports; a rise of the reset line does all but the last two; a fall lets the port take frames again. Other ports' records
stay (R9, R26, R36, R56, R69, R70, R86, R96, R162, R165, R169). The model's choices: the offers expire in ascending slot order (log entry
36), and STORE_EASED follows the other notices (13). -/
def Obligations.DetachAndPortResetClearThePort : Prop :=
  (∀ (s : Switch) (u : Upload),
    (u.victim = none ∨ s.story u.handle = none → s.clearMark u = s) ∧
    (∀ n st, u.victim = some n → s.story u.handle = some st →
      s.clearMark u =
        { s with
          slots :=
            (s.setStory u.handle.slot
              { st with
                versions := st.versions.map fun (v : Version) => if v.number = n then { v with retiring := false } else v }).slots })) ∧
  (∀ (s : Switch) (p : PortId),
    (s.uploads.get p = none → s.abandonUpload p = s) ∧
    (∀ u, s.uploads.get p = some u →
      let returned : Switch :=
        if u.mode = .filling then
          { s with
            store :=
              { s.store with
                freePool := u.staging ++ s.store.freePool
                freeCount := s.store.freeCount + u.staging.length
                reserved := s.store.reserved - u.remaining }
            last := { s.last with released := true } }
        else s
      let ended : Switch := { returned with slots := (s.clearMark u).slots, uploads := s.uploads.set p none }
      (u.kind ≠ .file ∨ ended.story u.handle = none → s.abandonUpload p = ended) ∧
      (∀ st, u.kind = .file → ended.story u.handle = some st →
        s.abandonUpload p =
          { ended with
            slots := ended.slots.set u.handle.slot { gen := u.handle.gen + 1, story := none }
            watches := s.watches.filter fun w => w.handle != u.handle
            inboxes :=
              (s.postWatchers u.handle
                { kind := .gone, cls := st.urgency, stamp := s.wall, handle := some u.handle, slug := some st.slug }).inboxes })) ∧
    s.abandonCommand p =
      Switch.endStream
        { s.abandonUpload p with
          saving := s.saving.map fun x => if x.port = some p then { x with port := none } else x }
        p) ∧
  (∀ (s : Switch) (i : SlotId) (st : Story) (o : Offer) (reason : Reason),
    (s.slots.get i).story = some st → st.status = .offered o →
      Switch.expireOffer reason s i =
        { s with
          slots := (s.setStory i { st with status := .filed }).slots
          inboxes :=
            (s.post
              { kind := .offerExpired, cls := st.urgency, stamp := s.wall, handle := some (s.handleAt i), slug := some st.slug,
                fromDesk := some st.owner, toDesk := some o.target, reason := some reason }
              (fun q => s.groups.ports.serving.get st.owner == some q || q == o.port)).inboxes }) ∧
  (∀ (s : Switch) (p : PortId),
    let w := s.detach p
    let cleared :=
      Switch.letGo
        (Switch.abandonCommand
          { s with ports := s.ports.set p { s.ports.get p with standing := .detached, quietStart := s.wall } } p)
        p
    let emptied : Switch := { cleared with inboxes := cleared.inboxes.set p { notices := [], lost := 0 } }
    let offers := emptied.slots.indices fun x =>
      match x.story.map Story.status with
      | some (.offered o) => s.groups.ports.serving.get o.target == some p
      | _ => false
    let expired := offers.foldl (Switch.expireOffer .portDetached) emptied
    w =
      { expired with
        inboxes :=
          (expired.postControl
            { kind := .portDetached, cls := .bulletin, stamp := s.wall, note := some (byte p.val) }).inboxes } ∧
    s.ClearedFrom w p ∧
    w.ports.get p = { (s.ports.get p).idled with standing := .detached, quietStart := s.wall } ∧
    (∀ i st o, (w.slots.get i).story = some st → st.status = .offered o → s.groups.ports.serving.get o.target ≠ some p) ∧
    ∀ k, k ≠ p → s.groups.ports.privilege.get k = .control → (s.ports.get k).standing ≠ .detached →
      w.inboxes.get k =
        (expired.inboxes.get k).place
          { kind := .portDetached, cls := .bulletin, stamp := s.wall, note := some (byte p.val) }) ∧
  (∀ (s : State) (p : PortId),
    let eased :=
      Switch.easedTest
        (Switch.letGo
          (Switch.abandonCommand
            { s.sw with
              ports := s.sw.ports.set p { s.sw.ports.get p with resetLine := true }
              last := { sent := [], released := false } }
            p)
          p)
    let w : Switch := { eased with inboxes := eased.inboxes.set p { notices := [], lost := 0 } }
    exec (.portResetLineRise p) s = .next { s with sw := w } ∧ s.sw.ClearedFrom w p ∧
    w.ports.get p = { (s.sw.ports.get p).idled with resetLine := true } ∧
    (∀ i st o, (s.sw.slots.get i).story = some st → st.status = .offered o →
      (∀ u, s.sw.uploads.get p = some u → u.kind = .file → u.handle.slot ≠ i) →
        (w.slots.get i).story.map Story.status = some (.offered o)) ∧
    w.last.sent = []) ∧
  (∀ (s : State) (p : PortId),
    exec (.portResetLineFall p) s = .next
      { s with
        sw :=
          { s.sw with
            ports := s.sw.ports.set p { s.sw.ports.get p with resetLine := false }
            last := { sent := [], released := false } } })

/-! ### Settings and start-up -/

/-- SETTINGS replaces the fields it writes, LAST_CONTROL where no port would be CONTROL; HOLD and UNHOLD set and clear the flags of the groups
named; SAVE begins a write that holds its port, and the write's end makes a good image, its check word the CRC-32 of the groups' fields with no
count among them, and sends the OK (R167, R168, R169, R170, R178). The model's choices: a write's end with no write going on does nothing (log
entry 7), there is no image while a SAVE is written (25), a write without its port still makes a SAVE BUSY (48), the fields' widths are R175's
(24) and an undefined page has its "defined" byte alone (46). -/
def Obligations.SettingsHoldsAndSavesAct : Prop :=
  (∀ (s : State) (h : Head) (a : SettingsArgs) (m : SettingsParams), s.sw.takes h .settings → SettingsArgs.check a = some m →
    let written (g : Groups) : Host.Outcome State Fault Refusal :=
      .next { s with sw := ({ s.sw with groups := g }).replied h .ok [] }
    match m with
    | .ports g =>
      ((∃ p, g.privilege.get p = .control) → exec (.settings h (some a)) s = written { s.sw.groups with ports := g }) ∧
      ((∀ p, g.privilege.get p = .desk) → exec (.settings h (some a)) s = .next { s with sw := s.sw.replied h .lastControl [] })
    | .feed stall settle attempts window mode =>
      exec (.settings h (some a)) s =
        written
          { s.sw.groups with
            feed :=
              { enable := s.sw.groups.feed.enable, home := s.sw.groups.feed.home, stallWindow := stall, settlePeriod := settle,
                attemptLimit := attempts, paceWindow := window, paceMode := mode } }
    | .store g => exec (.settings h (some a)) s = written { s.sw.groups with store := g }) ∧
  (∀ (s : State) (h : Head) (b : Byte), 0 < b.toNat → b.toNat < 32 →
    let x := s.sw.holds
    (s.sw.takes h .hold →
      exec (.hold h (some b)) s = .next
        { s with
          sw :=
            ({ s.sw with
                holds :=
                  { ports := x.ports || b.getLsbD 0, routing := x.routing || b.getLsbD 1, clock := x.clock || b.getLsbD 2,
                    feed := x.feed || b.getLsbD 3, store := x.store || b.getLsbD 4 } }).replied h .ok [] }) ∧
    (s.sw.takes h .unhold →
      exec (.unhold h (some b)) s = .next
        { s with
          sw :=
            ({ s.sw with
                holds :=
                  { ports := x.ports && !b.getLsbD 0, routing := x.routing && !b.getLsbD 1, clock := x.clock && !b.getLsbD 2,
                    feed := x.feed && !b.getLsbD 3, store := x.store && !b.getLsbD 4 } }).replied h .ok [] })) ∧
  (∀ (s : State) (h : Head), s.sw.takes h .save →
    (s.sw.saving = none →
      exec (.save h (some ())) s = .next
        { s with
          sw :=
            { s.sw with
              saving := some { copy := s.sw.groups, port := some h.port }
              image := none
              ports := s.sw.ports.set h.port
                { s.sw.ports.get h.port with phase := .executing, running := some { tag := h.tag, cmd := .save } }
              last := { sent := [], released := false } } }) ∧
    (s.sw.saving ≠ none → exec (.save h (some ())) s = .next { s with sw := s.sw.replied h .busy [] })) ∧
  (∀ (s : State) (x : Saving), s.sw.saving = some x →
    let ended : Switch :=
      { s.sw with
        saving := none
        image := some { contents := x.copy, check := crc32 x.copy.fields }
        last := { sent := [], released := false } }
    (x.port = none → exec .saveWriteEnd s = .next { s with sw := ended }) ∧
    (∀ p r, x.port = some p → (s.sw.ports.get p).running = some r →
      exec .saveWriteEnd s = .next
        { s with
          sw :=
            ({ ended with ports := s.sw.ports.set p (s.sw.ports.get p).idled }).replied { port := p, tag := r.tag } .ok [] })) ∧
  (∀ s : State, s.sw.saving = none → exec .saveWriteEnd s = .next { s with sw := s.sw.quietly }) ∧
  (∀ g : Groups,
    g.fields =
      g.ports.privilege.cells.map Privilege.number ++
        (g.ports.serving.cells.map fun x =>
          match x with
          | none => 0xFF
          | some p => byte p.val) ++
        g.ports.label.cells.flatten ++
        (g.routing.filters.cells.map fun f =>
          [yesNo f.enabled, byte f.mask.val, byte f.desk.val, f.urgency.number] ++ be16 f.category ++
            [byte f.destinations.toNat]).flatten ++
        (g.routing.masks.cells.map fun m => [yesNo m.compareDesk, yesNo m.compareUrgency, byte m.categoryBits]).flatten ++
        be16 g.clock.editionLength ++
        (g.clock.channels.cells.map fun c =>
          be16 c.deadline ++ [c.bufferMode.number] ++ be16 c.warnLead ++ [c.releaseMode.number] ++ be16 c.lateInterval ++
            [byte c.lateDivisor]).flatten ++
        (g.clock.pages.cells.map fun x =>
          match x with
          | none => [0]
          | some d =>
            [1, d.label.letter, byte d.label.number, byte d.owner.val,
              match d.binding with
              | none => 0xFF
              | some c => byte c.val]).flatten ++
        [yesNo g.feed.enable.a, yesNo g.feed.enable.b, LinkId.number g.feed.home, byte g.feed.stallWindow, byte g.feed.settlePeriod,
          byte g.feed.attemptLimit, byte g.feed.paceWindow, g.feed.paceMode.number] ++
        be16 g.store.low ++ be16 g.store.high ++ be16 g.store.lease ++ be16 g.store.offerWindow)

/-- RESTART answers OK and begins a restart, as a rise of the reset line does with its own cause: the free pool with every staging and
purged chain back in it, the channels kept, and every other record as its chapter says; power-on takes every record to its power-on value,
with an image whose write was cut short lost (R20, R22, R38, R57, R73, R86, R92, R98, R104, R133, R153, R154, R169, R171). The model's
choices: the values before the first load and the counts and ticks with none (log entries 2, 4 and 5), the unwritten bytes of the blocks (6),
the lost image (25), and what the input lines and the model's own fields do (3, 26, 31 and 40). -/
def Obligations.StartUpBegins : Prop :=
  (∀ (s : State) (h : Head), s.sw.takes h .restart →
    ∃ w, exec (.restart h (some ())) s = .next { s with sw := w } ∧ s.sw.RestartedFrom w .restartCommand ∧
      w.last = { sent := [resultFrame h .ok []], released := false }) ∧
  (∀ s : State, ∃ w, exec .resetLineRise s = .next { s with sw := w } ∧ s.sw.RestartedFrom w .resetLine ∧
      w.last = { sent := [], released := false }) ∧
  (∀ s : State,
    exec .powerOn s = .next
      { s with
        sw :=
          { State.reset.sw with
            ports := s.sw.ports.map fun x => { State.reset.sw.ports.get 0 with holdLine := x.holdLine, resetLine := x.resetLine }
            links := s.sw.links.map fun x => { State.reset.sw.links.a with ready := x.ready }
            image := if s.sw.saving = none then s.sw.image else none
            free := s.sw.free } })

/-- The end of start-up loads the image when its check passes, else the factory defaults with the DEFAULTED flag, sparing the held
groups; the clock, the channels, the pages, the tight condition and the links take up what was loaded; a restart's inboxes are empty before
STORE_TIGHT is posted, so it is the first notice at the control ports (the emptying at this end is the model's deduction, log entry 42);
a channel keeps its state, late count, next late tick and at-risk flag, but that a moved deadline clears the flag and a group that becomes done
clears the channel; while no start-up runs it does not happen (R38, R77, R78, R82, R86, R98, R104, R107, R111, R133, R135, R136, R153, R172; log entries 7, 10, 15,
16, 24, 42 and 46). That the clock stands stopped while start-up runs is part of the invariant of StepsKeepTheSettingsInRange. -/
def Obligations.StartUpEnds : Prop :=
  (∀ s : State, s.sw.starting = true → s.sw.clock.running = false →
    ∃ w, exec .startUpEnd s = .next { s with sw := w } ∧ w.starting = false ∧
      w.defaulted = s.sw.loaded.isNone ∧
      (let source := s.sw.loaded.getD Groups.factory
       let held := s.sw.holds
       w.groups =
        { ports := if held.ports then s.sw.groups.ports else source.ports
          routing := if held.routing then s.sw.groups.routing else source.routing
          clock := if held.clock then s.sw.groups.clock else source.clock
          feed := if held.feed then s.sw.groups.feed else source.feed
          store := if held.store then s.sw.groups.store else source.store }) ∧
      w.clock =
        { s.sw.clock with
          activeLength :=
            if s.sw.clock.ticks < w.groups.clock.editionLength then w.groups.clock.editionLength
            else s.sw.clock.activeLength } ∧
      (∀ c, w.channels.get c =
        let x := s.sw.channels.get c
        let d := (w.groups.clock.channels.get c).deadline
        let y := if x.active = d then x else { x with active := d, atRisk := false, warningDue := false }
        if s.sw.groupDone c = false ∧ w.groupDone c = true ∧ y.state ≠ .cleared then { y with state := .cleared, nextLate := none }
        else y) ∧
      (∀ q, w.pages.get q =
        if s.sw.groups.clock.pages.get q ≠ none ∧ w.groups.clock.pages.get q ≠ none then s.sw.pages.get q
        else { state := .making, lastSent := 0, layout := [], job := none }) ∧
      w.store = { s.sw.store with tight := decide (s.sw.store.freeCount - s.sw.store.reserved < w.groups.store.low) } ∧
      (∀ p,
        let box : Inbox := if s.sw.cause = .powerOn then s.sw.inboxes.get p else { notices := [], lost := 0 }
        let n : Notice := { kind := .storeTight, cls := .bulletin, stamp := s.sw.wall }
        let posted : Prop :=
          s.sw.store.freeCount - s.sw.store.reserved < w.groups.store.low ∧ w.groups.ports.privilege.get p = .control ∧
            (s.sw.ports.get p).standing ≠ .detached
        (¬posted → w.inboxes.get p = box) ∧
        (posted → w.inboxes.get p = box.place n) ∧
        (posted → s.sw.cause ≠ .powerOn → w.inboxes.get p = { notices := [n], lost := 0 })) ∧
      w.active = w.groups.feed.home ∧ w.pace = { window := none, samples := [], pace := 0 } ∧
      (∀ l, w.links.get l =
        let x := s.sw.links.get l
        if w.groups.feed.enable.get l = false then { x with state := .off }
        else if x.ready = true then { x with state := .settling, settleStart := s.sw.wall }
        else { x with state := .down }) ∧
      w.wall = s.sw.wall ∧ w.slots = s.sw.slots ∧ w.watches = s.sw.watches ∧ w.uploads = s.sw.uploads ∧ w.queue = s.sw.queue ∧
      w.sending = s.sw.sending ∧ w.ports = s.sw.ports ∧ w.holds = s.sw.holds ∧ w.image = s.sw.image ∧
      w.saving = s.sw.saving ∧ w.cause = s.sw.cause ∧ w.releases = s.sw.releases ∧ w.free = s.sw.free ∧
      w.last = { sent := [], released := false }) ∧
  (∀ s : State, s.sw.starting = false → exec .startUpEnd s = .next { s with sw := s.sw.quietly })

/-! ### The whole machine -/

/-- A refused command, one with an unknown code or with none among them, sends its code alone and changes nothing (R118, R155, R156,
R175). -/
def Obligations.RefusedCommandsChangeNothing : Prop :=
  ∀ (i : Instr) (h : Head) (c : Option Cmd) (s t : State) (code : Code) (values : List Byte),
    anyCommandRow i = some (h, c) → exec i s = .next t → code ≠ .ok → resultFrame h code values ∈ t.sw.last.sent →
      t = { s with sw := s.sw.replied h code [] }

/-- A frame that crosses the wire is received as it was sent, its start byte and its stuffing and check with it; and the frame of a well-formed
row spells that row; the result codes and the command codes are the places in their tables (R174, R175). Left out, as no well-formed row is one:
a TURN that names edition 255, whose byte reads as "current" (log entry 21), and a payload of the wrong layout (log entry 12). -/
def Obligations.FramesRoundTrip : Prop :=
  (∀ f : Frame, f.payload.length ≤ 256 → Frame.receive f.wire = some f ∧ 0xA5 ∉ f.wire.tail) ∧
  (∀ (i : Instr) (p : PortId) (f : Frame), i.wf = true → frameOf i = some (p, f) →
    f.payload.length ≤ 256 ∧ f.event p = i ∧ wireEvent p f.wire = i) ∧
  (∀ c : Code, resultCodes[c.byte.toNat]? = some c) ∧
  (∀ c : Cmd, 1 ≤ (Cmd.code c).toNat ∧ catalogue[(Cmd.code c).toNat - 1]? = some c)

/-- The model's invariants hold at reset. -/
def Obligations.ResetMeetsTheInvariants : Prop :=
  let s := State.reset.sw
  s.copyCanonical ∧ s.inboxesOrdered ∧ s.settingsInRange ∧ s.standingsFollow ∧ s.StoreInOrder ∧ s.QueueInOrder ∧ s.PinsAgree ∧
    s.watchesInOrder

/-- Every step keeps the copy store's bytes in canonical form. -/
def Obligations.StepsKeepTheCopyCanonical : Prop :=
  ∀ s t : State, s.sw.copyCanonical → step s = .next t → t.sw.copyCanonical

/-- Every step keeps every inbox within 48 notices in descending class order and its lost count within 255 (R77, R78, R80, R81). -/
def Obligations.StepsKeepTheInboxesOrdered : Prop :=
  ∀ s t : State, s.sw.inboxesOrdered → step s = .next t → t.sw.inboxesOrdered

/-- Every step keeps every settings field in its range, some port CONTROL, page labels unique, low-water below high-water, and the
clock inside its edition and stopped while start-up runs (R98, R99, R103, R104, R117, R167, R168, R171, R178). -/
def Obligations.StepsKeepTheSettingsInRange : Prop :=
  ∀ s t : State, s.sw.settingsInRange → step s = .next t → t.sw.settingsInRange

/-- Every step keeps every fault count within 255 and every standing as its count says, or DETACHED (R161). -/
def Obligations.StepsKeepTheStandings : Prop :=
  ∀ s t : State, s.sw.standingsFollow → step s = .next t → t.sw.standingsFollow

/-- Every step keeps the accounts of the store: each of the 8,192 blocks in one of its three places and in no other, the free-pool count
the blocks of the pool, the outstanding reservation the sum of the remaining reservations and at most the free-pool count; each version list at
1 to 4 versions (none while FILING), numbered 1 to 65,535 with no number twice, each chain as long as its text needs; each upload record in
accord with its port and its story; and a port whose SAVE is written in EXECUTING (R7, R21, R22, R24, R27, R28, R46, R155, R169). -/
def Obligations.StepsKeepTheStoreInOrder : Prop :=
  ∀ s t : State, s.sw.StoreInOrder → step s = .next t → t.sw.StoreInOrder

/-- Every step keeps the release queue in order: the QUEUED pages, each once, in the order of R125, with the SENDING page at most 32
places; a job exactly while a page is QUEUED or SENDING, of at most 16 entries; at most 16 placements on a layout; an undefined record empty;
the SENDING page in flight on the active link, whose engine alone may be busy; a disabled link OFF; and while start-up runs the queue empty,
the clock stopped and both links OFF (R98, R117, R124, R125, R135, R137, R153, R171). -/
def Obligations.StepsKeepTheQueueInOrder : Prop :=
  ∀ s t : State, s.sw.QueueInOrder → step s = .next t → t.sw.QueueInOrder

/-- Every step from a state whose store and queue are in order keeps the pins in accord with what holds them: each pin count the number
of snapshot entries of QUEUED and SENDING pages and of READ streams on the version, which stands on its list; a marked version unpinned and
not current; a pending purge waiting for a pin; an upload's victim a marked version that no other upload names. And in such states no count
is above 518 (R16, R19, R26, R29, R31). -/
def Obligations.StepsKeepThePinsInAccord : Prop :=
  (∀ s t : State, s.sw.StoreInOrder → s.sw.QueueInOrder → s.sw.PinsAgree → step s = .next t → t.sw.PinsAgree) ∧
  (∀ s : Switch, s.QueueInOrder → s.PinsAgree →
    ∀ i st v, (s.slots.get i).story = some st → v ∈ st.versions → v.pins ≤ 518)

/-- Every step keeps the watch table at 512 entries at most, no two the same, each naming a story and a port that is not DETACHED (R92). -/
def Obligations.StepsKeepTheWatchesInOrder : Prop :=
  ∀ s t : State, s.sw.watchesInOrder → step s = .next t → t.sw.watchesInOrder
end

