-- ==== Sys2Proof/Laws/Bank.lean ====
section
/-! SUPPORT. What the operations of Machine/Bank.lean do, read through `get`. -/

namespace Sys2Proof.Machine

theorem Bank.ext_get {b c : Bank n α} (h : ∀ i, b.get i = c.get i) : b = c := by
  obtain ⟨x, hx⟩ := b
  obtain ⟨y, hy⟩ := c
  have : x = y := by
    apply List.ext_getElem (by rw [hx, hy])
    intro i h1 h2
    exact h ⟨i, by omega⟩
  subst this
  rfl

@[simp] theorem Bank.get_replicate (a : α) (i : Fin n) : (Bank.replicate n a).get i = a := by
  simp [Bank.get, Bank.replicate]

@[simp] theorem Bank.get_set_same (b : Bank n α) (i : Fin n) (a : α) : (b.set i a).get i = a := by
  simp [Bank.get, Bank.set]

theorem Bank.get_set_ne (b : Bank n α) (a : α) {i j : Fin n} (h : i ≠ j) : (b.set i a).get j = b.get j := by
  have : i.val ≠ j.val := fun e => h (Fin.ext e)
  simp [Bank.get, Bank.set, this]

theorem Bank.get_set (b : Bank n α) (i j : Fin n) (a : α) : (b.set i a).get j = if i = j then a else b.get j := by
  by_cases h : i = j
  · subst h; simp
  · simp [h, Bank.get_set_ne b a h]

@[simp] theorem Bank.set_get (b : Bank n α) (i : Fin n) : b.set i (b.get i) = b :=
  Bank.ext_get fun j => by rw [Bank.get_set]; split <;> simp_all

@[simp] theorem Bank.set_set (b : Bank n α) (i : Fin n) (a c : α) : (b.set i a).set i c = b.set i c :=
  Bank.ext_get fun j => by simp only [Bank.get_set]; split <;> rfl

@[simp] theorem Bank.get_modify_same (b : Bank n α) (i : Fin n) (f : α → α) : (b.modify i f).get i = f (b.get i) := by
  simp [Bank.modify]

@[simp] theorem Bank.get_map (f : α → β) (b : Bank n α) (i : Fin n) : (b.map f).get i = f (b.get i) := by
  simp [Bank.get, Bank.map]

theorem mapFrom_getElem (f : Fin n → α → β) :
    ∀ (k : Nat) (l : List α) (h : k + l.length = n) (i : Nat) (hi : i < l.length),
      (mapFrom n f k l h)[i]'(by rw [length_mapFrom]; exact hi) = f ⟨k + i, by omega⟩ l[i]
  | _, [], _, i, hi => absurd hi (Nat.not_lt_zero i)
  | k, a :: l, h, 0, hi => by simp [mapFrom]
  | k, a :: l, h, i + 1, hi => by
    have hi' : i < l.length := by simpa using hi
    have := mapFrom_getElem f (k + 1) l (by simp only [List.length_cons] at h; omega) i hi'
    simp only [mapFrom, List.getElem_cons_succ, this]
    congr 1
    exact Fin.ext (by simp; omega)

@[simp] theorem Bank.get_mapIdx (f : Fin n → α → β) (b : Bank n α) (i : Fin n) : (b.mapIdx f).get i = f i (b.get i) := by
  unfold Bank.get Bank.mapIdx
  have := mapFrom_getElem f 0 b.cells (by simp [b.size]) i.val (by rw [b.size]; exact i.isLt)
  simpa using this

theorem indicesFrom_mem (p : α → Bool) :
    ∀ (k : Nat) (l : List α) (x : Nat), x ∈ indicesFrom p k l ↔ ∃ i, ∃ h : i < l.length, x = k + i ∧ p l[i] = true
  | k, [], x => by simp [indicesFrom]
  | k, a :: l, x => by
    have ih := indicesFrom_mem p (k + 1) l x
    constructor
    · intro h
      by_cases hp : p a = true
      · simp only [indicesFrom, hp, if_true, List.mem_cons] at h
        rcases h with h | h
        · exact ⟨0, by simp, by simpa using h, by simpa using hp⟩
        · obtain ⟨i, hi, e, q⟩ := ih.1 h
          exact ⟨i + 1, by simpa using hi, by omega, by simpa using q⟩
      · simp only [indicesFrom, hp] at h
        obtain ⟨i, hi, e, q⟩ := ih.1 (by simpa using h)
        exact ⟨i + 1, by simpa using hi, by omega, by simpa using q⟩
    · rintro ⟨i, hi, e, q⟩
      cases i with
      | zero => simp only [List.getElem_cons_zero] at q; simp [indicesFrom, q, e]
      | succ i =>
        have : x ∈ indicesFrom p (k + 1) l := ih.2 ⟨i, by simpa using hi, by omega, by simpa using q⟩
        by_cases hp : p a = true <;> simp [indicesFrom, hp, this]

/-- The indices of a bank are those whose thing satisfies p. -/
theorem Bank.mem_indices (p : α → Bool) (b : Bank n α) (i : Fin n) : i ∈ b.indices p ↔ p (b.get i) = true := by
  unfold Bank.indices Bank.get
  constructor
  · intro h
    obtain ⟨x, hx, e⟩ := List.mem_filterMap.1 h
    obtain ⟨j, hj, rfl, q⟩ := (indicesFrom_mem p 0 b.cells x).1 hx
    simp only [finOf?, Nat.zero_add] at e
    split at e
    · cases e; exact q
    · cases e
  · intro h
    refine List.mem_filterMap.2 ⟨i.val, (indicesFrom_mem p 0 b.cells _).2 ⟨i.val, by rw [b.size]; exact i.isLt, by simp, h⟩, ?_⟩
    simp [finOf?]

theorem mem_allBelow (i : Fin n) : i ∈ allBelow n := by
  refine List.mem_filterMap.2 ⟨i.val, List.mem_range.2 i.isLt, ?_⟩
  simp [finOf?]

@[simp] theorem PerLink.get_set_same (x : PerLink α) (l : LinkId) (v : α) : (x.set l v).get l = v := by cases l <;> rfl

@[simp] theorem PerLink.get_set_other (x : PerLink α) (l : LinkId) (v : α) : (x.set l v).get l.other = x.get l.other := by
  cases l <;> rfl

theorem PerLink.get_set (x : PerLink α) (l m : LinkId) (v : α) : (x.set l v).get m = if l = m then v else x.get m := by
  cases l <;> cases m <;> rfl

@[simp] theorem PerLink.set_set (x : PerLink α) (l : LinkId) (v w : α) : (x.set l v).set l w = x.set l w := by cases l <;> rfl

@[simp] theorem PerLink.set_get (x : PerLink α) (l : LinkId) : x.set l (x.get l) = x := by cases l <;> rfl

@[simp] theorem PerLink.get_map (f : α → β) (x : PerLink α) (l : LinkId) : (x.map f).get l = f (x.get l) := by cases l <;> rfl

end Sys2Proof.Machine
end

