-- ==== Sys2Proof/Laws/State.lean ====
section
/-! SUPPORT. For every update of the switch, each field after it: the one the update changes, and all others as they were. Each theorem states its equations together, and simp uses them one by one. -/

namespace Sys2Proof.Machine.Switch

@[simp] theorem setPort_fields (s : Switch) (p : PortId) (x : Port) :
    (s.setPort p x).wall = s.wall ∧ (s.setPort p x).clock = s.clock ∧ (s.setPort p x).channels = s.channels ∧
    (s.setPort p x).slots = s.slots ∧ (s.setPort p x).watches = s.watches ∧ (s.setPort p x).inboxes = s.inboxes ∧
    (s.setPort p x).store = s.store ∧ (s.setPort p x).uploads = s.uploads ∧ (s.setPort p x).pages = s.pages ∧
    (s.setPort p x).queue = s.queue ∧ (s.setPort p x).sending = s.sending ∧ (s.setPort p x).releases = s.releases ∧
    (s.setPort p x).links = s.links ∧ (s.setPort p x).active = s.active ∧ (s.setPort p x).pace = s.pace ∧
    (s.setPort p x).ports = s.ports.set p x ∧ (s.setPort p x).groups = s.groups ∧ (s.setPort p x).holds = s.holds ∧
    (s.setPort p x).image = s.image ∧ (s.setPort p x).saving = s.saving ∧ (s.setPort p x).starting = s.starting ∧
    (s.setPort p x).cause = s.cause ∧ (s.setPort p x).defaulted = s.defaulted ∧ (s.setPort p x).last = s.last ∧
    (s.setPort p x).free = s.free :=
  ⟨rfl, rfl, rfl, rfl, rfl, rfl, rfl, rfl, rfl, rfl, rfl, rfl, rfl, rfl, rfl, rfl, rfl, rfl, rfl, rfl, rfl, rfl, rfl, rfl, rfl⟩

@[simp] theorem setSlot_fields (s : Switch) (i : SlotId) (x : Slot) :
    (s.setSlot i x).wall = s.wall ∧ (s.setSlot i x).clock = s.clock ∧ (s.setSlot i x).channels = s.channels ∧
    (s.setSlot i x).slots = s.slots.set i x ∧ (s.setSlot i x).watches = s.watches ∧
    (s.setSlot i x).inboxes = s.inboxes ∧ (s.setSlot i x).store = s.store ∧ (s.setSlot i x).uploads = s.uploads ∧
    (s.setSlot i x).pages = s.pages ∧ (s.setSlot i x).queue = s.queue ∧ (s.setSlot i x).sending = s.sending ∧
    (s.setSlot i x).releases = s.releases ∧ (s.setSlot i x).links = s.links ∧ (s.setSlot i x).active = s.active ∧
    (s.setSlot i x).pace = s.pace ∧ (s.setSlot i x).ports = s.ports ∧ (s.setSlot i x).groups = s.groups ∧
    (s.setSlot i x).holds = s.holds ∧ (s.setSlot i x).image = s.image ∧ (s.setSlot i x).saving = s.saving ∧
    (s.setSlot i x).starting = s.starting ∧ (s.setSlot i x).cause = s.cause ∧
    (s.setSlot i x).defaulted = s.defaulted ∧ (s.setSlot i x).last = s.last ∧ (s.setSlot i x).free = s.free :=
  ⟨rfl, rfl, rfl, rfl, rfl, rfl, rfl, rfl, rfl, rfl, rfl, rfl, rfl, rfl, rfl, rfl, rfl, rfl, rfl, rfl, rfl, rfl, rfl, rfl, rfl⟩

@[simp] theorem setStory_fields (s : Switch) (i : SlotId) (st : Story) :
    (s.setStory i st).wall = s.wall ∧ (s.setStory i st).clock = s.clock ∧ (s.setStory i st).channels = s.channels ∧
    (s.setStory i st).slots = s.slots.set i { s.slots.get i with story := some st } ∧
    (s.setStory i st).watches = s.watches ∧ (s.setStory i st).inboxes = s.inboxes ∧
    (s.setStory i st).store = s.store ∧ (s.setStory i st).uploads = s.uploads ∧ (s.setStory i st).pages = s.pages ∧
    (s.setStory i st).queue = s.queue ∧ (s.setStory i st).sending = s.sending ∧
    (s.setStory i st).releases = s.releases ∧ (s.setStory i st).links = s.links ∧
    (s.setStory i st).active = s.active ∧ (s.setStory i st).pace = s.pace ∧ (s.setStory i st).ports = s.ports ∧
    (s.setStory i st).groups = s.groups ∧ (s.setStory i st).holds = s.holds ∧ (s.setStory i st).image = s.image ∧
    (s.setStory i st).saving = s.saving ∧ (s.setStory i st).starting = s.starting ∧
    (s.setStory i st).cause = s.cause ∧ (s.setStory i st).defaulted = s.defaulted ∧ (s.setStory i st).last = s.last ∧
    (s.setStory i st).free = s.free :=
  ⟨rfl, rfl, rfl, rfl, rfl, rfl, rfl, rfl, rfl, rfl, rfl, rfl, rfl, rfl, rfl, rfl, rfl, rfl, rfl, rfl, rfl, rfl, rfl, rfl, rfl⟩

@[simp] theorem vacate_fields (s : Switch) (i : SlotId) :
    (s.vacate i).wall = s.wall ∧ (s.vacate i).clock = s.clock ∧ (s.vacate i).channels = s.channels ∧
    (s.vacate i).slots = s.slots.set i { gen := (s.slots.get i).gen + 1, story := none } ∧
    (s.vacate i).watches = s.watches ∧ (s.vacate i).inboxes = s.inboxes ∧ (s.vacate i).store = s.store ∧
    (s.vacate i).uploads = s.uploads ∧ (s.vacate i).pages = s.pages ∧ (s.vacate i).queue = s.queue ∧
    (s.vacate i).sending = s.sending ∧ (s.vacate i).releases = s.releases ∧ (s.vacate i).links = s.links ∧
    (s.vacate i).active = s.active ∧ (s.vacate i).pace = s.pace ∧ (s.vacate i).ports = s.ports ∧
    (s.vacate i).groups = s.groups ∧ (s.vacate i).holds = s.holds ∧ (s.vacate i).image = s.image ∧
    (s.vacate i).saving = s.saving ∧ (s.vacate i).starting = s.starting ∧ (s.vacate i).cause = s.cause ∧
    (s.vacate i).defaulted = s.defaulted ∧ (s.vacate i).last = s.last ∧ (s.vacate i).free = s.free :=
  ⟨rfl, rfl, rfl, rfl, rfl, rfl, rfl, rfl, rfl, rfl, rfl, rfl, rfl, rfl, rfl, rfl, rfl, rfl, rfl, rfl, rfl, rfl, rfl, rfl, rfl⟩

@[simp] theorem setPage_fields (s : Switch) (q : PageId) (x : Page) :
    (s.setPage q x).wall = s.wall ∧ (s.setPage q x).clock = s.clock ∧ (s.setPage q x).channels = s.channels ∧
    (s.setPage q x).slots = s.slots ∧ (s.setPage q x).watches = s.watches ∧ (s.setPage q x).inboxes = s.inboxes ∧
    (s.setPage q x).store = s.store ∧ (s.setPage q x).uploads = s.uploads ∧ (s.setPage q x).pages = s.pages.set q x ∧
    (s.setPage q x).queue = s.queue ∧ (s.setPage q x).sending = s.sending ∧ (s.setPage q x).releases = s.releases ∧
    (s.setPage q x).links = s.links ∧ (s.setPage q x).active = s.active ∧ (s.setPage q x).pace = s.pace ∧
    (s.setPage q x).ports = s.ports ∧ (s.setPage q x).groups = s.groups ∧ (s.setPage q x).holds = s.holds ∧
    (s.setPage q x).image = s.image ∧ (s.setPage q x).saving = s.saving ∧ (s.setPage q x).starting = s.starting ∧
    (s.setPage q x).cause = s.cause ∧ (s.setPage q x).defaulted = s.defaulted ∧ (s.setPage q x).last = s.last ∧
    (s.setPage q x).free = s.free :=
  ⟨rfl, rfl, rfl, rfl, rfl, rfl, rfl, rfl, rfl, rfl, rfl, rfl, rfl, rfl, rfl, rfl, rfl, rfl, rfl, rfl, rfl, rfl, rfl, rfl, rfl⟩

@[simp] theorem setLink_fields (s : Switch) (l : LinkId) (x : Link) :
    (s.setLink l x).wall = s.wall ∧ (s.setLink l x).clock = s.clock ∧ (s.setLink l x).channels = s.channels ∧
    (s.setLink l x).slots = s.slots ∧ (s.setLink l x).watches = s.watches ∧ (s.setLink l x).inboxes = s.inboxes ∧
    (s.setLink l x).store = s.store ∧ (s.setLink l x).uploads = s.uploads ∧ (s.setLink l x).pages = s.pages ∧
    (s.setLink l x).queue = s.queue ∧ (s.setLink l x).sending = s.sending ∧ (s.setLink l x).releases = s.releases ∧
    (s.setLink l x).links = s.links.set l x ∧ (s.setLink l x).active = s.active ∧ (s.setLink l x).pace = s.pace ∧
    (s.setLink l x).ports = s.ports ∧ (s.setLink l x).groups = s.groups ∧ (s.setLink l x).holds = s.holds ∧
    (s.setLink l x).image = s.image ∧ (s.setLink l x).saving = s.saving ∧ (s.setLink l x).starting = s.starting ∧
    (s.setLink l x).cause = s.cause ∧ (s.setLink l x).defaulted = s.defaulted ∧ (s.setLink l x).last = s.last ∧
    (s.setLink l x).free = s.free :=
  ⟨rfl, rfl, rfl, rfl, rfl, rfl, rfl, rfl, rfl, rfl, rfl, rfl, rfl, rfl, rfl, rfl, rfl, rfl, rfl, rfl, rfl, rfl, rfl, rfl, rfl⟩

@[simp] theorem setChannel_fields (s : Switch) (c : ChannelId) (x : Channel) :
    (s.setChannel c x).wall = s.wall ∧ (s.setChannel c x).clock = s.clock ∧
    (s.setChannel c x).channels = s.channels.set c x ∧ (s.setChannel c x).slots = s.slots ∧
    (s.setChannel c x).watches = s.watches ∧ (s.setChannel c x).inboxes = s.inboxes ∧
    (s.setChannel c x).store = s.store ∧ (s.setChannel c x).uploads = s.uploads ∧ (s.setChannel c x).pages = s.pages ∧
    (s.setChannel c x).queue = s.queue ∧ (s.setChannel c x).sending = s.sending ∧
    (s.setChannel c x).releases = s.releases ∧ (s.setChannel c x).links = s.links ∧
    (s.setChannel c x).active = s.active ∧ (s.setChannel c x).pace = s.pace ∧ (s.setChannel c x).ports = s.ports ∧
    (s.setChannel c x).groups = s.groups ∧ (s.setChannel c x).holds = s.holds ∧ (s.setChannel c x).image = s.image ∧
    (s.setChannel c x).saving = s.saving ∧ (s.setChannel c x).starting = s.starting ∧
    (s.setChannel c x).cause = s.cause ∧ (s.setChannel c x).defaulted = s.defaulted ∧
    (s.setChannel c x).last = s.last ∧ (s.setChannel c x).free = s.free :=
  ⟨rfl, rfl, rfl, rfl, rfl, rfl, rfl, rfl, rfl, rfl, rfl, rfl, rfl, rfl, rfl, rfl, rfl, rfl, rfl, rfl, rfl, rfl, rfl, rfl, rfl⟩

@[simp] theorem setInbox_fields (s : Switch) (p : PortId) (x : Inbox) :
    (s.setInbox p x).wall = s.wall ∧ (s.setInbox p x).clock = s.clock ∧ (s.setInbox p x).channels = s.channels ∧
    (s.setInbox p x).slots = s.slots ∧ (s.setInbox p x).watches = s.watches ∧
    (s.setInbox p x).inboxes = s.inboxes.set p x ∧ (s.setInbox p x).store = s.store ∧
    (s.setInbox p x).uploads = s.uploads ∧ (s.setInbox p x).pages = s.pages ∧ (s.setInbox p x).queue = s.queue ∧
    (s.setInbox p x).sending = s.sending ∧ (s.setInbox p x).releases = s.releases ∧ (s.setInbox p x).links = s.links ∧
    (s.setInbox p x).active = s.active ∧ (s.setInbox p x).pace = s.pace ∧ (s.setInbox p x).ports = s.ports ∧
    (s.setInbox p x).groups = s.groups ∧ (s.setInbox p x).holds = s.holds ∧ (s.setInbox p x).image = s.image ∧
    (s.setInbox p x).saving = s.saving ∧ (s.setInbox p x).starting = s.starting ∧ (s.setInbox p x).cause = s.cause ∧
    (s.setInbox p x).defaulted = s.defaulted ∧ (s.setInbox p x).last = s.last ∧ (s.setInbox p x).free = s.free :=
  ⟨rfl, rfl, rfl, rfl, rfl, rfl, rfl, rfl, rfl, rfl, rfl, rfl, rfl, rfl, rfl, rfl, rfl, rfl, rfl, rfl, rfl, rfl, rfl, rfl, rfl⟩

@[simp] theorem setUpload_fields (s : Switch) (p : PortId) (x : Option Upload) :
    (s.setUpload p x).wall = s.wall ∧ (s.setUpload p x).clock = s.clock ∧ (s.setUpload p x).channels = s.channels ∧
    (s.setUpload p x).slots = s.slots ∧ (s.setUpload p x).watches = s.watches ∧
    (s.setUpload p x).inboxes = s.inboxes ∧ (s.setUpload p x).store = s.store ∧
    (s.setUpload p x).uploads = s.uploads.set p x ∧ (s.setUpload p x).pages = s.pages ∧
    (s.setUpload p x).queue = s.queue ∧ (s.setUpload p x).sending = s.sending ∧
    (s.setUpload p x).releases = s.releases ∧ (s.setUpload p x).links = s.links ∧
    (s.setUpload p x).active = s.active ∧ (s.setUpload p x).pace = s.pace ∧ (s.setUpload p x).ports = s.ports ∧
    (s.setUpload p x).groups = s.groups ∧ (s.setUpload p x).holds = s.holds ∧ (s.setUpload p x).image = s.image ∧
    (s.setUpload p x).saving = s.saving ∧ (s.setUpload p x).starting = s.starting ∧
    (s.setUpload p x).cause = s.cause ∧ (s.setUpload p x).defaulted = s.defaulted ∧ (s.setUpload p x).last = s.last ∧
    (s.setUpload p x).free = s.free :=
  ⟨rfl, rfl, rfl, rfl, rfl, rfl, rfl, rfl, rfl, rfl, rfl, rfl, rfl, rfl, rfl, rfl, rfl, rfl, rfl, rfl, rfl, rfl, rfl, rfl, rfl⟩

@[simp] theorem setStore_fields (s : Switch) (x : Store) :
    (s.setStore x).wall = s.wall ∧ (s.setStore x).clock = s.clock ∧ (s.setStore x).channels = s.channels ∧
    (s.setStore x).slots = s.slots ∧ (s.setStore x).watches = s.watches ∧ (s.setStore x).inboxes = s.inboxes ∧
    (s.setStore x).store = x ∧ (s.setStore x).uploads = s.uploads ∧ (s.setStore x).pages = s.pages ∧
    (s.setStore x).queue = s.queue ∧ (s.setStore x).sending = s.sending ∧ (s.setStore x).releases = s.releases ∧
    (s.setStore x).links = s.links ∧ (s.setStore x).active = s.active ∧ (s.setStore x).pace = s.pace ∧
    (s.setStore x).ports = s.ports ∧ (s.setStore x).groups = s.groups ∧ (s.setStore x).holds = s.holds ∧
    (s.setStore x).image = s.image ∧ (s.setStore x).saving = s.saving ∧ (s.setStore x).starting = s.starting ∧
    (s.setStore x).cause = s.cause ∧ (s.setStore x).defaulted = s.defaulted ∧ (s.setStore x).last = s.last ∧
    (s.setStore x).free = s.free :=
  ⟨rfl, rfl, rfl, rfl, rfl, rfl, rfl, rfl, rfl, rfl, rfl, rfl, rfl, rfl, rfl, rfl, rfl, rfl, rfl, rfl, rfl, rfl, rfl, rfl, rfl⟩

@[simp] theorem setGroups_fields (s : Switch) (x : Groups) :
    (s.setGroups x).wall = s.wall ∧ (s.setGroups x).clock = s.clock ∧ (s.setGroups x).channels = s.channels ∧
    (s.setGroups x).slots = s.slots ∧ (s.setGroups x).watches = s.watches ∧ (s.setGroups x).inboxes = s.inboxes ∧
    (s.setGroups x).store = s.store ∧ (s.setGroups x).uploads = s.uploads ∧ (s.setGroups x).pages = s.pages ∧
    (s.setGroups x).queue = s.queue ∧ (s.setGroups x).sending = s.sending ∧ (s.setGroups x).releases = s.releases ∧
    (s.setGroups x).links = s.links ∧ (s.setGroups x).active = s.active ∧ (s.setGroups x).pace = s.pace ∧
    (s.setGroups x).ports = s.ports ∧ (s.setGroups x).groups = x ∧ (s.setGroups x).holds = s.holds ∧
    (s.setGroups x).image = s.image ∧ (s.setGroups x).saving = s.saving ∧ (s.setGroups x).starting = s.starting ∧
    (s.setGroups x).cause = s.cause ∧ (s.setGroups x).defaulted = s.defaulted ∧ (s.setGroups x).last = s.last ∧
    (s.setGroups x).free = s.free :=
  ⟨rfl, rfl, rfl, rfl, rfl, rfl, rfl, rfl, rfl, rfl, rfl, rfl, rfl, rfl, rfl, rfl, rfl, rfl, rfl, rfl, rfl, rfl, rfl, rfl, rfl⟩

@[simp] theorem dropWatches_fields (s : Switch) (f : Watch → Bool) :
    (s.dropWatches f).wall = s.wall ∧ (s.dropWatches f).clock = s.clock ∧ (s.dropWatches f).channels = s.channels ∧
    (s.dropWatches f).slots = s.slots ∧ (s.dropWatches f).watches = s.watches.filter (fun w => !f w) ∧
    (s.dropWatches f).inboxes = s.inboxes ∧ (s.dropWatches f).store = s.store ∧
    (s.dropWatches f).uploads = s.uploads ∧ (s.dropWatches f).pages = s.pages ∧ (s.dropWatches f).queue = s.queue ∧
    (s.dropWatches f).sending = s.sending ∧ (s.dropWatches f).releases = s.releases ∧
    (s.dropWatches f).links = s.links ∧ (s.dropWatches f).active = s.active ∧ (s.dropWatches f).pace = s.pace ∧
    (s.dropWatches f).ports = s.ports ∧ (s.dropWatches f).groups = s.groups ∧ (s.dropWatches f).holds = s.holds ∧
    (s.dropWatches f).image = s.image ∧ (s.dropWatches f).saving = s.saving ∧
    (s.dropWatches f).starting = s.starting ∧ (s.dropWatches f).cause = s.cause ∧
    (s.dropWatches f).defaulted = s.defaulted ∧ (s.dropWatches f).last = s.last ∧ (s.dropWatches f).free = s.free :=
  ⟨rfl, rfl, rfl, rfl, rfl, rfl, rfl, rfl, rfl, rfl, rfl, rfl, rfl, rfl, rfl, rfl, rfl, rfl, rfl, rfl, rfl, rfl, rfl, rfl, rfl⟩

@[simp] theorem postEach_fields (s : Switch) (f : PortId → Option Notice) :
    (s.postEach f).wall = s.wall ∧ (s.postEach f).clock = s.clock ∧ (s.postEach f).channels = s.channels ∧
    (s.postEach f).slots = s.slots ∧ (s.postEach f).watches = s.watches ∧ (s.postEach f).store = s.store ∧
    (s.postEach f).uploads = s.uploads ∧ (s.postEach f).pages = s.pages ∧ (s.postEach f).queue = s.queue ∧
    (s.postEach f).sending = s.sending ∧ (s.postEach f).releases = s.releases ∧ (s.postEach f).links = s.links ∧
    (s.postEach f).active = s.active ∧ (s.postEach f).pace = s.pace ∧ (s.postEach f).ports = s.ports ∧
    (s.postEach f).groups = s.groups ∧ (s.postEach f).holds = s.holds ∧ (s.postEach f).image = s.image ∧
    (s.postEach f).saving = s.saving ∧ (s.postEach f).starting = s.starting ∧ (s.postEach f).cause = s.cause ∧
    (s.postEach f).defaulted = s.defaulted ∧ (s.postEach f).last = s.last ∧ (s.postEach f).free = s.free :=
  ⟨rfl, rfl, rfl, rfl, rfl, rfl, rfl, rfl, rfl, rfl, rfl, rfl, rfl, rfl, rfl, rfl, rfl, rfl, rfl, rfl, rfl, rfl, rfl, rfl⟩

@[simp] theorem post_fields (s : Switch) (n : Notice) (who : PortId → Bool) :
    (s.post n who).wall = s.wall ∧ (s.post n who).clock = s.clock ∧ (s.post n who).channels = s.channels ∧
    (s.post n who).slots = s.slots ∧ (s.post n who).watches = s.watches ∧ (s.post n who).store = s.store ∧
    (s.post n who).uploads = s.uploads ∧ (s.post n who).pages = s.pages ∧ (s.post n who).queue = s.queue ∧
    (s.post n who).sending = s.sending ∧ (s.post n who).releases = s.releases ∧ (s.post n who).links = s.links ∧
    (s.post n who).active = s.active ∧ (s.post n who).pace = s.pace ∧ (s.post n who).ports = s.ports ∧
    (s.post n who).groups = s.groups ∧ (s.post n who).holds = s.holds ∧ (s.post n who).image = s.image ∧
    (s.post n who).saving = s.saving ∧ (s.post n who).starting = s.starting ∧ (s.post n who).cause = s.cause ∧
    (s.post n who).defaulted = s.defaulted ∧ (s.post n who).last = s.last ∧ (s.post n who).free = s.free :=
  ⟨rfl, rfl, rfl, rfl, rfl, rfl, rfl, rfl, rfl, rfl, rfl, rfl, rfl, rfl, rfl, rfl, rfl, rfl, rfl, rfl, rfl, rfl, rfl, rfl⟩

@[simp] theorem emptyInboxes_fields (s : Switch) :
    s.emptyInboxes.wall = s.wall ∧ s.emptyInboxes.clock = s.clock ∧ s.emptyInboxes.channels = s.channels ∧
    s.emptyInboxes.slots = s.slots ∧ s.emptyInboxes.watches = s.watches ∧ s.emptyInboxes.store = s.store ∧
    s.emptyInboxes.uploads = s.uploads ∧ s.emptyInboxes.pages = s.pages ∧ s.emptyInboxes.queue = s.queue ∧
    s.emptyInboxes.sending = s.sending ∧ s.emptyInboxes.releases = s.releases ∧ s.emptyInboxes.links = s.links ∧
    s.emptyInboxes.active = s.active ∧ s.emptyInboxes.pace = s.pace ∧ s.emptyInboxes.ports = s.ports ∧
    s.emptyInboxes.groups = s.groups ∧ s.emptyInboxes.holds = s.holds ∧ s.emptyInboxes.image = s.image ∧
    s.emptyInboxes.saving = s.saving ∧ s.emptyInboxes.starting = s.starting ∧ s.emptyInboxes.cause = s.cause ∧
    s.emptyInboxes.defaulted = s.defaulted ∧ s.emptyInboxes.last = s.last ∧ s.emptyInboxes.free = s.free :=
  ⟨rfl, rfl, rfl, rfl, rfl, rfl, rfl, rfl, rfl, rfl, rfl, rfl, rfl, rfl, rfl, rfl, rfl, rfl, rfl, rfl, rfl, rfl, rfl, rfl⟩

@[simp] theorem postControl_fields (s : Switch) (n : Notice) :
    (s.postControl n).wall = s.wall ∧ (s.postControl n).clock = s.clock ∧ (s.postControl n).channels = s.channels ∧
    (s.postControl n).slots = s.slots ∧ (s.postControl n).watches = s.watches ∧ (s.postControl n).store = s.store ∧
    (s.postControl n).uploads = s.uploads ∧ (s.postControl n).pages = s.pages ∧ (s.postControl n).queue = s.queue ∧
    (s.postControl n).sending = s.sending ∧ (s.postControl n).releases = s.releases ∧
    (s.postControl n).links = s.links ∧ (s.postControl n).active = s.active ∧ (s.postControl n).pace = s.pace ∧
    (s.postControl n).ports = s.ports ∧ (s.postControl n).groups = s.groups ∧ (s.postControl n).holds = s.holds ∧
    (s.postControl n).image = s.image ∧ (s.postControl n).saving = s.saving ∧
    (s.postControl n).starting = s.starting ∧ (s.postControl n).cause = s.cause ∧
    (s.postControl n).defaulted = s.defaulted ∧ (s.postControl n).last = s.last ∧ (s.postControl n).free = s.free :=
  ⟨rfl, rfl, rfl, rfl, rfl, rfl, rfl, rfl, rfl, rfl, rfl, rfl, rfl, rfl, rfl, rfl, rfl, rfl, rfl, rfl, rfl, rfl, rfl, rfl⟩

@[simp] theorem postWatchers_fields (s : Switch) (h : Handle) (n : Notice) :
    (s.postWatchers h n).wall = s.wall ∧ (s.postWatchers h n).clock = s.clock ∧
    (s.postWatchers h n).channels = s.channels ∧ (s.postWatchers h n).slots = s.slots ∧
    (s.postWatchers h n).watches = s.watches ∧ (s.postWatchers h n).store = s.store ∧
    (s.postWatchers h n).uploads = s.uploads ∧ (s.postWatchers h n).pages = s.pages ∧
    (s.postWatchers h n).queue = s.queue ∧ (s.postWatchers h n).sending = s.sending ∧
    (s.postWatchers h n).releases = s.releases ∧ (s.postWatchers h n).links = s.links ∧
    (s.postWatchers h n).active = s.active ∧ (s.postWatchers h n).pace = s.pace ∧
    (s.postWatchers h n).ports = s.ports ∧ (s.postWatchers h n).groups = s.groups ∧
    (s.postWatchers h n).holds = s.holds ∧ (s.postWatchers h n).image = s.image ∧
    (s.postWatchers h n).saving = s.saving ∧ (s.postWatchers h n).starting = s.starting ∧
    (s.postWatchers h n).cause = s.cause ∧ (s.postWatchers h n).defaulted = s.defaulted ∧
    (s.postWatchers h n).last = s.last ∧ (s.postWatchers h n).free = s.free :=
  ⟨rfl, rfl, rfl, rfl, rfl, rfl, rfl, rfl, rfl, rfl, rfl, rfl, rfl, rfl, rfl, rfl, rfl, rfl, rfl, rfl, rfl, rfl, rfl, rfl⟩

@[simp] theorem emit_fields (s : Switch) (e : Emission) :
    (s.emit e).wall = s.wall ∧ (s.emit e).clock = s.clock ∧ (s.emit e).channels = s.channels ∧
    (s.emit e).slots = s.slots ∧ (s.emit e).watches = s.watches ∧ (s.emit e).inboxes = s.inboxes ∧
    (s.emit e).store = s.store ∧ (s.emit e).uploads = s.uploads ∧ (s.emit e).pages = s.pages ∧
    (s.emit e).queue = s.queue ∧ (s.emit e).sending = s.sending ∧ (s.emit e).releases = s.releases ∧
    (s.emit e).links = s.links ∧ (s.emit e).active = s.active ∧ (s.emit e).pace = s.pace ∧
    (s.emit e).ports = s.ports ∧ (s.emit e).groups = s.groups ∧ (s.emit e).holds = s.holds ∧
    (s.emit e).image = s.image ∧ (s.emit e).saving = s.saving ∧ (s.emit e).starting = s.starting ∧
    (s.emit e).cause = s.cause ∧ (s.emit e).defaulted = s.defaulted ∧
    (s.emit e).last = { s.last with sent := s.last.sent ++ [e] } ∧ (s.emit e).free = s.free :=
  ⟨rfl, rfl, rfl, rfl, rfl, rfl, rfl, rfl, rfl, rfl, rfl, rfl, rfl, rfl, rfl, rfl, rfl, rfl, rfl, rfl, rfl, rfl, rfl, rfl, rfl⟩

@[simp] theorem markReleased_fields (s : Switch) :
    (s.markReleased).wall = s.wall ∧ (s.markReleased).clock = s.clock ∧ (s.markReleased).channels = s.channels ∧
    (s.markReleased).slots = s.slots ∧ (s.markReleased).watches = s.watches ∧ (s.markReleased).inboxes = s.inboxes ∧
    (s.markReleased).store = s.store ∧ (s.markReleased).uploads = s.uploads ∧ (s.markReleased).pages = s.pages ∧
    (s.markReleased).queue = s.queue ∧ (s.markReleased).sending = s.sending ∧ (s.markReleased).releases = s.releases ∧
    (s.markReleased).links = s.links ∧ (s.markReleased).active = s.active ∧ (s.markReleased).pace = s.pace ∧
    (s.markReleased).ports = s.ports ∧ (s.markReleased).groups = s.groups ∧ (s.markReleased).holds = s.holds ∧
    (s.markReleased).image = s.image ∧ (s.markReleased).saving = s.saving ∧ (s.markReleased).starting = s.starting ∧
    (s.markReleased).cause = s.cause ∧ (s.markReleased).defaulted = s.defaulted ∧
    (s.markReleased).last = { s.last with released := true } ∧ (s.markReleased).free = s.free :=
  ⟨rfl, rfl, rfl, rfl, rfl, rfl, rfl, rfl, rfl, rfl, rfl, rfl, rfl, rfl, rfl, rfl, rfl, rfl, rfl, rfl, rfl, rfl, rfl, rfl, rfl⟩

@[simp] theorem sendResult_fields (s : Switch) (p : PortId) (tag : Byte) (code : Code) (values : List Byte) :
    (s.sendResult p tag code values).wall = s.wall ∧ (s.sendResult p tag code values).clock = s.clock ∧
    (s.sendResult p tag code values).channels = s.channels ∧ (s.sendResult p tag code values).slots = s.slots ∧
    (s.sendResult p tag code values).watches = s.watches ∧ (s.sendResult p tag code values).inboxes = s.inboxes ∧
    (s.sendResult p tag code values).store = s.store ∧ (s.sendResult p tag code values).uploads = s.uploads ∧
    (s.sendResult p tag code values).pages = s.pages ∧ (s.sendResult p tag code values).queue = s.queue ∧
    (s.sendResult p tag code values).sending = s.sending ∧ (s.sendResult p tag code values).releases = s.releases ∧
    (s.sendResult p tag code values).links = s.links ∧ (s.sendResult p tag code values).active = s.active ∧
    (s.sendResult p tag code values).pace = s.pace ∧ (s.sendResult p tag code values).ports = s.ports ∧
    (s.sendResult p tag code values).groups = s.groups ∧ (s.sendResult p tag code values).holds = s.holds ∧
    (s.sendResult p tag code values).image = s.image ∧ (s.sendResult p tag code values).saving = s.saving ∧
    (s.sendResult p tag code values).starting = s.starting ∧ (s.sendResult p tag code values).cause = s.cause ∧
    (s.sendResult p tag code values).defaulted = s.defaulted ∧
    (s.sendResult p tag code values).last = { s.last with sent := s.last.sent ++ [.frame p { kind := 0x03, tag := tag, payload := code.byte :: values }] } ∧
    (s.sendResult p tag code values).free = s.free :=
  ⟨rfl, rfl, rfl, rfl, rfl, rfl, rfl, rfl, rfl, rfl, rfl, rfl, rfl, rfl, rfl, rfl, rfl, rfl, rfl, rfl, rfl, rfl, rfl, rfl, rfl⟩

@[simp] theorem returnChain_fields (s : Switch) (l : List Nat) :
    (s.returnChain l).wall = s.wall ∧ (s.returnChain l).clock = s.clock ∧ (s.returnChain l).channels = s.channels ∧
    (s.returnChain l).slots = s.slots ∧ (s.returnChain l).watches = s.watches ∧
    (s.returnChain l).inboxes = s.inboxes ∧
    (s.returnChain l).store = { s.store with freePool := l ++ s.store.freePool, freeCount := s.store.freeCount + l.length } ∧
    (s.returnChain l).uploads = s.uploads ∧ (s.returnChain l).pages = s.pages ∧ (s.returnChain l).queue = s.queue ∧
    (s.returnChain l).sending = s.sending ∧ (s.returnChain l).releases = s.releases ∧
    (s.returnChain l).links = s.links ∧ (s.returnChain l).active = s.active ∧ (s.returnChain l).pace = s.pace ∧
    (s.returnChain l).ports = s.ports ∧ (s.returnChain l).groups = s.groups ∧ (s.returnChain l).holds = s.holds ∧
    (s.returnChain l).image = s.image ∧ (s.returnChain l).saving = s.saving ∧
    (s.returnChain l).starting = s.starting ∧ (s.returnChain l).cause = s.cause ∧
    (s.returnChain l).defaulted = s.defaulted ∧ (s.returnChain l).last = s.last ∧ (s.returnChain l).free = s.free :=
  ⟨rfl, rfl, rfl, rfl, rfl, rfl, rfl, rfl, rfl, rfl, rfl, rfl, rfl, rfl, rfl, rfl, rfl, rfl, rfl, rfl, rfl, rfl, rfl, rfl, rfl⟩

/-! ### What the accessors read after an update of their own thing -/

theorem port_def (s : Switch) (p : PortId) : s.port p = s.ports.get p := rfl
theorem slot_def (s : Switch) (i : SlotId) : s.slot i = s.slots.get i := rfl
theorem page_def (s : Switch) (q : PageId) : s.page q = s.pages.get q := rfl
theorem link_def (s : Switch) (l : LinkId) : s.link l = s.links.get l := rfl
theorem channel_def (s : Switch) (c : ChannelId) : s.channel c = s.channels.get c := rfl
theorem inbox_def (s : Switch) (p : PortId) : s.inbox p = s.inboxes.get p := rfl
theorem upload_def (s : Switch) (p : PortId) : s.upload p = s.uploads.get p := rfl
theorem pageDef_def (s : Switch) (q : PageId) : s.pageDef q = s.groups.clock.pages.get q := rfl
theorem channelSettings_def (s : Switch) (c : ChannelId) : s.channelSettings c = s.groups.clock.channels.get c := rfl

/-- Where each port's copy goes: nowhere without a copy or to a DETACHED port, else into its inbox (R75). -/
theorem postEach_inbox (s : Switch) (f : PortId → Option Notice) (p : PortId) :
    (s.postEach f).inboxes.get p =
      match f p with
      | none => s.inboxes.get p
      | some n => if s.isDetached p then s.inboxes.get p else (s.inboxes.get p).place n := by
  cases h : f p <;> simp [postEach, h]

/-- The inbox of a port after a notice to a set of ports (R75). -/
theorem post_inbox (s : Switch) (n : Notice) (who : PortId → Bool) (p : PortId) :
    (s.post n who).inboxes.get p =
      if who p = true ∧ s.isDetached p = false then (s.inboxes.get p).place n else s.inboxes.get p := by
  unfold post
  rw [postEach_inbox]
  cases who p <;> cases s.isDetached p <;> rfl

/-- Every inbox after the emptying of a restart (R86). -/
@[simp] theorem emptyInboxes_inbox (s : Switch) (p : PortId) : s.emptyInboxes.inboxes.get p = Inbox.empty :=
  Bank.get_replicate Inbox.empty p

/-- A notice placed in an empty inbox is its only one (R78). -/
@[simp] theorem place_empty (n : Notice) : Inbox.empty.place n = { notices := [n], lost := 0 } := rfl

/-- The story a handle names: its slot's, when the generations agree (R2). -/
theorem story_eq_some {s : Switch} {h : Handle} {st : Story} :
    s.story h = some st ↔ (s.slots.get h.slot).gen = h.gen ∧ (s.slots.get h.slot).story = some st := by
  unfold story slot
  split <;> simp_all

end Sys2Proof.Machine.Switch
end

