-- ==== Sys2Proof/Laws/Exchange.lean ====
section
/-! SUPPORT. What the command exchange does: a command taken, a command refused, a reply, the frame of an event and the eased test. -/

namespace Sys2Proof.Machine

open Switch

namespace Switch

/-- Clearing the record of the event changes that record alone. -/
@[simp] theorem quietly_fields (s : Switch) :
    s.quietly.wall = s.wall ∧ s.quietly.clock = s.clock ∧ s.quietly.channels = s.channels ∧ s.quietly.slots = s.slots ∧
    s.quietly.watches = s.watches ∧ s.quietly.inboxes = s.inboxes ∧ s.quietly.store = s.store ∧ s.quietly.uploads = s.uploads ∧
    s.quietly.pages = s.pages ∧ s.quietly.queue = s.queue ∧ s.quietly.sending = s.sending ∧ s.quietly.releases = s.releases ∧
    s.quietly.links = s.links ∧ s.quietly.active = s.active ∧ s.quietly.pace = s.pace ∧ s.quietly.ports = s.ports ∧
    s.quietly.groups = s.groups ∧ s.quietly.holds = s.holds ∧ s.quietly.image = s.image ∧ s.quietly.saving = s.saving ∧
    s.quietly.starting = s.starting ∧ s.quietly.cause = s.cause ∧ s.quietly.defaulted = s.defaulted ∧ s.quietly.free = s.free ∧
    s.quietly.last = { sent := [], released := false } :=
  ⟨rfl, rfl, rfl, rfl, rfl, rfl, rfl, rfl, rfl, rfl, rfl, rfl, rfl, rfl, rfl, rfl, rfl, rfl, rfl, rfl, rfl, rfl, rfl, rfl, rfl⟩

@[simp] theorem quietly_story (s : Switch) (k : Handle) : s.quietly.story k = s.story k := rfl

/-! ### Replies -/

/-- The standing that follows a credited fault count. -/
theorem withFaults_credited (x : Port) (h : x.standing ≠ .detached) : x.withFaults (x.faults - 1) = x.credited := by
  unfold Port.withFaults Port.credited standingFor
  cases hs : x.standing <;> simp_all

theorem credited_detached (x : Port) (h : x.standing = .detached) : x.credited = x := by simp [Port.credited, h]

/-- The OK step is a credited port (R161). -/
theorem lowerFaults_eq (s : Switch) (p : PortId) :
    s.lowerFaults p = { s with ports := s.ports.set p (s.ports.get p).credited } := by
  unfold lowerFaults isDetached Switch.port
  cases hs : (s.ports.get p).standing <;> simp [setPort, withFaults_credited, credited_detached, hs]

/-- A reply is the first and only thing an event sends when nothing has been sent before it. -/
theorem answer_eq_replied (s : Switch) (h : Head) (code : Code) (values : List Byte)
    (hl : s.last = { sent := [], released := false }) : s.answer h code values = s.replied h code values := by
  unfold answer replied
  by_cases hc : code = .ok
  · simp only [hc, if_true, lowerFaults_eq]
    simp [sendResult, emit, hl, resultFrame, creditedPorts]
  · simp [hc, sendResult, emit, hl, resultFrame]

/-- Every field of an answer but the ports and the record of the event is as before it. -/
@[simp] theorem answer_fields (s : Switch) (h : Head) (code : Code) (values : List Byte) :
    (s.answer h code values).wall = s.wall ∧ (s.answer h code values).clock = s.clock ∧
    (s.answer h code values).channels = s.channels ∧ (s.answer h code values).slots = s.slots ∧
    (s.answer h code values).watches = s.watches ∧ (s.answer h code values).inboxes = s.inboxes ∧
    (s.answer h code values).store = s.store ∧ (s.answer h code values).uploads = s.uploads ∧
    (s.answer h code values).pages = s.pages ∧ (s.answer h code values).queue = s.queue ∧
    (s.answer h code values).sending = s.sending ∧ (s.answer h code values).releases = s.releases ∧
    (s.answer h code values).links = s.links ∧ (s.answer h code values).active = s.active ∧
    (s.answer h code values).pace = s.pace ∧ (s.answer h code values).groups = s.groups ∧
    (s.answer h code values).holds = s.holds ∧ (s.answer h code values).image = s.image ∧
    (s.answer h code values).saving = s.saving ∧ (s.answer h code values).starting = s.starting ∧
    (s.answer h code values).cause = s.cause ∧ (s.answer h code values).defaulted = s.defaulted ∧
    (s.answer h code values).free = s.free ∧ (s.answer h code values).last.released = s.last.released ∧
    (s.answer h code values).ports = (if code = .ok then s.ports.set h.port (s.ports.get h.port).credited else s.ports) := by
  unfold answer
  by_cases hc : code = .ok <;> simp [hc, lowerFaults_eq]

/-- An answer as one update. -/
theorem answer_eq (s : Switch) (h : Head) (code : Code) (values : List Byte) :
    s.answer h code values =
      { s with
        ports := if code = .ok then s.creditedPorts h.port else s.ports
        last := { s.last with sent := s.last.sent ++ [resultFrame h code values] } } := by
  unfold answer
  by_cases hc : code = .ok
  · simp only [hc, if_true, lowerFaults_eq]
    simp [sendResult, emit, resultFrame, creditedPorts]
  · simp [hc, sendResult, emit, resultFrame]

theorem refuse_fields (s : Switch) (h : Head) (code : Code) (hc : code ≠ .ok) :
    s.refuse h code = s.sendResult h.port h.tag code [] := by simp [refuse, answer, hc]

/-! ### The eased test (R33) -/

/-- The eased test changes at most the tight condition and the inboxes. -/
@[simp] theorem easedTest_fields (s : Switch) :
    s.easedTest.wall = s.wall ∧ s.easedTest.clock = s.clock ∧ s.easedTest.channels = s.channels ∧ s.easedTest.slots = s.slots ∧
    s.easedTest.watches = s.watches ∧ s.easedTest.uploads = s.uploads ∧ s.easedTest.pages = s.pages ∧
    s.easedTest.queue = s.queue ∧ s.easedTest.sending = s.sending ∧ s.easedTest.releases = s.releases ∧
    s.easedTest.links = s.links ∧ s.easedTest.active = s.active ∧ s.easedTest.pace = s.pace ∧ s.easedTest.ports = s.ports ∧
    s.easedTest.groups = s.groups ∧ s.easedTest.holds = s.holds ∧ s.easedTest.image = s.image ∧
    s.easedTest.saving = s.saving ∧ s.easedTest.starting = s.starting ∧ s.easedTest.cause = s.cause ∧
    s.easedTest.defaulted = s.defaulted ∧ s.easedTest.last = s.last ∧ s.easedTest.free = s.free ∧
    s.easedTest.store.freePool = s.store.freePool ∧ s.easedTest.store.freeCount = s.store.freeCount ∧
    s.easedTest.store.reserved = s.store.reserved ∧ s.easedTest.store.copy = s.store.copy := by
  unfold easedTest
  split <;> simp

/-- The eased test as one update. -/
theorem easedTest_eq (s : Switch) :
    ∃ tight boxes, s.easedTest = { s with store := { s.store with tight := tight }, inboxes := boxes } := by
  unfold easedTest
  split
  · exact ⟨false, _, rfl⟩
  · exact ⟨s.store.tight, s.inboxes, rfl⟩

/-- With nothing returned the eased test does nothing. -/
theorem easedTest_idle (s : Switch) (h : s.last.released = false) : s.easedTest = s := by simp [easedTest, h]

/-- An event that returns no block and cancels no reservation. -/
theorem event_eq (s : Switch) (f : Switch → Switch) (h : (f s.quietly).last.released = false) : s.event f = f s.quietly :=
  easedTest_idle _ h

/-- A reservation as one update: the outstanding reservation rises, and at most the tight condition and the inboxes change (R32). -/
theorem reserve_eq (s : Switch) (n : Nat) :
    ∃ tight boxes, s.reserve n = { s with store := { s.store with reserved := s.store.reserved + n, tight := tight }, inboxes := boxes } := by
  unfold reserve
  by_cases hc : (s.setStore { s.store with reserved := s.store.reserved + n }).available <
      (s.setStore { s.store with reserved := s.store.reserved + n }).groups.store.low ∧
      (s.setStore { s.store with reserved := s.store.reserved + n }).store.tight = false
  · exact ⟨true, _, if_pos hc⟩
  · exact ⟨s.store.tight, s.inboxes, if_neg hc⟩

/-! ### Commands taken and refused (R156) -/

/-- The port hands a command that passes its checks to the block that owns it. -/
theorem portCheck_taken (s : Switch) (h : Head) (c : Cmd) (ht : s.takes h c) : s.portCheck h (some c) = .taken := by
  obtain ⟨h1, h2, h3, h4, h5, h6⟩ := ht
  have h5' : ¬(s.isDetached h.port = true ∧ ¬c = .attach) := by
    rintro ⟨a, b⟩
    exact h5.elim (fun k => k (by simpa [isDetached, Switch.port] using a)) b
  simp only [portCheck, Switch.port, h1, h2, h3, h4, Bool.false_eq_true, if_false, ne_eq, not_true_eq_false]
  simp only [Option.some.injEq, h5', if_false]
  by_cases hc : controlOnly c = true
  · simp [hc, isControl, h6 hc]
  · simp [hc]

/-- A command taken with parameters in range is its body's work. -/
theorem takeCommand_some (s : Switch) (h : Head) (c : Cmd) (a : α) (body : α → Switch → Switch) (ht : s.takes h c) :
    s.takeCommand h c (some a) body = body a s := by simp [takeCommand, portCheck_taken s h c ht]

/-- A command taken with parameters of the wrong layout or out of range is refused with BAD_PARAM. -/
theorem takeCommand_none (s : Switch) (h : Head) (c : Cmd) (body : α → Switch → Switch) (ht : s.takes h c) :
    s.takeCommand h c none body = s.refuse h .badParam := by simp [takeCommand, portCheck_taken s h c ht]

end Switch

/-- A command frame as an event: the port's part on the state that has sent nothing, and the eased test. -/
theorem State.command_unfold (s : State) (h : Head) (c : Cmd) (a : Option α) (body : α → Switch → Switch) :
    s.command h c a body = .next { s with sw := (s.sw.quietly.takeCommand h c a body).easedTest } := rfl

/-- A command taken as an event: its body's work on the state that has sent nothing, and the eased test. -/
theorem State.command_some (s : State) (h : Head) (c : Cmd) (a : α) (body : α → Switch → Switch) (ht : s.sw.takes h c) :
    s.command h c (some a) body = .next { s with sw := (body a s.sw.quietly).easedTest } := by
  rw [State.command_unfold, takeCommand_some s.sw.quietly h c a body ht]

/-- The same for a body that returns no block. -/
theorem State.command_eq (s : State) (h : Head) (c : Cmd) (a : α) (body : α → Switch → Switch) (ht : s.sw.takes h c)
    (hr : (body a s.sw.quietly).last.released = false) :
    s.command h c (some a) body = .next { s with sw := body a s.sw.quietly } := by
  rw [State.command_some s h c a body ht, easedTest_idle _ hr]

/-- A reply reads nothing of the record of the event. -/
theorem replied_quietly (w : Switch) (h : Head) (code : Code) (values : List Byte) :
    w.quietly.replied h code values = w.replied h code values := rfl

/-- A command whose whole work is a change of the state and one reply. -/
theorem State.command_replied (s : State) (h : Head) (c : Cmd) (a : α) (body : α → Switch → Switch) (code : Code)
    (values : List Byte) (w : Switch) (ht : s.sw.takes h c) (hb : body a s.sw.quietly = w.quietly.answer h code values) :
    s.command h c (some a) body = .next { s with sw := w.replied h code values } := by
  rw [State.command_eq s h c a body ht (by rw [hb]; simp [quietly]), hb, answer_eq_replied _ h code values rfl,
    replied_quietly]

/-- A right that a port has (R5). -/
theorem mayChange_of_hasRight {s : Switch} {p : PortId} {d : DeskId} (h : s.hasRight p d) : s.mayChange p d = true := by
  rcases h with h | h <;> simp [mayChange, serves, serving, isControl, h]

/-- A command that names a story is handed the story (R2). -/
theorem onStory_some {s : Switch} {k : Handle} {st : Story} (hs : s.story k = some st) (h : Head) (f : Story → Switch) :
    s.onStory h k f = f st := by simp [onStory, hs]

/-- A command of a port that has the right goes on (R5). -/
theorem withRight_of_hasRight {s : Switch} {h : Head} {d : DeskId} (hr : s.hasRight h.port d) (k : Switch) :
    s.withRight h d k = k := by simp [withRight, mayChange_of_hasRight hr]

/-- The stream of a command that has sent nothing before its OK. -/
theorem openStream_eq (s : Switch) (h : Head) (c : Cmd) (values : List Byte) (x : Stream) :
    s.quietly.openStream h c values x = s.streaming h c values x := by
  unfold openStream
  rw [answer_eq_replied _ h .ok values rfl]
  rfl

/-- A command whose whole work is a change of the state and a result stream. -/
theorem State.command_streaming (s : State) (h : Head) (c : Cmd) (a : α) (body : α → Switch → Switch)
    (values : List Byte) (x : Stream) (w : Switch) (ht : s.sw.takes h c)
    (hb : body a s.sw.quietly = w.quietly.openStream h c values x) :
    s.command h c (some a) body = .next { s with sw := w.streaming h c values x } := by
  rw [State.command_eq s h c a body ht (by rw [hb, openStream_eq]; rfl), hb, openStream_eq]

/-- Parameters out of range are answered BAD_PARAM, and nothing else changes (R175). -/
theorem State.command_none (s : State) (h : Head) (c : Cmd) (body : α → Switch → Switch) (ht : s.sw.takes h c) :
    s.command h c none body = .next { s with sw := s.sw.replied h .badParam [] } := by
  rw [State.command_unfold, takeCommand_none s.sw.quietly h c body ht, refuse, answer_eq_replied _ _ _ _ rfl, easedTest_idle _ rfl]
  rfl

/-- An event that returns no block, by what it does to the state that has sent nothing. -/
theorem State.run_eq (s : State) (f : Switch → Switch) (w : Switch) (hf : f s.sw.quietly = w) (hr : w.last.released = false) :
    s.run f = .next { s with sw := w } := by
  unfold State.run
  rw [event_eq s.sw f (by rw [hf]; exact hr), hf]

/-- An event, by what it does to the state that has sent nothing, with the eased test still to make. -/
theorem State.run_eased (s : State) (f : Switch → Switch) (w : Switch) (hf : f s.sw.quietly = w) :
    s.run f = .next { s with sw := w.easedTest } := by
  rw [← hf]
  rfl

end Sys2Proof.Machine
end

