-- ==== Sys2Proof/Laws/Memory.lean ====
section
/-! SUPPORT. The copy store's bytes: what a write leaves to be read, and that it keeps the canonical form. -/

namespace Sys2Proof.Machine

/-- Below the first key of a canonical memory every byte is the unwritten one. -/
theorem Memory.read_below : ∀ (m : List Host.Cell) (low : Nat), Memory.wfFrom (some low) m = true → ∀ a, a ≤ low →
    Memory.read m a = Memory.unwritten
  | [], _, _, _, _ => rfl
  | (k, v) :: m, low, h, a, ha => by
    simp only [Memory.wfFrom, Bool.and_eq_true, decide_eq_true_eq] at h
    have hk : k ≠ a := by omega
    simp only [Memory.read, hk, if_false]
    exact Memory.read_below m k h.2 a (by omega)

/-- A weaker bound is kept by a canonical memory. -/
theorem Memory.wfFrom_weaken : ∀ (m : List Host.Cell) (low k : Nat), low ≤ k → Memory.wfFrom (some k) m = true →
    Memory.wfFrom (some low) m = true
  | [], _, _, _, _ => rfl
  | (a, v) :: m, low, k, hle, h => by
    simp only [Memory.wfFrom, Bool.and_eq_true, decide_eq_true_eq] at h ⊢
    exact ⟨⟨by omega, h.1.2⟩, h.2⟩

/-- What is read after one byte is written to a canonical memory. -/
theorem Memory.read_write (m : List Host.Cell) (a : Nat) (b : Byte) (x : Nat) (low : Option Nat)
    (h : Memory.wfFrom low m = true) : Memory.read (Memory.write m a b) x = if a = x then b else Memory.read m x := by
  induction m generalizing low with
  | nil =>
    by_cases hb : b = Memory.unwritten <;> by_cases hx : a = x <;> simp [Memory.write, Memory.read, hb, hx]
  | cons c m ih =>
    obtain ⟨k, v⟩ := c
    simp only [Memory.wfFrom, Bool.and_eq_true, decide_eq_true_eq] at h
    by_cases h1 : a < k
    · by_cases hb : b = Memory.unwritten
      · simp only [Memory.write, h1, hb, if_true]
        by_cases hx : a = x
        · have hkx : k ≠ x := by omega
          simp only [Memory.read, hkx, if_false, hx, if_true]
          exact Memory.read_below m k h.2 x (by omega)
        · simp only [hx, if_false]
      · simp only [Memory.write, h1, hb, if_true, if_false, Memory.read]
    · by_cases h2 : a = k
      · subst h2
        by_cases hb : b = Memory.unwritten
        · simp only [Memory.write, h1, hb, if_true, if_false, Memory.read]
          by_cases hx : a = x
          · simp only [hx, if_true]
            exact Memory.read_below m a h.2 x (by omega)
          · simp only [hx, if_false]
        · simp only [Memory.write, h1, hb, if_true, if_false, Memory.read]
          by_cases hx : a = x <;> simp only [hx, if_true, if_false]
      · simp only [Memory.write, h1, h2, if_false, Memory.read]
        by_cases hkx : k = x
        · have : a ≠ x := by omega
          simp only [hkx, this, if_true, if_false]
        · simp only [hkx, if_false, ih _ h.2]

/-- A write keeps the canonical form above any bound below its address. -/
theorem Memory.wfFrom_write (m : List Host.Cell) (a : Nat) (b : Byte) :
    ∀ low : Option Nat, (∀ l, low = some l → l < a) → Memory.wfFrom low m = true → Memory.wfFrom low (Memory.write m a b) = true := by
  induction m with
  | nil =>
    intro low hl _
    by_cases hb : b = Memory.unwritten
    · simp [Memory.write, hb, Memory.wfFrom]
    · cases low with
      | none => simp [Memory.write, hb, Memory.wfFrom]
      | some l => simp [Memory.write, hb, Memory.wfFrom, hl l rfl]
  | cons c m ih =>
    obtain ⟨k, v⟩ := c
    intro low hl h
    have h' := h
    simp only [Memory.wfFrom, Bool.and_eq_true, decide_eq_true_eq] at h
    by_cases h1 : a < k
    · by_cases hb : b = Memory.unwritten
      · simpa [Memory.write, h1, hb] using h'
      · cases low with
        | none => simp [Memory.write, h1, hb, Memory.wfFrom, h.1.2, h.2]
        | some l => simp [Memory.write, h1, hb, Memory.wfFrom, hl l rfl, h.1.2, h.2]
    · by_cases h2 : a = k
      · subst h2
        by_cases hb : b = Memory.unwritten
        · simp only [Memory.write, h1, hb, if_true, if_false]
          cases low with
          | none =>
            cases m with
            | nil => rfl
            | cons d m =>
              have := h.2
              simp only [Memory.wfFrom, Bool.and_eq_true] at this ⊢
              exact ⟨⟨trivial, this.1.2⟩, this.2⟩
          | some l => exact Memory.wfFrom_weaken m l a (Nat.le_of_lt (hl l rfl)) h.2
        · cases low with
          | none => simp [Memory.write, hb, Memory.wfFrom, h.2]
          | some l => simp [Memory.write, hb, Memory.wfFrom, hl l rfl, h.2]
      · have hk : k < a := by omega
        have := ih (some k) (fun l e => by cases e; exact hk) h.2
        simp only [Memory.write, h1, h2, if_false, Memory.wfFrom, Bool.and_eq_true, decide_eq_true_eq]
        exact ⟨h.1, this⟩

/-- A write keeps the canonical form. -/
theorem Memory.write_wf (m : List Host.Cell) (a : Nat) (b : Byte) (h : Memory.wf m = true) :
    Memory.wf (Memory.write m a b) = true := Memory.wfFrom_write m a b none (fun _ e => nomatch e) h

/-- The store's bytes after power-on are in canonical form. -/
theorem Memory.reset_wf : Memory.wf State.reset.sw.store.copy = true := rfl

end Sys2Proof.Machine
end

