-- ==== Sys2Proof/Laws/Operands.lean ====
section
/-! SUPPORT. Which operands the checks of Machine/Operands.lean pass, one equivalence for each check, and the numbers that named values carry. -/

namespace Sys2Proof.Machine

/-! ### The checks of single values (R175) -/

theorem below_isSome (n : Nat) (b : BitVec w) : (below n b).isSome = true ↔ b.toNat < n := by
  unfold below finOf?
  split <;> simp [*]

theorem within_isSome (lo hi : Nat) (b : BitVec w) : (within lo hi b).isSome = true ↔ lo ≤ b.toNat ∧ b.toNat ≤ hi := by
  unfold within
  split <;> simp [*]

/-- A number within its range is the operand's own. -/
theorem within_eq {lo hi n : Nat} {b : BitVec w} (h : within lo hi b = some n) : n = b.toNat := by
  unfold within at h
  split at h
  · exact (Option.some.inj h).symm
  · cases h

theorem flag_isSome : ∀ b : Byte, (flag b).isSome = true ↔ b.toNat ≤ 1 := by decide +kernel

theorem urgencyOf_isSome : ∀ b : Byte, (urgencyOf b).isSome = true ↔ b.toNat < 4 := by decide +kernel

theorem linkOf_isSome : ∀ b : Byte, (linkOf b).isSome = true ↔ b.toNat ≤ 1 := by decide +kernel

theorem privilegeOf_isSome : ∀ b : Byte, (privilegeOf b).isSome = true ↔ b.toNat ≤ 1 := by decide +kernel

theorem bufferModeOf_isSome : ∀ b : Byte, (bufferModeOf b).isSome = true ↔ b.toNat ≤ 1 := by decide +kernel

theorem releaseModeOf_isSome : ∀ b : Byte, (releaseModeOf b).isSome = true ↔ b.toNat ≤ 2 := by decide +kernel

theorem paceModeOf_isSome : ∀ b : Byte, (paceModeOf b).isSome = true ↔ b.toNat ≤ 1 := by decide +kernel

theorem portSetOf_isSome : ∀ b : Byte, (portSetOf b).isSome = true ↔ b.toNat < 64 := by decide +kernel

theorem holdSetOf_isSome : ∀ b : Byte, (holdSetOf b).isSome = true ↔ 1 ≤ b.toNat ∧ b.toNat < 32 := by decide +kernel

theorem handleOf_isSome (a : HandleArg) : (handleOf a).isSome = true ↔ slotInRange a := by
  unfold handleOf
  rw [Option.isSome_map, below_isSome]

theorem labelOf_isSome (letter number : Byte) :
    (labelOf letter number).isSome = true ↔
      (0x41 ≤ letter.toNat ∧ letter.toNat ≤ 0x5A) ∧ 1 ≤ number.toNat ∧ number.toNat ≤ 99 := by
  unfold labelOf
  split
  · rw [Option.isSome_map, within_isSome]; simp [*]
  · simp [*]

/-! ### The checks of operands that may be absent and of lists -/

theorem checkOpt_isSome (f : α → Option β) (o : Option α) :
    (checkOpt f o).isSome = true ↔ ∀ a, o = some a → (f a).isSome = true := by
  cases o <;> simp [checkOpt]

theorem checkAll_isSome (f : α → Option β) (l : List α) : (checkAll f l).isSome = true ↔ ∀ a ∈ l, (f a).isSome = true := by
  induction l with
  | nil => simp [checkAll]
  | cons a l ih =>
    rw [List.forall_mem_cons, ← ih, checkAll]
    cases f a <;> cases checkAll f l <;> simp

/-- A list checked keeps its length. -/
theorem checkAll_length {f : α → Option β} {l : List α} {r : List β} (h : checkAll f l = some r) : r.length = l.length := by
  induction l generalizing r with
  | nil => cases h; rfl
  | cons a l ih =>
    unfold checkAll at h
    split at h
    · rename_i h1 h2
      cases h
      rw [List.length_cons, List.length_cons, ih h2]
    · cases h

theorem routeOf_isSome (l : List Byte) : (routeOf l).isSome = true ↔ routeInRange l := by
  unfold routeOf routeInRange
  by_cases h : l.length ≤ Config.routeLimit
  · rw [if_pos h, checkAll_isSome]
    simp only [below_isSome]
    exact ⟨fun k => ⟨h, k⟩, And.right⟩
  · rw [if_neg h]
    exact ⟨nofun, fun k => absurd k.1 h⟩

/-- The characters a slug may hold, a letter in either case (R3). -/
theorem slugCharacter_foldLetter : ∀ b : Byte, slugCharacter (foldLetter b) = true ↔
    0x41 ≤ b.toNat ∧ b.toNat ≤ 0x5A ∨ 0x61 ≤ b.toNat ∧ b.toNat ≤ 0x7A ∨ 0x30 ≤ b.toNat ∧ b.toNat ≤ 0x39 ∨ b = 0x2D := by
  decide +kernel

theorem slugOf_isSome (l : List Byte) : (slugOf l).isSome = true ↔ slugInRange l := by
  unfold slugOf slugInRange
  simp only [List.length_map, List.all_map, List.all_eq_true, Function.comp_apply, slugCharacter_foldLetter]
  split <;> simp_all

/-- The characters a desk label may hold (R167). -/
theorem labelCharacter : ∀ b : Byte, (slugCharacter b || b == 0x20) = true ↔
    0x41 ≤ b.toNat ∧ b.toNat ≤ 0x5A ∨ 0x30 ≤ b.toNat ∧ b.toNat ≤ 0x39 ∨ b = 0x2D ∨ b = 0x20 := by
  decide +kernel

theorem deskLabelOf_isSome (l : List Byte) : (deskLabelOf l).isSome = true ↔ deskLabelInRange l := by
  unfold deskLabelOf deskLabelInRange
  simp only [List.all_eq_true, labelCharacter]
  split <;> simp_all

/-! ### Commands refused by the owning block -/

/-- Operands that a check does not pass are answered BAD_PARAM, and nothing else changes (R175). -/
theorem State.command_unchecked (s : State) (h : Head) (c : Cmd) (a : Option α) (check : α → Option β)
    (body : β → Switch → Switch) (ht : s.sw.takes h c) (hn : ∀ x, a = some x → check x = none) :
    s.command h c (a.bind check) body = .next { s with sw := s.sw.replied h .badParam [] } := by
  rw [show a.bind check = none by cases a <;> simp_all, State.command_none s h c body ht]

/-- A command whose whole work is to refuse sends its code, and nothing else changes (R156). -/
theorem State.command_refused (s : State) (h : Head) (c : Cmd) (a : α) (check : α → Option β) (x : β)
    (body : β → Switch → Switch) (code : Code) (ht : s.sw.takes h c) (hc : check a = some x)
    (hb : body x s.sw.quietly = s.sw.quietly.refuse h code) :
    s.command h c ((some a).bind check) body = .next { s with sw := s.sw.replied h code [] } := by
  rw [show (some a).bind check = some x from hc, State.command_replied s h c x body code [] s.sw ht hb]

/-- A port without the right is refused (R5). -/
theorem withRight_of_not_hasRight {s : Switch} {h : Head} {d : DeskId} (hr : ¬s.hasRight h.port d) (k : Switch) :
    s.withRight h d k = s.refuse h .notPermitted := by
  refine if_neg fun hm => hr ?_
  unfold Switch.mayChange Switch.serves Switch.serving Switch.isControl at hm
  simpa only [Bool.or_eq_true, beq_iff_eq] using hm

/-- A handle that names no story is refused (R2). -/
theorem onStory_none {s : Switch} {k : Handle} (hs : s.story k = none) (h : Head) (f : Story → Switch) :
    s.onStory h k f = s.refuse h .noStory := by simp [Switch.onStory, hs]

/-! ### The numbers of named values: positions in their lists (R175) -/

theorem Urgency.byte_eq (x : Urgency) : Urgency.byte x = x.number := by cases x <;> rfl
theorem ChannelState.byte_eq (x : ChannelState) : ChannelState.byte x = x.number := by cases x <;> rfl
theorem PageState.byte_eq (x : PageState) : PageState.byte x = x.number := by cases x <;> rfl
theorem LinkState.byte_eq (x : LinkState) : LinkState.byte x = x.number := by cases x <;> rfl
theorem Engine.byte_eq (x : Engine) : Engine.byte x = x.number := by cases x <;> rfl
theorem Phase.byte_eq (x : Phase) : Phase.byte x = x.number := by cases x <;> rfl
theorem Standing.byte_eq (x : Standing) : Standing.byte x = x.number := by cases x <;> rfl
theorem Privilege.byte_eq (x : Privilege) : Privilege.byte x = x.number := by cases x <;> rfl
theorem BufferMode.byte_eq (x : BufferMode) : BufferMode.byte x = x.number := by cases x <;> rfl
theorem ReleaseMode.byte_eq (x : ReleaseMode) : ReleaseMode.byte x = x.number := by cases x <;> rfl
theorem PaceMode.byte_eq (x : PaceMode) : PaceMode.byte x = x.number := by cases x <;> rfl
theorem StartCause.byte_eq (x : StartCause) : StartCause.byte x = x.number := by cases x <;> rfl
theorem LinkId.byte_eq (x : LinkId) : LinkId.byte x = LinkId.number x := by cases x <;> rfl

end Sys2Proof.Machine
end

