-- ==== Sys2Proof/Laws/Records.lean ====
section
/-! SUPPORT. What the shared operations on stories, pins, purges and pages can change, said once for each. -/

namespace Sys2Proof.Machine.Switch

/-- The upload records a completed purge may leave: each as it was, or with its victim forgotten (R26). -/
def VictimsForgotten (a b : Bank 6 (Option Upload)) : Prop :=
  ∀ p, b.get p = a.get p ∨ ∃ u, a.get p = some u ∧ b.get p = some { u with victim := none }

theorem VictimsForgotten.refl (a : Bank 6 (Option Upload)) : VictimsForgotten a a := fun _ => Or.inl rfl

theorem VictimsForgotten.trans {a b c : Bank 6 (Option Upload)} (h : VictimsForgotten a b) (k : VictimsForgotten b c) :
    VictimsForgotten a c := by
  intro p
  rcases h p with e | ⟨u, e, e'⟩ <;> rcases k p with f | ⟨v, f, f'⟩
  · exact Or.inl (f.trans e)
  · exact Or.inr ⟨v, e.symm.trans f, f'⟩
  · exact Or.inr ⟨u, e, f.trans e'⟩
  · obtain rfl : { u with victim := none } = v := Option.some.inj (e'.symm.trans f)
    exact Or.inr ⟨u, e, f'⟩

/-- What the operations on stories, versions and locks leave as it was: everything but the slots, the watch table, the
inboxes, the pool and its count, the victims of the uploads, and the released mark of the event. -/
structure StoryFrame (s t : Switch) : Prop where
  wall : t.wall = s.wall
  clock : t.clock = s.clock
  channels : t.channels = s.channels
  reserved : t.store.reserved = s.store.reserved
  tight : t.store.tight = s.store.tight
  copy : t.store.copy = s.store.copy
  uploads : VictimsForgotten s.uploads t.uploads
  pages : t.pages = s.pages
  queue : t.queue = s.queue
  sending : t.sending = s.sending
  releases : t.releases = s.releases
  links : t.links = s.links
  active : t.active = s.active
  pace : t.pace = s.pace
  ports : t.ports = s.ports
  groups : t.groups = s.groups
  holds : t.holds = s.holds
  image : t.image = s.image
  saving : t.saving = s.saving
  starting : t.starting = s.starting
  cause : t.cause = s.cause
  defaulted : t.defaulted = s.defaulted
  sent : t.last.sent = s.last.sent
  free : t.free = s.free

theorem StoryFrame.refl (s : Switch) : StoryFrame s s :=
  ⟨rfl, rfl, rfl, rfl, rfl, rfl, .refl _, rfl, rfl, rfl, rfl, rfl, rfl, rfl, rfl, rfl, rfl, rfl, rfl, rfl, rfl, rfl, rfl, rfl⟩

theorem StoryFrame.trans {s t u : Switch} (a : StoryFrame s t) (b : StoryFrame t u) : StoryFrame s u where
  wall := b.wall.trans a.wall
  clock := b.clock.trans a.clock
  channels := b.channels.trans a.channels
  reserved := b.reserved.trans a.reserved
  tight := b.tight.trans a.tight
  copy := b.copy.trans a.copy
  uploads := a.uploads.trans b.uploads
  pages := b.pages.trans a.pages
  queue := b.queue.trans a.queue
  sending := b.sending.trans a.sending
  releases := b.releases.trans a.releases
  links := b.links.trans a.links
  active := b.active.trans a.active
  pace := b.pace.trans a.pace
  ports := b.ports.trans a.ports
  groups := b.groups.trans a.groups
  holds := b.holds.trans a.holds
  image := b.image.trans a.image
  saving := b.saving.trans a.saving
  starting := b.starting.trans a.starting
  cause := b.cause.trans a.cause
  defaulted := b.defaulted.trans a.defaulted
  sent := b.sent.trans a.sent
  free := b.free.trans a.free

/-- A fold of operations that each keep the frame keeps it. -/
theorem StoryFrame.foldl {f : Switch → α → Switch} (h : ∀ s a, StoryFrame s (f s a)) (l : List α) (s : Switch) :
    StoryFrame s (l.foldl f s) := by
  induction l generalizing s with
  | nil => exact StoryFrame.refl s
  | cons a l ih => exact (h s a).trans (ih _)

theorem setSlot_frame (s : Switch) (i : SlotId) (x : Slot) : StoryFrame s (s.setSlot i x) := by constructor <;> first | rfl | exact .refl _
theorem setStory_frame (s : Switch) (i : SlotId) (st : Story) : StoryFrame s (s.setStory i st) := by constructor <;> first | rfl | exact .refl _
theorem vacate_frame (s : Switch) (i : SlotId) : StoryFrame s (s.vacate i) := by constructor <;> first | rfl | exact .refl _
theorem dropWatches_frame (s : Switch) (f : Watch → Bool) : StoryFrame s (s.dropWatches f) := by constructor <;> first | rfl | exact .refl _
theorem postEach_frame (s : Switch) (f : PortId → Option Notice) : StoryFrame s (s.postEach f) := by constructor <;> first | rfl | exact .refl _
theorem post_frame (s : Switch) (n : Notice) (who : PortId → Bool) : StoryFrame s (s.post n who) := by constructor <;> first | rfl | exact .refl _
theorem postWatchers_frame (s : Switch) (h : Handle) (n : Notice) : StoryFrame s (s.postWatchers h n) := by constructor <;> first | rfl | exact .refl _
theorem markReleased_frame (s : Switch) : StoryFrame s s.markReleased := by constructor <;> first | rfl | exact .refl _
/-- Forgetting the victims of a purged story, record by record (R26). -/
@[simp] theorem forgetVictims_get (s : Switch) (h : Handle) (p : PortId) :
    (s.forgetVictims h).uploads.get p = forgetVictim h (s.uploads.get p) := Bank.get_map _ _ _

theorem forgetVictims_frame (s : Switch) (h : Handle) : StoryFrame s (s.forgetVictims h) := by
  constructor <;> first | rfl | skip
  intro p
  rw [forgetVictims_get]
  cases s.uploads.get p with
  | none => exact Or.inl rfl
  | some u =>
    by_cases e : u.handle = h
    · exact Or.inr ⟨u, rfl, by simp [forgetVictim, e]⟩
    · exact Or.inl (by simp [forgetVictim, e])

theorem returnChain_frame (s : Switch) (l : List Nat) : StoryFrame s (s.returnChain l) := by constructor <;> first | rfl | exact .refl _

/-- A change of a story's versions (R31) changes the slots alone. -/
theorem modifyVersions_eq (s : Switch) (h : Handle) (f : List Version → List Version) :
    ∃ slots, s.modifyVersions h f = { s with slots := slots } := by
  unfold modifyVersions
  split
  · exact ⟨s.slots, rfl⟩
  · exact ⟨_, rfl⟩

theorem modifyVersions_frame (s : Switch) (h : Handle) (f : List Version → List Version) :
    StoryFrame s (s.modifyVersions h f) := by
  obtain ⟨x, e⟩ := modifyVersions_eq s h f
  rw [e]
  constructor <;> first | rfl | exact .refl _

/-- A pin taken changes the slots alone (R31). -/
theorem pin_eq (s : Switch) (h : Handle) (n : Nat) : ∃ slots, s.pin h n = { s with slots := slots } := modifyVersions_eq s h _

/-- A completed purge keeps the frame (R17). -/
theorem completePurge_frame (s : Switch) (i : SlotId) : StoryFrame s (s.completePurge i) := by
  unfold completePurge
  split
  · exact StoryFrame.refl s
  · exact (((((postWatchers_frame _ _ _).trans (dropWatches_frame _ _)).trans
      (StoryFrame.foldl (fun s (v : Version) => returnChain_frame s v.chain) _ _)).trans (markReleased_frame _)).trans
      (forgetVictims_frame _ _)).trans (vacate_frame _ _)

/-- Chains returned one after another: the last stands in front (R22, R30). -/
theorem returnChains_eq (l : List Version) : ∀ s : Switch, l.foldl (fun s v => s.returnChain v.chain) s =
    { s with
      store := { s.store with
        freePool := (l.map Version.chain).reverse.flatten ++ s.store.freePool
        freeCount := s.store.freeCount + (l.map fun v => v.chain.length).sum } } := by
  induction l with
  | nil => intro s; simp
  | cons v l ih => intro s; rw [List.foldl_cons, ih]; simp [returnChain, setStore, Nat.add_assoc]

/-- A completed purge as one update (R17). -/
theorem completePurge_eq (s : Switch) (i : SlotId) (st : Story) (h : (s.slots.get i).story = some st) :
    s.completePurge i =
      { s with
        slots := s.slots.set i { gen := (s.slots.get i).gen + 1, story := none }
        watches := s.watches.filter fun w => !(w.handle == s.handleAt i)
        uploads := s.uploads.map (forgetVictim (s.handleAt i))
        inboxes := (s.postWatchers (s.handleAt i)
          { s.notice .gone st.urgency with handle := some (s.handleAt i), slug := some st.slug }).inboxes
        store := { s.store with
          freePool := (st.versions.map Version.chain).reverse.flatten ++ s.store.freePool
          freeCount := s.store.freeCount + (st.versions.map fun v => v.chain.length).sum }
        last := { s.last with released := true } } := by
  unfold completePurge
  rw [show (s.slot i).story = some st from h]
  simp only [returnChains_eq]
  rfl

/-- A completed purge of a story by its handle (R17). -/
theorem completePurge_purged (s : Switch) (k : Handle) (st : Story) (h : s.story k = some st) :
    s.completePurge k.slot = s.purged k st := by
  obtain ⟨hg, hs⟩ := story_eq_some.1 h
  rw [completePurge_eq s k.slot st hs]
  unfold purged forgetVictim handleAt Switch.slot notice
  rw [hg]
  rfl

/-- No version of a story is pinned. -/
theorem unpinned_iff (st : Story) : st.unpinned = true ↔ ∀ v ∈ st.versions, v.pins = 0 := by
  unfold Story.unpinned
  simp

/-- A purge requested completes at once, or waits for its pins (R16, R18). -/
theorem requestPurge_eq (s : Switch) (i : SlotId) (st : Story) (h : (s.slots.get i).story = some st) :
    s.requestPurge i =
      if ∀ v ∈ st.versions, v.pins = 0 then s.purged (s.handleAt i) st
      else { s with slots := (s.setStory i { st with status := .spiked true }).slots } := by
  unfold requestPurge
  rw [show (s.slot i).story = some st from h]
  simp only [unpinned_iff]
  rw [show s.completePurge i = s.purged (s.handleAt i) st from
    completePurge_purged s (s.handleAt i) st (story_eq_some.2 ⟨rfl, h⟩)]
  rfl

/-- The locks of a port released and its watch entries dropped (R56, R96). -/
theorem letGo_eq (s : Switch) (p : PortId) : (s.releaseLocks p).dropWatches (fun w => w.port == p) = s.letGo p := rfl

theorem purgeIfUnpinned_frame (s : Switch) (i : SlotId) : StoryFrame s (s.purgeIfUnpinned i) := by
  unfold purgeIfUnpinned
  split
  · exact StoryFrame.refl s
  · split
    · exact completePurge_frame s i
    · exact StoryFrame.refl s

theorem requestPurge_frame (s : Switch) (i : SlotId) : StoryFrame s (s.requestPurge i) := by
  unfold requestPurge
  split
  · exact StoryFrame.refl s
  · split
    · exact completePurge_frame s i
    · exact setStory_frame s i _

/-- A pin released keeps the frame, whether or not it completes a purge (R19, R31). -/
theorem unpin_frame (s : Switch) (h : Handle) (n : Nat) : StoryFrame s (s.unpin h n) := by
  unfold unpin
  split
  · exact StoryFrame.refl s
  · exact (modifyVersions_frame _ _ _).trans (purgeIfUnpinned_frame _ _)

/-- The pins of a snapshot released keep the frame (R127, R129, R130). -/
theorem releasePins_frame (s : Switch) (l : List Entry) : StoryFrame s (s.releasePins l) := by
  refine StoryFrame.foldl (fun s e => ?_) l s
  split
  · exact StoryFrame.refl s
  · exact unpin_frame s _ _

/-- A snapshot changes the slots alone, by its pins (R123). -/
theorem snapshot_eq (l : List Placement) : ∀ s : Switch, ∃ slots, (s.snapshot l).1 = { s with slots := slots } := by
  induction l with
  | nil => exact fun s => ⟨s.slots, rfl⟩
  | cons p l ih =>
    intro s
    simp only [snapshot]
    cases (entryOf p (s.story p.handle)).version with
    | none => exact ih s
    | some n =>
      obtain ⟨a, ha⟩ := pin_eq s (entryOf p (s.story p.handle)).handle n
      obtain ⟨b, hb⟩ := ih ({ s with slots := a })
      refine ⟨b, ?_⟩
      simp only [ha]
      exact hb

/-- A lock that lapses or is broken keeps the frame (R51, R53). -/
theorem endLock_frame (s : Switch) (i : SlotId) (st : Story) (l : Lock) (k : NoticeKind) : StoryFrame s (s.endLock i st l k) := by
  unfold endLock
  exact (setStory_frame _ _ _).trans (post_frame _ _ _)

/-- An offer that expires keeps the frame (R68, R69). -/
theorem expireOffer_frame (r : Reason) (s : Switch) (i : SlotId) : StoryFrame s (expireOffer r s i) := by
  unfold expireOffer
  split
  · exact StoryFrame.refl s
  · split
    · exact (setStory_frame _ _ _).trans (post_frame _ _ _)
    · exact StoryFrame.refl s

theorem expireOffersTo_frame (s : Switch) (p : PortId) : StoryFrame s (s.expireOffersTo p) :=
  StoryFrame.foldl (fun s i => expireOffer_frame _ s i) _ s

/-- Locks released without notice change the slots alone (R56). -/
theorem releaseLocks_eq (s : Switch) (p : PortId) : s.releaseLocks p = { s with slots := s.slots.map (releaseLockOf p) } := rfl

/-! ### Jobs -/

/-- The part of the switch a job's end touches beside the stories: the queue, the SENDING page and the page's own record
(R127, R129, R130). -/
theorem endJob_pages (s : Switch) (q : PageId) (x : Page) :
    (s.endJob q x).pages = s.pages.set q { x with job := none } ∧ (s.endJob q x).queue = s.queue.filter (fun y => y != q) ∧
    (s.endJob q x).sending = (if s.sending = some q then none else s.sending) := by
  unfold endJob
  have h := releasePins_frame
    (({ s with queue := s.queue.filter fun y => y != q, sending := if s.sending = some q then none else s.sending } : Switch).setPage
      q { x with job := none }) (((s.page q).job.map Job.entries).getD [])
  exact ⟨h.pages, h.queue, h.sending⟩

/-- Everything else a job's end leaves as it was. -/
theorem endJob_fields (s : Switch) (q : PageId) (x : Page) :
    (s.endJob q x).wall = s.wall ∧ (s.endJob q x).clock = s.clock ∧ (s.endJob q x).channels = s.channels ∧
    VictimsForgotten s.uploads (s.endJob q x).uploads ∧ (s.endJob q x).releases = s.releases ∧ (s.endJob q x).links = s.links ∧
    (s.endJob q x).active = s.active ∧ (s.endJob q x).pace = s.pace ∧ (s.endJob q x).ports = s.ports ∧
    (s.endJob q x).groups = s.groups ∧ (s.endJob q x).holds = s.holds ∧ (s.endJob q x).image = s.image ∧
    (s.endJob q x).saving = s.saving ∧ (s.endJob q x).starting = s.starting ∧ (s.endJob q x).cause = s.cause ∧
    (s.endJob q x).defaulted = s.defaulted ∧ (s.endJob q x).last.sent = s.last.sent ∧ (s.endJob q x).free = s.free ∧
    (s.endJob q x).store.copy = s.store.copy ∧ (s.endJob q x).store.reserved = s.store.reserved ∧
    (s.endJob q x).store.tight = s.store.tight := by
  unfold endJob
  have h := releasePins_frame
    (({ s with queue := s.queue.filter fun y => y != q, sending := if s.sending = some q then none else s.sending } : Switch).setPage
      q { x with job := none }) (((s.page q).job.map Job.entries).getD [])
  exact ⟨h.wall, h.clock, h.channels, h.uploads, h.releases, h.links, h.active, h.pace, h.ports, h.groups, h.holds, h.image,
    h.saving, h.starting, h.cause, h.defaulted, h.sent, h.free, h.copy, h.reserved, h.tight⟩

/-- A page released changes its own record, the queue, the release sequence and, by its pins, the slots (R122 to R125). -/
theorem releasePage_eq (s : Switch) (q : PageId) (d : PageDef) (rush : Bool) :
    ∃ slots queue x, s.releasePage q d rush =
      { s with slots := slots, queue := queue, releases := s.releases + 1, pages := s.pages.set q x } := by
  unfold releasePage
  obtain ⟨a, ha⟩ := snapshot_eq (s.page q).layout s
  rcases hs : s.snapshot (s.page q).layout with ⟨t, entries⟩
  rw [hs] at ha
  dsimp only at ha
  subst ha
  exact ⟨a, _, _, rfl⟩

end Sys2Proof.Machine.Switch
end

