-- ==== Sys2Proof/Laws/Release.lean ====
section
/-! SUPPORT. What an automatic release and a deadline match can change, said once for each, and that neither moves a group in or out of being done. -/

namespace Sys2Proof.Machine.Switch

/-! ### Automatic releases (R114, R131) -/

/-- One page of an automatic release, as one update. -/
theorem autoReleasePage_eq (c : ChannelId) (s : Switch) (q : PageId) :
    ∃ slots inboxes pages queue releases, autoReleasePage c s q =
      { s with slots := slots, inboxes := inboxes, pages := pages, queue := queue, releases := releases } := by
  unfold autoReleasePage
  split
  · exact ⟨s.slots, s.inboxes, s.pages, s.queue, s.releases, rfl⟩
  · rename_i d _
    split
    · obtain ⟨slots, queue, x, e⟩ := releasePage_eq s q d false
      rw [e]
      exact ⟨slots, s.inboxes, _, queue, _, rfl⟩
    · exact ⟨s.slots, _, s.pages, s.queue, s.releases, rfl⟩

/-- An automatic release as one update. -/
theorem autoRelease_eq (s : Switch) (c : ChannelId) (reference : Nat) :
    ∃ slots inboxes pages queue releases, s.autoRelease c reference =
      { s with slots := slots, inboxes := inboxes, pages := pages, queue := queue, releases := releases } := by
  unfold autoRelease
  generalize s.autoSelected c reference = l
  induction l generalizing s with
  | nil => exact ⟨s.slots, s.inboxes, s.pages, s.queue, s.releases, rfl⟩
  | cons q l ih =>
    obtain ⟨a, b, p, k, r, e⟩ := autoReleasePage_eq c s q
    obtain ⟨a', b', p', k', r', e'⟩ := ih { s with slots := a, inboxes := b, pages := p, queue := k, releases := r }
    refine ⟨a', b', p', k', r', ?_⟩
    rw [List.foldl_cons, e]
    exact e'

/-- A page released keeps every page's layout and last-sent edition. -/
theorem releasePage_kept (s : Switch) (q : PageId) (d : PageDef) (rush : Bool) (k : PageId) :
    ((s.releasePage q d rush).pages.get k).layout = (s.pages.get k).layout ∧
      ((s.releasePage q d rush).pages.get k).lastSent = (s.pages.get k).lastSent := by
  unfold releasePage
  obtain ⟨a, ha⟩ := snapshot_eq (s.page q).layout s
  rcases hs : s.snapshot (s.page q).layout with ⟨t, entries⟩
  rw [hs] at ha
  dsimp only at ha
  subst ha
  simp only [setPage_fields, Bank.get_set]
  split <;> simp_all [page_def]

/-- So does one page of an automatic release. -/
theorem autoReleasePage_kept (c : ChannelId) (s : Switch) (q k : PageId) :
    ((autoReleasePage c s q).pages.get k).layout = (s.pages.get k).layout ∧
      ((autoReleasePage c s q).pages.get k).lastSent = (s.pages.get k).lastSent := by
  unfold autoReleasePage
  split
  · exact ⟨rfl, rfl⟩
  · rename_i d _
    split
    · exact releasePage_kept s q d false k
    · exact ⟨rfl, rfl⟩

/-- And so does an automatic release. -/
theorem autoRelease_kept (s : Switch) (c : ChannelId) (reference : Nat) (k : PageId) :
    ((s.autoRelease c reference).pages.get k).layout = (s.pages.get k).layout ∧
      ((s.autoRelease c reference).pages.get k).lastSent = (s.pages.get k).lastSent := by
  unfold autoRelease
  generalize s.autoSelected c reference = l
  induction l generalizing s with
  | nil => exact ⟨rfl, rfl⟩
  | cons q l ih =>
    rw [List.foldl_cons]
    obtain ⟨a, b⟩ := ih (autoReleasePage c s q)
    obtain ⟨a', b'⟩ := autoReleasePage_kept c s q k
    exact ⟨a.trans a', b.trans b'⟩

/-! ### Groups (R105, R111) -/

/-- The pages of a group depend on the settings and the layouts alone. -/
theorem groupPages_congr {s t : Switch} (hg : t.groups = s.groups)
    (hl : ∀ q, (t.pages.get q).layout = (s.pages.get q).layout) (c : ChannelId) : t.groupPages c = s.groupPages c := by
  unfold groupPages
  simp only [page_def, hg, hl]

/-- Whether a group is done depends on those, the last-sent editions and the edition. -/
theorem groupDone_congr {s t : Switch} (hg : t.groups = s.groups) (he : t.clock.edition = s.clock.edition)
    (hp : ∀ q, (t.pages.get q).layout = (s.pages.get q).layout ∧ (t.pages.get q).lastSent = (s.pages.get q).lastSent)
    (c : ChannelId) : t.groupDone c = s.groupDone c := by
  unfold groupDone
  simp only [page_def, he, (hp _).2, groupPages_congr hg (fun q => (hp q).1)]

/-- An automatic release moves no group in or out of being done. -/
theorem autoRelease_groupDone (s : Switch) (c d : ChannelId) (reference : Nat) :
    (s.autoRelease c reference).groupDone d = s.groupDone d := by
  obtain ⟨_, _, _, _, _, e⟩ := autoRelease_eq s c reference
  exact groupDone_congr (by rw [e]) (by rw [e]) (autoRelease_kept s c reference) d

/-! ### The deadline match (R109) -/

/-- The channel that a deadline match leaves is the one the statements spell. -/
theorem matched_eq (s : Switch) (c : ChannelId) :
    s.matched c =
      if s.groupDone c then { s.channel c with state := .cleared }
      else
        { s.channel c with
          state := .due, lateCount := 0, nextLate := lateTickAfter s.clock.ticks (s.channelSettings c).lateInterval } := rfl

/-- A deadline match as one update. -/
theorem takeMatch_eq (c : ChannelId) (s : Switch) :
    ∃ slots inboxes pages queue releases, takeMatch c s =
      { s with
        channels :=
          if (s.channels.get c).state = .quiet ∨ (s.channels.get c).state = .warned then s.channels.set c (s.matched c)
          else s.channels
        slots := slots, inboxes := inboxes, pages := pages, queue := queue, releases := releases } := by
  unfold takeMatch
  simp only [channel_def, matched_eq]
  by_cases hx : (s.channels.get c).state = .quiet ∨ (s.channels.get c).state = .warned
  · by_cases hg : s.groupDone c = true
    · simp only [hx, hg, if_true]
      exact ⟨s.slots, s.inboxes, s.pages, s.queue, s.releases, rfl⟩
    · simp only [hx, hg, if_true, if_false, Bool.false_eq_true]
      split
      · obtain ⟨a, b, p, k, r, e⟩ := autoRelease_eq
          ((s.setChannel c
            { s.channels.get c with
              state := .due, lateCount := 0
              nextLate := lateTickAfter s.clock.ticks (s.channelSettings c).lateInterval }).postChannel c .pageLate .flash
            (some (lateNote 0))) c s.clock.edition
        exact ⟨a, b, p, k, r, e⟩
      · exact ⟨s.slots, _, s.pages, s.queue, s.releases, rfl⟩
  · simp only [hx, if_false]
    exact ⟨s.slots, s.inboxes, s.pages, s.queue, s.releases, rfl⟩

/-- A deadline match moves no group in or out of being done. -/
theorem takeMatch_groupDone (c d : ChannelId) (s : Switch) : (takeMatch c s).groupDone d = s.groupDone d := by
  unfold takeMatch
  simp only [channel_def]
  by_cases hx : (s.channels.get c).state = .quiet ∨ (s.channels.get c).state = .warned
  · by_cases hg : s.groupDone c = true
    · simp only [hx, hg, if_true]
      rfl
    · simp only [hx, hg, if_true, if_false, Bool.false_eq_true]
      by_cases hm : (s.channelSettings c).releaseMode = .atDeadline
      · simp only [hm, if_true, autoRelease_groupDone]
        rfl
      · simp only [hm, if_false]
        rfl
  · simp only [hx, if_false]

end Sys2Proof.Machine.Switch
end

