-- ==== Sys2Proof/Laws/Wire.lean ====
section
/-! SUPPORT. What the wire's readers do: which row each command code spells, and that the stuffing and the two-byte numbers are restored. -/

namespace Sys2Proof.Machine

/-- Each command code of the catalogue spells its row (R175). -/
@[simp] theorem event_command (h : Head) (l : List Byte) :
    Frame.event h.port { kind := 1#8, tag := h.tag, payload := Cmd.code .file :: l } = .file h (fileArgs l) ∧
    Frame.event h.port { kind := 1#8, tag := h.tag, payload := Cmd.code .find :: l } = .find h (wholeList l) ∧
    Frame.event h.port { kind := 1#8, tag := h.tag, payload := Cmd.code .describe :: l } = .describe h (handleArgs l) ∧
    Frame.event h.port { kind := 1#8, tag := h.tag, payload := Cmd.code .reclassify :: l } = .reclassify h (reclassifyArgs l) ∧
    Frame.event h.port { kind := 1#8, tag := h.tag, payload := Cmd.code .route :: l } = .route h (routeArgs l) ∧
    Frame.event h.port { kind := 1#8, tag := h.tag, payload := Cmd.code .spike :: l } = .spike h (handleArgs l) ∧
    Frame.event h.port { kind := 1#8, tag := h.tag, payload := Cmd.code .restore :: l } = .restore h (handleArgs l) ∧
    Frame.event h.port { kind := 1#8, tag := h.tag, payload := Cmd.code .purge :: l } = .purge h (handleArgs l) ∧
    Frame.event h.port { kind := 1#8, tag := h.tag, payload := Cmd.code .read :: l } = .read h (readArgs l) ∧
    Frame.event h.port { kind := 1#8, tag := h.tag, payload := Cmd.code .storeStatus :: l } = .storeStatus h (noArgs l) ∧
    Frame.event h.port { kind := 1#8, tag := h.tag, payload := Cmd.code .checkout :: l } = .checkout h (custodyArgs l) ∧
    Frame.event h.port { kind := 1#8, tag := h.tag, payload := Cmd.code .renew :: l } = .renew h (custodyArgs l) ∧
    Frame.event h.port { kind := 1#8, tag := h.tag, payload := Cmd.code .abandon :: l } = .abandon h (custodyArgs l) ∧
    Frame.event h.port { kind := 1#8, tag := h.tag, payload := Cmd.code .checkin :: l } = .checkin h (checkinArgs l) ∧
    Frame.event h.port { kind := 1#8, tag := h.tag, payload := Cmd.code .breakLock :: l } = .breakLock h (handleArgs l) ∧
    Frame.event h.port { kind := 1#8, tag := h.tag, payload := Cmd.code .offer :: l } = .offer h (offerArgs l) ∧
    Frame.event h.port { kind := 1#8, tag := h.tag, payload := Cmd.code .accept :: l } = .accept h (deskArgs l) ∧
    Frame.event h.port { kind := 1#8, tag := h.tag, payload := Cmd.code .decline :: l } = .decline h (declineArgs l) ∧
    Frame.event h.port { kind := 1#8, tag := h.tag, payload := Cmd.code .withdraw :: l } = .withdraw h (deskArgs l) ∧
    Frame.event h.port { kind := 1#8, tag := h.tag, payload := Cmd.code .collect :: l } = .collect h (byteArg l) ∧
    Frame.event h.port { kind := 1#8, tag := h.tag, payload := Cmd.code .filter :: l } = .filter h (filterArgs l) ∧
    Frame.event h.port { kind := 1#8, tag := h.tag, payload := Cmd.code .mask :: l } = .mask h (maskArgs l) ∧
    Frame.event h.port { kind := 1#8, tag := h.tag, payload := Cmd.code .watch :: l } = .watch h (watchArgs l) ∧
    Frame.event h.port { kind := 1#8, tag := h.tag, payload := Cmd.code .unwatch :: l } = .unwatch h (watchArgs l) ∧
    Frame.event h.port { kind := 1#8, tag := h.tag, payload := Cmd.code .clockStart :: l } = .clockStart h (noArgs l) ∧
    Frame.event h.port { kind := 1#8, tag := h.tag, payload := Cmd.code .clockStop :: l } = .clockStop h (noArgs l) ∧
    Frame.event h.port { kind := 1#8, tag := h.tag, payload := Cmd.code .turn :: l } = .turn h (turnArgs l) ∧
    Frame.event h.port { kind := 1#8, tag := h.tag, payload := Cmd.code .editionLength :: l } = .editionLength h (lengthArg l) ∧
    Frame.event h.port { kind := 1#8, tag := h.tag, payload := Cmd.code .deadline :: l } = .deadline h (deadlineArgs l) ∧
    Frame.event h.port { kind := 1#8, tag := h.tag, payload := Cmd.code .channel :: l } = .channel h (channelArgs l) ∧
    Frame.event h.port { kind := 1#8, tag := h.tag, payload := Cmd.code .clockStatus :: l } = .clockStatus h (noArgs l) ∧
    Frame.event h.port { kind := 1#8, tag := h.tag, payload := Cmd.code .page :: l } = .page h (pageArgs l) ∧
    Frame.event h.port { kind := 1#8, tag := h.tag, payload := Cmd.code .place :: l } = .place h (placeArgs l) ∧
    Frame.event h.port { kind := 1#8, tag := h.tag, payload := Cmd.code .unplace :: l } = .unplace h (unplaceArgs l) ∧
    Frame.event h.port { kind := 1#8, tag := h.tag, payload := Cmd.code .release :: l } = .release h (releaseArgs l) ∧
    Frame.event h.port { kind := 1#8, tag := h.tag, payload := Cmd.code .recall :: l } = .recall h (byteArg l) ∧
    Frame.event h.port { kind := 1#8, tag := h.tag, payload := Cmd.code .pageStatus :: l } = .pageStatus h (pageStatusArgs l) ∧
    Frame.event h.port { kind := 1#8, tag := h.tag, payload := Cmd.code .links :: l } = .links h (linksArgs l) ∧
    Frame.event h.port { kind := 1#8, tag := h.tag, payload := Cmd.code .feedStatus :: l } = .feedStatus h (noArgs l) ∧
    Frame.event h.port { kind := 1#8, tag := h.tag, payload := Cmd.code .attach :: l } = .attach h (noArgs l) ∧
    Frame.event h.port { kind := 1#8, tag := h.tag, payload := Cmd.code .reattach :: l } = .reattach h (byteArg l) ∧
    Frame.event h.port { kind := 1#8, tag := h.tag, payload := Cmd.code .portStatus :: l } = .portStatus h (portStatusArgs l) ∧
    Frame.event h.port { kind := 1#8, tag := h.tag, payload := Cmd.code .settings :: l } = .settings h (settingsArgs l) ∧
    Frame.event h.port { kind := 1#8, tag := h.tag, payload := Cmd.code .save :: l } = .save h (noArgs l) ∧
    Frame.event h.port { kind := 1#8, tag := h.tag, payload := Cmd.code .dump :: l } = .dump h (noArgs l) ∧
    Frame.event h.port { kind := 1#8, tag := h.tag, payload := Cmd.code .hold :: l } = .hold h (byteArg l) ∧
    Frame.event h.port { kind := 1#8, tag := h.tag, payload := Cmd.code .unhold :: l } = .unhold h (byteArg l) ∧
    Frame.event h.port { kind := 1#8, tag := h.tag, payload := Cmd.code .restart :: l } = .restart h (noArgs l) ∧
    Frame.event h.port { kind := 1#8, tag := h.tag, payload := Cmd.code .identify :: l } = .identify h (noArgs l) :=
  ⟨rfl, rfl, rfl, rfl, rfl, rfl, rfl, rfl, rfl, rfl, rfl, rfl, rfl, rfl, rfl, rfl, rfl, rfl, rfl, rfl, rfl, rfl, rfl, rfl, rfl, rfl, rfl, rfl, rfl, rfl, rfl, rfl, rfl, rfl, rfl, rfl, rfl, rfl, rfl, rfl, rfl, rfl, rfl, rfl, rfl, rfl, rfl, rfl, rfl⟩

/-- The receiver restores what the sender stuffed (R174). -/
theorem unstuff_stuff : ∀ l : List Byte, unstuff (stuff l) = some l := by
  intro l
  induction l with
  | nil => rfl
  | cons b l ih =>
    unfold stuff
    by_cases h : b = 0xA5 ∨ b = 0xA6
    · rw [if_pos h]
      rcases h with rfl | rfl <;> simp [unstuff, ih]
    · rw [if_neg h]
      have h1 : b ≠ 165#8 := fun e => h (Or.inl e)
      have h2 : b ≠ 166#8 := fun e => h (Or.inr e)
      cases hs : stuff l with
      | nil =>
        rw [hs] at ih
        simp [unstuff] at ih ⊢
        exact ⟨⟨h1, h2⟩, ih⟩
      | cons c m =>
        rw [hs] at ih
        simp [unstuff, h1, h2, ih]

/-- No start byte stands in stuffed bytes (R174). -/
theorem stuff_no_start : ∀ l : List Byte, 0xA5 ∉ stuff l := by
  intro l
  induction l with
  | nil => simp [stuff]
  | cons b l ih =>
    have ih' : 165#8 ∉ stuff l := ih
    unfold stuff
    by_cases h : b = 0xA5 ∨ b = 0xA6
    · rw [if_pos h]
      rcases h with rfl | rfl <;> simp [ih']
    · rw [if_neg h]
      have h1 : 165#8 ≠ b := fun e => h (Or.inl e.symm)
      simp [ih', h1]

/-- A two-byte number is read back from its two bytes. -/
theorem wordBytes_back (w : Word16) : ∃ hi lo, wordBytes w = [hi, lo] ∧ word16 hi lo = w := by
  refine ⟨_, _, rfl, ?_⟩
  apply BitVec.eq_of_toNat_eq
  simp only [word16, byte, BitVec.toNat_append, BitVec.toNat_ofNat]
  rw [← Nat.shiftLeft_add_eq_or_of_lt (Nat.mod_lt _ (by decide)), Nat.shiftLeft_eq]
  have := w.isLt
  omega

/-- A handle is read back from its three bytes. -/
theorem handleBytes_back (k : HandleArg) : ∃ hi lo, handleBytes k = [hi, lo, k.gen] ∧ handleArg hi lo k.gen = k := by
  obtain ⟨a, b, e, h⟩ := wordBytes_back k.slot
  exact ⟨a, b, by simp [handleBytes, e], by simp [handleArg, h]⟩

/-- A counted list is read back, with what follows it. -/
theorem countedArg_counted (l m : List Byte) (h : l.length ≤ 255) : countedArg (counted l ++ m) = some (l, m) := by
  unfold counted countedArg
  have : l.length % 256 = l.length := by omega
  simp [byte, this]

/-- A counted list that is the whole of the rest is read back. -/
theorem wholeList_counted (l : List Byte) (h : l.length ≤ 255) : wholeList (counted l) = some l := by
  have := countedArg_counted l [] h
  rw [List.append_nil] at this
  simp [wholeList, this]

/-- PAGE's three layouts are read back (R119, R175). -/
theorem pageArgs_define (page letter number owner binding : Byte) :
    pageArgs [page, 0, letter, number, owner, binding] =
      some { page, action := .define letter number owner (unlessOnes binding) } := rfl

theorem pageArgs_undefine (page : Byte) : pageArgs [page, 1] = some { page, action := .undefine } := rfl

theorem pageArgs_other (page code : Byte) (h0 : code ≠ 0) (h1 : code ≠ 1) :
    pageArgs [page, code] = some { page, action := .other code } := by
  show (if code = 0 then _ else if code = 1 then _ else _) = _
  rw [if_neg h0, if_neg h1]

end Sys2Proof.Machine
end

