-- ==== Sys2Proof/Tests/Slice0.lean ====
section
/-! SUPPORT. The model's own tests: each check of WellFormed refuses an ill-formed term, frames written out from the layouts of spec/11 spell their rows, the check codes meet their known values, and every statement's hypotheses are met together by a concrete state. -/

namespace Sys2Proof.Tests

open Sys2Proof.Machine

-- One theorem after another: each of these is a kernel evaluation of its own.
set_option Elab.async false
set_option synthInstance.maxSize 1024

/-! ### Small states -/

/-- Port 0, a control port, with tag 1. -/
abbrev desk0 : Head := { port := 0, tag := 1 }

/-- Port 1, a desk port, with tag 1. -/
abbrev desk1 : Head := { port := 1, tag := 1 }

/-- Start-up is over, the store holds 1,100 blocks, desk 1 is served by port 1 and desk 2 by port 2. -/
def quietSwitch : Switch :=
  { Switch.reset with
    starting := false
    store := { Store.fresh with freePool := blocksFrom 0 1100, freeCount := 1100 }
    groups :=
      { Groups.factory with
        ports := { Groups.factory.ports with serving := ((Bank.replicate 16 none).set 1 (some 1)).set 2 (some 2) } } }

/-- A state with no command waiting. -/
abbrev alone (s : Switch) : State := { sw := s, pending := [] }

/-- The handle of the one story of these tests. -/
abbrev handle : Handle := { slot := 5, gen := 7 }

/-- That handle as a payload carries it. -/
abbrev handleArg : HandleArg := { slot := 5, gen := 7 }

/-- A version of one block. -/
def version (number length pins : Nat) : Version :=
  { number := number, length := length, chain := [2000], pins := pins, stamp := 0, author := { port := 1, number := 3 },
    retiring := false }

/-- A story of desk 1 with the slug A. -/
def story (status : Status) (versions : List Version) : Story :=
  { status := status, slug := [0x41], owner := 1, urgency := .priority, category := 1023, versions := versions, route := [1, 2] }

/-- The switch with one story, in slot 5. -/
def withStory (st : Story) : Switch := { quietSwitch with slots := quietSwitch.slots.set 5 { gen := 7, story := some st } }

/-- The switch with one port changed. -/
def withPort (s : Switch) (p : PortId) (f : Port → Port) : Switch := { s with ports := s.ports.set p (f (s.ports.get p)) }

/-- A lock of screen 1/3. -/
def lock (length : Nat) : Lock := { holder := { port := 1, number := 3 }, start := 0, length := length, suspended := false }

/-- An offer of desk 1 to desk 2 by port 1. -/
def offer (length : Nat) : Offer := { target := 2, port := 1, note := 9, start := 0, length := length }

/-- The switch with one link changed. -/
def withLink (s : Switch) (l : LinkId) (f : Link → Link) : Switch := { s with links := s.links.set l (f (s.links.get l)) }

/-- A job of one OMITTED entry, 56 bytes long, after a number of attempts. -/
def job (attempts : Nat) : Job :=
  { entries := [{ handle := handle, frame := List.replicate 16 0, version := none, length := 0, openAtRelease := false }]
    edition := 1, length := 56, rush := false, key := none, order := 1, attempts := attempts, stamp := 0, returned := false
    label := { letter := 0x41, number := 1 }, owner := 1, binding := some 0 }

/-- The definition of page 3. -/
def pageDef : PageDef := { label := { letter := 0x41, number := 1 }, owner := 1, binding := some 0 }

/-- The switch with page 3 defined and its record given. -/
def withPage (s : Switch) (x : Page) : Switch :=
  { s with
    pages := s.pages.set 3 x
    groups := { s.groups with clock := { s.groups.clock with pages := s.groups.clock.pages.set 3 (some pageDef) } } }

/-- A page in a state, with one placement and perhaps a job. -/
def pageIn (state : PageState) (j : Option Job) : Page :=
  { state := state, lastSent := 0, layout := [{ handle := handle, frame := List.replicate 16 0 }], job := j }

/-- The stories of a switch with one story are that story. -/
theorem withStory_only (x st : Story) (j : SlotId) (h : ((withStory x).slots.get j).story = some st) : j = 5 ∧ st = x := by
  rw [show (withStory x).slots = quietSwitch.slots.set 5 { gen := 7, story := some x } from rfl, Bank.get_set] at h
  split at h
  · cases h; exact ⟨by symm; assumption, rfl⟩
  · rw [show quietSwitch.slots = Bank.replicate 1024 { gen := 0, story := none } from rfl, Bank.get_replicate] at h; cases h

/-- The slots of the quiet switch hold no story. -/
theorem quiet_vacant (j : SlotId) : (quietSwitch.slots.get j).story = none := by
  rw [show quietSwitch.slots = Bank.replicate 1024 { gen := 0, story := none } from rfl, Bank.get_replicate]

/-! ### WellFormed refuses an ill-formed term for each of its checks -/

theorem test_wf_file_long : Instr.wf (.file desk1 (some ⟨List.replicate 240 0x41, 0, 0, 0, 0, List.replicate 7 0, 0⟩)) = false := by decide +kernel
theorem test_wf_find_long : Instr.wf (.find desk1 (some (List.replicate 255 0x41))) = false := by decide +kernel
theorem test_wf_reclassify_urgency : Instr.wf (.reclassify desk1 (some ⟨handleArg, some 0xFF, none⟩)) = false := by decide +kernel
theorem test_wf_reclassify_category : Instr.wf (.reclassify desk1 (some ⟨handleArg, none, some 0xFFFF⟩)) = false := by decide +kernel
theorem test_wf_route_long : Instr.wf (.route desk1 (some ⟨handleArg, List.replicate 252 0⟩)) = false := by decide +kernel
theorem test_wf_read_zero : Instr.wf (.read desk1 (some ⟨handleArg, some 0⟩)) = false := by decide +kernel
theorem test_wf_offer_target : Instr.wf (.offer desk1 (some ⟨handleArg, some 0xFF, 0⟩)) = false := by decide +kernel
theorem test_wf_turn_ones : Instr.wf (.turn desk0 (some ⟨some 0xFF⟩)) = false := by decide +kernel
theorem test_wf_page_binding : Instr.wf (.page desk0 (some ⟨3, .define 0x41 1 1 (some 0xFF)⟩)) = false := by decide +kernel
theorem test_wf_page_action : Instr.wf (.page desk0 (some ⟨3, .other 1⟩)) = false := by decide +kernel
theorem test_wf_place_frame : Instr.wf (.place desk1 (some ⟨3, handleArg, none, [0]⟩)) = false := by decide +kernel
theorem test_wf_place_position : Instr.wf (.place desk1 (some ⟨3, handleArg, some 0xFF, List.replicate 16 0⟩)) = false := by decide +kernel
theorem test_wf_page_status : Instr.wf (.pageStatus desk1 (some ⟨some 0xFF⟩)) = false := by decide +kernel
theorem test_wf_port_status : Instr.wf (.portStatus desk1 (some ⟨some 0xFF⟩)) = false := by decide +kernel
theorem test_wf_settings_ports : Instr.wf (.settings desk0 (some (.ports [0] [] []))) = false := by decide +kernel
theorem test_wf_settings_serving : Instr.wf (.settings desk0 (some (.ports (List.replicate 6 0) (List.replicate 16 (some 0xFF)) (List.replicate 16 (List.replicate 8 0x20))))) = false := by decide +kernel
theorem test_wf_settings_label : Instr.wf (.settings desk0 (some (.ports (List.replicate 6 0) (List.replicate 16 none) (List.replicate 16 [])))) = false := by decide +kernel
theorem test_wf_settings_other : Instr.wf (.settings desk0 (some (.other 3))) = false := by decide +kernel
theorem test_wf_data_long : Instr.wf (.dataFrame 0 1 (List.replicate 257 0)) = false := by decide +kernel
theorem test_wf_unexpected_kind : Instr.wf (.unexpectedFrame 0 2) = false := by decide +kernel
theorem test_wf_unknown_code : Instr.wf (.unknownCommand desk1 (some 49)) = false := by decide +kernel

/-! ### Check codes, at their known values for the characters 1 to 9 -/

/-- The codes of the characters 1 to 9. -/
def digits : List Byte := [0x31, 0x32, 0x33, 0x34, 0x35, 0x36, 0x37, 0x38, 0x39]

theorem test_crc8 : crc8 digits = 0xF4 := by decide +kernel
theorem test_crc16 : crc16 digits = 0x29B1 := by decide +kernel
theorem test_crc32 : crc32 digits = 0xCBF43926 := by decide +kernel

/-! ### Frames written out byte by byte from 11.1 to 11.3 -/

/-- FILE of slug "AB", desk 1, urgency 2, category 0304h, screen 5, plan 6 and 7, length 0809h. -/
theorem test_frame_file :
    Frame.event 1 ⟨0x01, 9, [0x01, 0x02, 0x41, 0x42, 0x01, 0x02, 0x03, 0x04, 0x05, 0x02, 0x06, 0x07, 0x08, 0x09]⟩ =
      .file ⟨1, 9⟩ (some ⟨[0x41, 0x42], 1, 2, 0x0304, 5, [6, 7], 0x0809⟩) := by decide +kernel

theorem test_frame_read :
    Frame.event 1 ⟨0x01, 9, [0x09, 0x00, 0x05, 0x07, 0x00, 0x00]⟩ = .read ⟨1, 9⟩ (some ⟨handleArg, none⟩) := by decide +kernel

/-- CHECKIN names its screen before its handle (11.3). -/
theorem test_frame_checkin :
    Frame.event 1 ⟨0x01, 9, [0x0E, 0x03, 0x00, 0x05, 0x07, 0x01, 0x02, 0x01]⟩ =
      .checkin ⟨1, 9⟩ (some ⟨3, handleArg, 0x0102, 1⟩) := by decide +kernel

theorem test_frame_offer_next :
    Frame.event 1 ⟨0x01, 9, [0x10, 0x00, 0x05, 0x07, 0xFF, 0x2A]⟩ = .offer ⟨1, 9⟩ (some ⟨handleArg, none, 0x2A⟩) := by decide +kernel

theorem test_frame_filter :
    Frame.event 0 ⟨0x01, 9, [0x15, 0x17, 0x01, 0x03, 0x0F, 0x02, 0x03, 0xFF, 0x3F]⟩ =
      .filter ⟨0, 9⟩ (some ⟨0x17, 1, 3, 15, 2, 0x03FF, 0x3F⟩) := by decide +kernel

theorem test_frame_deadline :
    Frame.event 0 ⟨0x01, 9, [0x1D, 0x04, 0x12, 0x34]⟩ = .deadline ⟨0, 9⟩ (some ⟨4, 0x1234⟩) := by decide +kernel

theorem test_frame_place :
    Frame.event 1 ⟨0x01, 9, [0x21, 0x03, 0x00, 0x05, 0x07, 0xFF] ++ List.replicate 16 0x11⟩ =
      .place ⟨1, 9⟩ (some ⟨3, handleArg, none, List.replicate 16 0x11⟩) := by decide +kernel

theorem test_frame_links :
    Frame.event 0 ⟨0x01, 9, [0x26, 0x01, 0x00, 0x01]⟩ = .links ⟨0, 9⟩ (some ⟨1, 0, 1⟩) := by decide +kernel

theorem test_frame_reattach : Frame.event 0 ⟨0x01, 9, [0x29, 0x05]⟩ = .reattach ⟨0, 9⟩ (some 5) := by decide +kernel

theorem test_frame_settings_store :
    Frame.event 0 ⟨0x01, 9, [0x2B, 0x04, 0x00, 0x40, 0x10, 0x00, 0x01, 0xE0, 0x12, 0xC0]⟩ =
      .settings ⟨0, 9⟩ (some (.store 64 4096 480 4800)) := by decide +kernel

theorem test_frame_unknown : Frame.event 0 ⟨0x01, 9, [0x32]⟩ = .unknownCommand ⟨0, 9⟩ (some 50) := by decide +kernel

/-- A payload a byte too long spells its row with no parameters. -/
theorem test_frame_malformed : Frame.event 0 ⟨0x01, 9, [0x29, 0x05, 0x00]⟩ = .reattach ⟨0, 9⟩ none := by decide +kernel

/-- IDENTIFY at port 0 with tag 1 as its bytes, check F6h; a byte changed fails the check. -/
theorem test_wire_identify :
    wireEvent 0 [0xA5, 0x01, 0x01, 0x00, 0x01, 0x31, 0xF6] = .identify desk0 (some ()) ∧
      wireEvent 0 [0xA5, 0x01, 0x02, 0x00, 0x01, 0x31, 0xF6] = .frameFault 0 := by decide +kernel

/-- A5h and A6h cross the wire as pairs (11.1). -/
theorem test_stuffing : stuff [0xA5, 0x10, 0xA6] = [0xA6, 0x85, 0x10, 0xA6, 0x86] := by decide +kernel

/-- A pair that no sender forms is restored as the others are (log entry 51). -/
theorem test_unstuff_other_pairs : unstuff [0xA6, 0x85, 0xA6, 0x30] = some [0xA5, 0x10] ∧ unstuff [0xA6, 0xA5] = none := by
  decide +kernel

/-- A notice of kind CHANGED as 11.4 lays it out: kind 3, class, stamp, mask 0507h, handle, slug, version, reason, screens. -/
theorem test_notice_bytes :
    Notice.encode
      { kind := .changed, cls := .bulletin, stamp := 0x01020304, handle := some handle, slug := some [0x41], version := some 6,
        reason := some .spiked, screens := some [2] } =
      [0x03, 0x02, 0x01, 0x02, 0x03, 0x04, 0x05, 0x07, 0x00, 0x05, 0x07, 0x01, 0x41, 0x00, 0x06, 0x03, 0x01, 0x02] := by decide +kernel

/-! ### The hypotheses of the statements, met together -/

theorem test_witness_ports_refuse :
    anyCommandRow (.find desk1 none) = some (desk1, some .find) ∧ anyCommandRow (.attach desk1 none) = some (desk1, some .attach) ∧
    anyCommandRow (.unknownCommand desk1 none) = some (desk1, none) ∧
    anyCommandRow (.unknownCommand { desk1 with tag := 0 } (some 50)) = some ({ desk1 with tag := 0 }, none) ∧
    ((withPort quietSwitch 1 fun x => { x with resetLine := true }).ports.get 1).resetLine = true ∧
    (Switch.reset.ports.get 1).resetLine = false ∧ Switch.reset.starting = true ∧
    ((withPort quietSwitch 1 fun x => { x with phase := .result }).ports.get 1).phase ≠ .idle ∧
    ((withPort quietSwitch 1 fun x => { x with standing := .detached }).ports.get 1).standing = .detached ∧
    (quietSwitch.ports.get 1).resetLine = false ∧ quietSwitch.starting = false ∧ (quietSwitch.ports.get 1).phase = .idle ∧
    desk1.tag ≠ 0 ∧ (quietSwitch.ports.get 1).standing ≠ .detached ∧
    anyCommandRow (.purge desk1 none) = some (desk1, some .purge) ∧ controlOnly .purge = true ∧
    quietSwitch.groups.ports.privilege.get 1 = .desk := by decide +kernel

/-- FILE of a length of 1 byte and of 65,535 bytes, the ends of the range with a data phase. -/
theorem test_witness_file_opens :
    (∀ n : Word16, n = 1 ∨ n = 65535 →
      FileArgs.check ⟨[0x61], 1, 0, 1023, 63, [2], n⟩ =
        some { slug := [0x41], owner := 1, urgency := .routine, category := 1023, screen := 63, route := [2], length := n.toNat } ∧
      0 < n.toNat ∧ (n.toNat + 511) / 512 ≤ quietSwitch.store.freeCount - quietSwitch.store.reserved) ∧
    quietSwitch.takes desk1 .file ∧ (quietSwitch.ports.get 1).standing = .active ∧ quietSwitch.hasRight 1 1 ∧
    (∀ j st, (quietSwitch.slots.get j).story = some st → st.slug ≠ [0x41]) ∧ (quietSwitch.slots.get 0).story = none ∧
    (∀ j : SlotId, j < 0 → (quietSwitch.slots.get j).story ≠ none) ∧ quietSwitch.store.tight ≠ true := by
  refine ⟨?_, by decide +kernel, by decide +kernel, by decide +kernel, ?_, quiet_vacant 0, ?_, by decide⟩
  · rintro n (rfl | rfl) <;> decide +kernel
  · intro j st h
    rw [quiet_vacant] at h
    cases h
  · intro j h
    exact absurd h (Nat.not_lt_zero _)

theorem test_witness_find :
    (withStory (story .filing [])).takes desk1 .find ∧ slugOf [0x61] = some [0x41] ∧
    ((withStory (story .filing [])).slots.get 5).story = some (story .filing []) ∧ (story .filing []).slug = [0x41] ∧
    (∀ j : SlotId, j < 5 → ∀ st, ((withStory (story .filing [])).slots.get j).story = some st → st.slug ≠ [0x41]) ∧
    (∀ j st, (quietSwitch.slots.get j).story = some st → st.slug ≠ [0x41]) ∧ quietSwitch.takes desk1 .find ∧
    slugOf [] = none ∧ slugOf (List.replicate 25 0x41) = none := by
  refine ⟨by decide +kernel, by decide, by decide +kernel, rfl, ?_, ?_, by decide +kernel, by decide, by decide⟩
  · intro j hj st h
    obtain ⟨e, -⟩ := withStory_only _ _ _ h
    subst e
    exact absurd hj (by decide)
  · intro j st h
    rw [quiet_vacant] at h
    cases h

theorem test_witness_reports :
    let s := withStory (story .filed [version 1 1 0])
    let page := withPage quietSwitch (pageIn .queued (some (job 0)))
    s.takes desk1 .describe ∧ handleOf handleArg = some handle ∧ s.story handle = some (story .filed [version 1 1 0]) ∧
    s.takes desk1 .clockStatus ∧ s.takes desk1 .feedStatus ∧ s.takes desk1 .dump ∧ s.takes desk1 .pageStatus ∧
    (127 : Byte).toNat = (127 : PageId).val ∧ page.groups.clock.pages.get 3 = some pageDef ∧
    page.groups.clock.pages.get 127 = none ∧
    (∀ q ∈ page.sending.toList ++ [3], (page.pages.get q).job ≠ none) := by decide +kernel

/-- A report of 513 bytes goes in frames of 256, 256 and 1 bytes; one of 512 in two. -/
theorem test_chunks :
    (chunks (List.replicate 513 0)).map List.length = [256, 256, 1] ∧ (chunks (List.replicate 512 0)).map List.length = [256, 256] := by
  decide +kernel

theorem test_witness_reclassify :
    let s := withStory (story .filed [version 1 1 0])
    s.takes desk1 .reclassify ∧
    ReclassifyArgs.check ⟨handleArg, some 3, none⟩ = some { handle := handle, urgency := some .flash, category := none } ∧
    s.story handle = some (story .filed [version 1 1 0]) ∧ s.hasRight 1 1 ∧ (story .filed []).status ≠ .filing ∧
    (story .filed []).status ≠ .spiked false ∧ (story .filed []).status ≠ .spiked true := by decide +kernel

/-- ROUTE, SPIKE and RESTORE meet a story in each of its states; SPIKE of an OFFERED one from a control and from a desk port. -/
theorem test_witness_route_spike_restore :
    let at_ (status : Status) := withStory (story status [version 1 1 1])
    let open_ : Status := .opened (lock 480)
    RouteArgs.check ⟨handleArg, [0, 15, 1, 1]⟩ = some (handle, [0, 15, 1, 1]) ∧ handleOf handleArg = some handle ∧
    (∀ status ∈ [Status.filing, .filed, open_, .offered (offer 1), .spiked false, .spiked true],
      (at_ status).story handle = some (story status [version 1 1 1]) ∧ (at_ status).hasRight 1 1 ∧ (at_ status).hasRight 0 1 ∧
        (at_ status).takes desk1 .route ∧ (at_ status).takes desk1 .spike ∧ (at_ status).takes desk1 .restore ∧
        (at_ status).takes desk0 .spike) ∧
    quietSwitch.groups.ports.privilege.get 0 = .control ∧ quietSwitch.groups.ports.privilege.get 1 = .desk := by decide +kernel

/-- PURGE meets a SPIKED story with no version pinned and with one, a FILING one and one of another state. -/
theorem test_witness_purge :
    let at_ (status : Status) (pins : Nat) := withStory (story status [version 1 1 pins])
    handleOf handleArg = some handle ∧
    (∀ status ∈ [Status.filing, .filed, .opened (lock 480), .offered (offer 1), .spiked false, .spiked true], ∀ pins ∈ [0, 1],
      (at_ status pins).takes desk0 .purge ∧ (at_ status pins).story handle = some (story status [version 1 1 pins])) ∧
    (∀ v ∈ [version 1 1 0], v.pins = 0) ∧ ¬(∀ v ∈ [version 1 1 1], v.pins = 0) := by decide +kernel

/-- READ of the current version and of one named, one of no bytes; and of a FILING story, of a version not on the list, of a story
whose purge is pending, and of a marked version. -/
theorem test_witness_read :
    let st := story .filed [version 1 0 0, version 2 1 0]
    let marked := { version 1 0 0 with retiring := true }
    let pending := story (.spiked true) [marked, version 2 1 1]
    (withStory st).takes desk1 .read ∧ (withStory st).story handle = some st ∧ st.status ≠ .filing ∧ st.status ≠ .spiked true ∧
    ReadArgs.check ⟨handleArg, none⟩ = some (handle, none) ∧ st.versions.getLast? = some (version 2 1 0) ∧
    (version 2 1 0).retiring = false ∧ 0 < (version 2 1 0).length ∧
    ReadArgs.check ⟨handleArg, some 1⟩ = some (handle, some 1) ∧ (st.versions.find? fun v => v.number == 1) = some (version 1 0 0) ∧
    (version 1 0 0).retiring = false ∧ (version 1 0 0).length = 0 ∧
    ReadArgs.check ⟨handleArg, some 65535⟩ = some (handle, some 65535) ∧ (st.versions.find? fun v => v.number == 65535) = none ∧
    (withStory pending).takes desk1 .read ∧ (withStory pending).story handle = some pending ∧
    (pending.versions.find? fun v => v.number == 1) = some marked ∧ (withStory (story .filing [])).takes desk1 .read ∧
    (withStory (story .filing [])).story handle = some (story .filing []) := by decide +kernel

/-- Port 5 asked for by its number, a port by "own" and by its own number, and IDENTIFY and STORE STATUS. -/
theorem test_witness_status_reports :
    quietSwitch.takes desk1 .storeStatus ∧ quietSwitch.takes desk1 .portStatus ∧ (5 : Byte).toNat = (5 : PortId).val ∧
    (1 : Byte).toNat = desk1.port.val ∧ quietSwitch.takes desk1 .identify := by decide +kernel

theorem test_witness_custody :
    let me : Screen := { port := 1, number := 3 }
    let filed := story .filed [version 1 1 0]
    let mine := story (.opened (lock 480)) [version 1 1 0]
    ScreenArgs.check ⟨3, handleArg⟩ = some (3, handle) ∧ ScreenArgs.check ⟨63, handleArg⟩ = some (63, handle) ∧
    (withStory filed).story handle = some filed ∧ (withStory filed).takes desk1 .checkout ∧
    ((withStory filed).ports.get 1).standing = .active ∧ (withStory filed).hasRight 1 1 ∧
    (withStory mine).story handle = some mine ∧ (withStory mine).takes desk1 .checkout ∧ (lock 480).holder = me ∧
    (lock 480).holder ≠ { port := 1, number := 63 } ∧ (withStory mine).takes desk1 .renew ∧
    (withStory mine).takes desk1 .abandon := by decide +kernel

/-- CHECKIN onto a list of one version, and onto a full list whose oldest version is pinned and whose second is the victim. -/
theorem test_witness_checkin :
    let me : Screen := { port := 1, number := 3 }
    let st := story (.opened (lock 480)) [version 1 1 1, version 2 1 0, version 3 1 0, version 4 1 0]
    let one := story (.opened (lock 480)) [version 1 1 1]
    CheckinArgs.check ⟨3, handleArg, 65535, 1⟩ = some { screen := 3, handle := handle, length := 65535, keep := true } ∧
    CheckinArgs.check ⟨3, handleArg, 0, 0⟩ = some { screen := 3, handle := handle, length := 0, keep := false } ∧
    (withStory st).takes desk1 .checkin ∧ (withStory st).story handle = some st ∧ (lock 480).holder = me ∧
    (withStory st).store.tight = false ∧ (65535 + 511) / 512 ≤ (withStory st).store.freeCount - (withStory st).store.reserved ∧
    st.versions.length = 4 ∧ (st.versions.dropLast.find? fun v => v.pins == 0 && !v.retiring) = some (version 2 1 0) ∧
    (withStory one).takes desk1 .checkin ∧ (withStory one).story handle = some one ∧ one.versions.length ≠ 4 := by decide +kernel

/-- A reservation that leaves the available count at the low-water mark, and one that leaves it a block below (R32). -/
theorem test_reserve_at_the_mark :
    (quietSwitch.reserve (1100 - 512)).store.tight = false ∧ (quietSwitch.reserve (1100 - 511)).store.tight = true := by decide +kernel

/-- An upload of a CHECKIN onto the story. -/
def checkinUpload (mode : UploadMode) : Upload :=
  { kind := .checkin true, handle := handle, declared := 3, taken := 1, staging := if mode = .filling then [2001] else [],
    remaining := 0, victim := none, mode := mode, author := { port := 1, number := 3 } }

/-- The switch with an upload on port 1, whose tag is 1, in its data phase. -/
def withUpload (s : Switch) (u : Upload) (c : Cmd) : Switch :=
  withPort { s with uploads := s.uploads.set 1 (some u) } 1 fun x => { x with phase := .command, running := some { tag := 1, cmd := c } }

/-- A lease whose length is reached at this tick, one a tick short of it, and the three cases of BREAK. -/
theorem test_witness_leases :
    let due := story (.opened (lock 0)) [version 1 1 0]
    let open_ := story (.opened (lock 1)) [version 1 1 0]
    let filling := withUpload (withStory open_) (checkinUpload .filling) .checkin
    let draining := withUpload (withStory open_) (checkinUpload .draining) .checkin
    ((withStory due).slots.get 5).story = some due ∧ (lock 0).suspended = false ∧ (lock 0).length ≤ ((withStory due).wall - 0).toNat ∧
    ((withStory open_).wall - 0).toNat < (lock 1).length ∧ handleOf handleArg = some handle ∧
    (withStory open_).takes desk0 .breakLock ∧ (withStory open_).story handle = some open_ ∧
    (withStory open_).uploads.get 1 = none ∧ filling.takes desk0 .breakLock ∧ filling.story handle = some open_ ∧
    filling.uploads.get 1 = some (checkinUpload .filling) ∧ draining.takes desk0 .breakLock ∧ draining.story handle = some open_ ∧
    draining.uploads.get 1 = some (checkinUpload .draining) ∧ (withStory (story .filed [])).takes desk0 .breakLock ∧
    (withStory (story .filed [])).story handle = some (story .filed []) := by decide +kernel

/-- OFFER to a named desk, and to the next desk of a plan that names the owner first. -/
theorem test_witness_offer :
    let st := story .filed [version 1 1 0]
    let s := withStory st
    OfferArgs.check ⟨handleArg, some 2, 9⟩ = some { handle := handle, target := some 2, note := 9 } ∧
    OfferArgs.check ⟨handleArg, none, 9⟩ = some { handle := handle, target := none, note := 9 } ∧ s.takes desk1 .offer ∧
    s.story handle = some st ∧ (s.ports.get 1).standing = .active ∧ s.hasRight 1 1 ∧ (2 : DeskId) ≠ st.owner ∧
    st.route = [1] ++ 2 :: [] ∧ (∀ d ∈ [1], d = st.owner) ∧ s.groups.ports.serving.get 2 = some 2 ∧
    (s.ports.get 2).standing ≠ .detached := by decide +kernel

theorem test_witness_offers_end :
    let st := story (.offered (offer 1)) [version 1 1 0]
    let s := withStory st
    s.story handle = some st ∧ DeskArgs.check ⟨handleArg, 2⟩ = some (handle, 2) ∧ s.takes { desk1 with port := 2 } .accept ∧
    s.takes { desk1 with port := 2 } .decline ∧ DeclineArgs.check ⟨handleArg, 2, 9⟩ = some (handle, 2, 9) ∧
    s.groups.ports.serving.get 2 = some 2 ∧ s.takes desk1 .withdraw ∧ s.hasRight 1 1 ∧ (s.wall - 0).toNat < (offer 1).length ∧
    (offer 0).length ≤ (s.wall - 0).toNat ∧
    (withStory (story (.offered (offer 0)) [])).story handle = some (story (.offered (offer 0)) []) := by decide +kernel

/-- A CHANGED notice of a story. -/
def changed (slot : SlotId) (cls : Urgency) : Notice :=
  { kind := .changed, cls := cls, stamp := 1, handle := some { slot := slot, gen := 7 }, version := some 1, reason := some .newVersion,
    screens := some [3] }

/-- An inbox of 47 notices has room for one more in the middle; a full one, with a last notice of a lower class, of the same. -/
theorem test_witness_inboxes :
    let box : Inbox := { notices := List.replicate 20 (changed 1 .flash) ++ List.replicate 27 (changed 2 .priority), lost := 255 }
    let full : Inbox := { notices := List.replicate 47 (changed 1 .flash) ++ [changed 2 .priority], lost := 254 }
    let n := changed 9 .bulletin
    box.notices.length = 47 ∧ (∀ m ∈ box.notices, ¬(n.kind = .changed ∧ m.kind = .changed ∧ m.handle = n.handle)) ∧
    box.notices.Pairwise (fun m m' => m'.cls.rank ≤ m.cls.rank) ∧ full.notices.length = 48 ∧
    (∀ m ∈ full.notices, ¬(n.kind = .changed ∧ m.kind = .changed ∧ m.handle = n.handle)) ∧
    (changed 2 .priority).cls.rank < n.cls.rank ∧ (changed 9 .priority).cls.rank ≤ (changed 2 .priority).cls.rank ∧
    [changed 1 .flash, changed 9 .routine] = [changed 1 .flash] ++ changed 9 .routine :: [] ∧
    (changed 9 .routine).kind = .changed ∧ (changed 9 .routine).handle = n.handle ∧
    (∀ x ∈ [changed 1 .flash] ++ [], ¬(x.kind = .changed ∧ x.handle = n.handle)) := by decide +kernel

/-- A filter whose mask compares the whole category and matches, one that is disabled, and a watch of screens 0 and 63. -/
theorem test_witness_addressing :
    let f : Filter := { enabled := true, mask := 1, desk := 1, urgency := .priority, category := 1023, destinations := 0x24 }
    let m : Mask := { compareDesk := true, compareUrgency := true, categoryBits := 10 }
    let s : Switch :=
      { quietSwitch with
        groups :=
          { quietSwitch.groups with
            routing :=
              { filters := quietSwitch.groups.routing.filters.set 23 f, masks := quietSwitch.groups.routing.masks.set 1 m } }
        watches := [{ handle := handle, port := 5, screen := 63 }, { handle := handle, port := 5, screen := 0 }] }
    let st := story .filed []
    s.groups.routing.filters.get 23 = f ∧ s.groups.routing.masks.get 1 = m ∧ st.owner = f.desk ∧
    f.urgency.rank ≤ st.urgency.rank ∧ st.category / 2 ^ (10 - 10) = f.category / 2 ^ (10 - 10) ∧
    f.destinations.getLsbD 5 = true ∧ (s.ports.get 5).standing ≠ .detached ∧
    (∀ i, (s.groups.routing.filters.get i).destinations.getLsbD 4 = false) ∧ [(0 : ScreenNo), 63].Pairwise (· < ·) ∧
    (∀ sc, sc ∈ [(0 : ScreenNo), 63] ↔ ({ handle := handle, port := 5, screen := sc } : Watch) ∈ s.watches) := by decide +kernel

/-- A port among those posted to and one that is not, and a DETACHED one; a port that no screen watches from. -/
theorem test_witness_posts :
    let who : PortId → Bool := fun p => p == 5
    who 5 = true ∧ (quietSwitch.ports.get 5).standing ≠ .detached ∧ who 4 = false ∧
    ((withPort quietSwitch 5 fun x => { x with standing := .detached }).ports.get 5).standing = .detached ∧
    (∀ sc : ScreenNo, sc ∈ ([] : List ScreenNo) ↔ ({ handle := handle, port := 0, screen := sc } : Watch) ∈ quietSwitch.watches) := by
  decide +kernel

theorem test_witness_collect :
    let s : Switch := { quietSwitch with inboxes := quietSwitch.inboxes.set 1 { notices := [changed 1 .flash], lost := 3 } }
    quietSwitch.takes desk1 .collect ∧ (quietSwitch.inboxes.get 1).notices = [] ∧ s.takes desk1 .collect ∧
    (s.inboxes.get 1).notices ≠ [] ∧ (1 : Byte).toNat = 1 ∧ (8 : Byte).toNat ≤ 8 := by decide +kernel

theorem test_witness_filters_watches :
    let w : Watch := { handle := handle, port := 1, screen := 3 }
    let s := withStory (story .filing [])
    FilterArgs.check ⟨23, 1, 3, 15, 3, 1023, 63⟩ =
      some (23, { enabled := true, mask := 3, desk := 15, urgency := .flash, category := 1023, destinations := 63 }) ∧
    MaskArgs.check ⟨3, 1, 0, 10⟩ = some (3, { compareDesk := true, compareUrgency := false, categoryBits := 10 }) ∧
    s.takes desk0 .filter ∧ s.takes desk0 .mask ∧ ScreenArgs.check ⟨3, handleArg⟩ = some (3, handle) ∧
    s.story handle = some (story .filing []) ∧ s.takes desk1 .watch ∧ s.takes desk1 .unwatch ∧ w ∉ s.watches ∧
    s.watches.length < 512 ∧ w ∉ List.replicate 512 { w with screen := 4 } ∧
    512 ≤ (List.replicate 512 { w with screen := 4 }).length ∧ w ∈ [w] := by decide +kernel

/-- The quiet switch with its clock running at some ticks. -/
def running (ticks : Nat) : Switch :=
  { quietSwitch with clock := { running := true, ticks := ticks, edition := 255, activeLength := 57600 } }

theorem test_witness_clock :
    quietSwitch.clock.running = false ∧ (running 57598).clock.running = true ∧
    (running 57598).clock.ticks + 1 < (running 57598).clock.activeLength ∧
    (running 57599).clock.activeLength ≤ (running 57599).clock.ticks + 1 ∧ (running 0).takes desk0 .clockStop ∧
    (running 0).takes desk0 .clockStart ∧ quietSwitch.takes desk0 .clockStop ∧ quietSwitch.takes desk0 .clockStart ∧
    (running 0).takes desk0 .turn ∧ TurnArgs.check ⟨none⟩ = some none ∧ TurnArgs.check ⟨some 255⟩ = some (some 255) ∧
    TurnArgs.check ⟨some 1⟩ = some (some 1) ∧ (1 : Nat) ≠ (running 0).clock.edition ∧ (running 0).clock.edition = 255 := by
  decide +kernel

theorem test_witness_clock_settings :
    quietSwitch.takes desk0 .editionLength ∧ 1200 ≤ (1200 : Word16).toNat ∧ quietSwitch.takes desk0 .deadline ∧
    DeadlineArgs.check ⟨15, 1⟩ = some (15, 1) ∧ DeadlineArgs.check ⟨0, 65535⟩ = some (0, 65535) ∧ quietSwitch.takes desk0 .channel ∧
    ChannelArgs.check ⟨15, 1, 65535, 2, 65535, 8⟩ =
      some { channel := 15, bufferMode := .direct, warnLead := 65535, releaseMode := .atTurn, lateInterval := 65535, lateDivisor := 8 } ∧
    ChannelArgs.check ⟨0, 0, 0, 0, 0, 1⟩ =
      some { channel := 0, bufferMode := .atTurn, warnLead := 0, releaseMode := .manual, lateInterval := 0, lateDivisor := 1 } := by
  decide +kernel

/-- A running switch with channel 0 in a state, its deadline and late tick at tick 9, and page 3 in its group. -/
def channelIn (ticks : Nat) (state : ChannelState) (lastSent : Nat) (warning : Bool) : Switch :=
  let s := withPage (running ticks) { pageIn .making none with lastSent := lastSent }
  { s with
    channels := s.channels.set 0
      { active := 9, state := state, lateCount := 0, nextLate := some 9, atRisk := false, warningDue := warning } }

theorem test_witness_channel_events :
    let s := channelIn 9 .quiet 0 true
    (s.channels.get 0).warningDue = true ∧ (s.channels.get 0).state = .quiet ∧ s.groupDone 0 = false ∧
    ((channelIn 9 .due 0 true).channels.get 0).state ≠ .quiet ∧ (channelIn 9 .quiet 255 true).groupDone 0 = true ∧
    ((channelIn 9 .quiet 0 false).channels.get 0).warningDue = false ∧ s.clock.running = true ∧
    (s.channels.get 0).active ≤ s.clock.ticks ∧ (channelIn 8 .quiet 0 false).clock.ticks < ((channelIn 8 .quiet 0 false).channels.get 0).active ∧
    ((channelIn 9 .due 0 false).channels.get 0).state = .due ∧ ((channelIn 9 .due 0 false).channels.get 0).nextLate = some 9 ∧
    (channelIn 8 .due 0 false).clock.ticks < 9 := by decide +kernel

/-- A stopped clock with channel 0 at its deadline to the tick, its group not done, and done, and one tick short of it. -/
theorem test_witness_clock_start :
    let stopped (s : Switch) : Switch := { s with clock := { s.clock with running := false } }
    let s := stopped (channelIn 9 .quiet 0 false)
    s.takes desk0 .clockStart ∧ s.clock.running = false ∧ (s.channels.get 0).state = .quiet ∧
    (s.channels.get 0).active ≤ s.clock.ticks ∧ s.groupDone 0 = false ∧
    (stopped (channelIn 9 .quiet 255 false)).groupDone 0 = true ∧
    ¬((stopped (channelIn 8 .quiet 0 false)).channels.get 0).active ≤ (stopped (channelIn 8 .quiet 0 false)).clock.ticks := by
  decide +kernel

/-- CLOCK START at a passed deadline: the channel is DUE and its PAGE_LATE waits in the control port's inbox. -/
theorem test_clock_start_takes_its_match :
    let s := channelIn 9 .quiet 0 false
    ∃ t, exec (.clockStart desk0 (some ())) (alone { s with clock := { s.clock with running := false } }) = .next t ∧
      (t.sw.channels.get 0).state = .due ∧ (t.sw.inboxes.get 0).notices.map Notice.kind = [.pageLate] :=
  ⟨_, rfl, by decide +kernel⟩

theorem test_witness_automatic :
    let s := channelIn 9 .due 0 false
    s.groups.clock.pages.get 3 = some pageDef ∧ s.queue.length + (if s.sending = none then 0 else 1) < 32 ∧
    32 ≤ (List.replicate 31 (3 : PageId)).length + (if (some (4 : PageId)) = none then 0 else 1) := by decide +kernel

theorem test_witness_pages :
    let s := withPage quietSwitch (pageIn .making none)
    PageArgs.check ⟨127, .define 0x5A 99 15 none⟩ = some (127, some ⟨⟨0x5A, 99⟩, 15, none⟩) ∧
    PageArgs.check ⟨127, .define 0x41 1 15 none⟩ = some (127, some ⟨⟨0x41, 1⟩, 15, none⟩) ∧
    PageArgs.check ⟨3, .undefine⟩ = some (3, none) ∧ s.takes desk0 .page ∧
    (∃ k, k ≠ 127 ∧ s.groups.clock.pages.get k = some pageDef) ∧
    (s.groups.clock.pages.cells.filterMap id).map PageDef.label = [⟨0x41, 1⟩] ∧
    PlaceArgs.check ⟨3, handleArg, some 1, List.replicate 16 0⟩ =
      some { page := 3, handle := handle, position := some 1, frame := List.replicate 16 0 } ∧
    UnplaceArgs.check ⟨3, 0⟩ = some (3, 0) ∧ s.groups.clock.pages.get 3 = some pageDef ∧ s.hasRight 1 pageDef.owner ∧
    1 ≤ (s.pages.get 3).layout.length ∧ (s.pages.get 3).layout.length < 16 ∧ 0 < (s.pages.get 3).layout.length ∧
    (let t := { withStory (story .filing []) with pages := s.pages, groups := s.groups }
     t.takes desk1 .place ∧ t.story handle = some (story .filing []) ∧ t.takes desk1 .unplace) := by decide +kernel

theorem test_witness_release :
    let s := withPage quietSwitch (pageIn .making none)
    let queued := { withPage quietSwitch (pageIn .queued (some (job 0))) with queue := [3] }
    ReleaseArgs.check ⟨3, 1⟩ = some (3, true) ∧ s.takes desk1 .release ∧ s.groups.clock.pages.get 3 = some pageDef ∧
    s.hasRight 1 1 ∧ (s.pages.get 3).state = .making ∧ (s.pages.get 3).layout ≠ [] ∧
    s.queue.length + (if s.sending = none then 0 else 1) < 32 ∧ queued.takes desk1 .release ∧
    queued.groups.clock.pages.get 3 = some pageDef ∧ queued.hasRight 1 1 ∧ (queued.pages.get 3).state = .queued ∧
    (queued.pages.get 3).layout ≠ [] ∧ (queued.pages.get 3).job = some (job 0) := by decide +kernel

theorem test_witness_release_refused :
    let sending := withPage quietSwitch (pageIn .sending (some (job 1)))
    let empty := withPage quietSwitch Page.fresh
    let full := { withPage quietSwitch (pageIn .making none) with queue := List.replicate 32 4 }
    sending.takes desk1 .release ∧ (sending.pages.get 3).state = .sending ∧ empty.takes desk1 .release ∧
    (empty.pages.get 3).state ≠ .sending ∧ (empty.pages.get 3).layout = [] ∧ full.takes desk1 .release ∧
    (full.pages.get 3).state = .making ∧ (full.pages.get 3).layout ≠ [] ∧
    32 ≤ full.queue.length + (if full.sending = none then 0 else 1) := by decide +kernel

/-- A queue of a returned page, a rush page, two of one queue key, and an unbound page stands in its order. -/
theorem test_witness_queue :
    let standing (j : Job) : Nat × Nat :=
      if j.returned then (0, 0)
      else if j.rush then (1, 0)
      else
        match j.key with
        | some d => (2, d)
        | none => (3, 0)
    [{ job 1 with returned := true }, { job 0 with rush := true }, { job 0 with key := some 9 }, { job 0 with key := some 9 }, job 0].Pairwise
      (fun j j' =>
        ¬((standing j').1 < (standing j).1 ∨ (standing j').1 = (standing j).1 ∧ (standing j').2 < (standing j).2)) := by
  decide +kernel

theorem test_witness_pins :
    let st := story (.spiked true) [version 65535 1 1]
    let kept := [version 65535 1 0, version 1 1 0, version 2 1 0]
    (withStory st).story handle = some st ∧
    (∀ v ∈ st.versions.map (fun v => if v.number = 65535 then { v with pins := v.pins - 1 } else v), v.pins = 0) ∧
    ¬(∀ v ∈ st.versions.map (fun v => if v.number = 1 then { v with pins := v.pins - 1 } else v), v.pins = 0) ∧
    quietSwitch.story handle = none ∧ st.versions.getLast? = some (version 65535 1 1) ∧ newNumber st kept = 3 ∧
    (let s := { quietSwitch with store := { quietSwitch.store with tight := true, freeCount := 1024 }, last := { sent := [], released := true } }
     s.last.released = true ∧ s.store.tight = true ∧ s.groups.store.high ≤ s.store.freeCount - s.store.reserved) ∧
    1023 < quietSwitch.groups.store.high ∧
    (let e : Entry := { handle := handle, frame := [], version := some 65535, length := 1, openAtRelease := false }
     e.version = some 65535 ∧ { e with version := none }.version = none) := by decide +kernel

/-- A switch with page 3 SENDING on link A, whose engine is in a state, after a number of attempts and bytes. -/
def sending (engine : Engine) (attempts taken : Nat) : Switch :=
  let s := withPage quietSwitch (pageIn .sending (some (job attempts)))
  withLink { s with sending := some 3, wall := 40 } .a fun x =>
    { x with state := .up, ready := true, engine := engine, page := if engine = .voiding then none else some 3, taken := taken
             voided := if engine = .voiding then some (3, 1) else none }

theorem test_witness_recall :
    let queued := { withPage quietSwitch (pageIn .queued (some (job 0))) with queue := [3] }
    let s := sending .awaiting 1 56
    (3 : Byte).toNat = (3 : PageId).val ∧ queued.takes desk1 .recall ∧ queued.groups.clock.pages.get 3 = some pageDef ∧
    queued.hasRight 1 1 ∧ (queued.pages.get 3).state = .queued ∧ s.takes desk1 .recall ∧ (s.pages.get 3).state = .sending ∧
    (s.links.get s.active).page = some 3 ∧ (s.links.get s.active).engine = .awaiting ∧
    ((withPage quietSwitch (pageIn .faulted none)).pages.get 3).state = .faulted := by decide +kernel

theorem test_witness_jobs_end :
    (sending .awaiting 1 56).groups.clock.pages.get 3 = some pageDef ∧
      ((sending .awaiting 1 56).pages.get 3).job = some (job 1) := by decide +kernel

theorem test_witness_links :
    let link (state : LinkState) (engine : Engine) (ready : Bool) : Link :=
      (withLink { quietSwitch with wall := 64 } .b fun x => { x with state := state, engine := engine, ready := ready }).links.get .b
    (link .down .idle false).state = .down ∧ (link .off .idle false).state ≠ .down ∧ (link .up .presenting true).state = .up ∧
    (link .up .presenting true).engine ≠ .idle ∧ (link .settling .idle true).state = .settling ∧ (link .settling .idle true).ready = true ∧
    quietSwitch.groups.feed.settlePeriod ≤ ((64 : Word32) - (link .settling .idle true).settleStart).toNat ∧
    ((63 : Word32) - (link .settling .idle true).settleStart).toNat < quietSwitch.groups.feed.settlePeriod ∧
    (link .up .idle true).state = .up ∧ (link .up .idle true).engine = .idle := by decide +kernel

/-- Stalls due by the stall window of 24 ticks and by the end-of-page wait of 40, and not; and the three ends of an attempt. -/
theorem test_witness_stalls :
    let due (s : Switch) (wall : Word32) : Prop :=
      let x := s.links.get .a
      (x.engine = .presenting ∨ x.engine = .voiding) ∧ s.groups.feed.stallWindow ≤ (wall - x.progress).toNat ∨
        x.engine = .awaiting ∧ 40 ≤ (wall - x.waitStart).toNat
    due (sending .presenting 1 5) 24 ∧ ¬due (sending .presenting 1 5) 23 ∧ due (sending .voiding 1 5) 24 ∧
    due (sending .awaiting 1 56) 40 ∧ ¬due (sending .awaiting 1 56) 39 := by decide +kernel

theorem test_witness_break_off :
    let s := sending .presenting 2 5
    let t := withLink s .b fun x => { x with state := .up }
    ((sending .voiding 1 5).links.get .a).engine = .voiding ∧ (s.links.get .a).engine = .presenting ∧
    (s.links.get .a).page = some 3 ∧ (s.pages.get 3).job = some (job 2) ∧
    ((sending .presenting 3 5).pages.get 3).job = some (job 3) ∧ s.groups.feed.attemptLimit ≤ (job 3).attempts ∧
    (job 2).attempts < s.groups.feed.attemptLimit ∧ (s.links.get LinkId.a.other).state ≠ .up ∧
    (t.links.get LinkId.a.other).state = .up := by decide +kernel

theorem test_witness_starts :
    let s := withLink { withPage quietSwitch (pageIn .queued (some (job 2))) with queue := [3] } .a fun x => { x with state := .up }
    let t := { s with pages := s.pages.set 3 (pageIn .queued (some (job 3))) }
    s.queue = 3 :: [] ∧ (s.pages.get 3).job = some (job 2) ∧ (s.links.get s.active).state = .up ∧
    (s.links.get s.active).engine = .idle ∧ s.sending = none ∧ (job 2).attempts < s.groups.feed.attemptLimit ∧
    (t.pages.get 3).job = some (job 3) ∧ t.groups.feed.attemptLimit ≤ (job 3).attempts ∧ quietSwitch.queue = [] := by
  decide +kernel

/-- Strobes that leave one byte of the page, that take its last, and that take the seventh and the last of the VOID trailer. -/
theorem test_witness_strobes :
    let s := sending .presenting 1
    ((s 54).links.get .a).engine = .presenting ∧ ((s 54).links.get .a).page = some 3 ∧ ((s 54).pages.get 3).job = some (job 1) ∧
    ((s 54).links.get .a).taken + 1 < (job 1).length ∧ (job 1).length ≤ ((s 55).links.get .a).taken + 1 ∧
    ((sending .voiding 1 0).links.get .a).engine = .voiding ∧ ((sending .voiding 1 0).links.get .a).trailerTaken + 1 < 8 ∧
    8 ≤ ((withLink (sending .voiding 1 0) .a fun x => { x with trailerTaken := 7 }).links.get .a).trailerTaken + 1 ∧
    (quietSwitch.links.get .a).engine = .idle ∧ ((sending .voiding 1 0).links.get .a).voided = some (3, 1) := by decide +kernel

theorem test_witness_stream :
    let s := { sending .presenting 1 5 with slots := (withStory (story .filed [version 2 4 1])).slots }
    let e : Entry := { handle := handle, frame := List.replicate 16 0, version := some 2, length := 4, openAtRelease := false }
    s.story e.handle = some (story .filed [version 2 4 1]) ∧ e.version = some (version 2 4 1).number ∧
    ([version 2 4 1].find? fun x => x.number == (version 2 4 1).number) = some (version 2 4 1) ∧
    (∀ e ∈ (job 1).entries, e.frame.length = 16 ∧ (e.version = none → e.length = 0)) ∧
    (s.links.get .a).engine = .presenting ∧ (s.links.get .a).page = some 3 ∧ (s.pages.get 3).job = some (job 1) := by decide +kernel

theorem test_witness_statuses :
    let s := sending .awaiting 2 56
    (s.links.get .a).engine = .awaiting ∧ (s.links.get .a).page = some 3 ∧ (s.pages.get 3).job = some (job 2) ∧
    (job 2).attempts < s.groups.feed.attemptLimit ∧ ((sending .awaiting 3 56).pages.get 3).job = some (job 3) ∧
    s.groups.feed.attemptLimit ≤ (job 3).attempts ∧ ((sending .presenting 2 5).links.get .a).engine ≠ .awaiting := by decide +kernel

/-- A window that has reached its length with the active engine PRESENTING, one a tick short, and a tested channel. -/
theorem test_witness_pace :
    let s := { sending .presenting 1 5 with pace := { window := some { start := 0, length := 40, count := 7 }, samples := [], pace := 3 } }
    let t := { withPage (running 8) (pageIn .queued (some (job 0))) with queue := [4, 3, 5], pace := { window := none, samples := [3], pace := 3 } }
    s.pace.window = some { start := 0, length := 40, count := 7 } ∧ 40 ≤ (s.wall - 0).toNat ∧
    (s.links.get s.active).engine = .presenting ∧ ((39 : Word32) - 0).toNat < 40 ∧ quietSwitch.pace.window = none ∧
    (t.channels.get 0).state = .quiet ∧ (t.channels.get 0).atRisk = false ∧ (∃ q ∈ t.groupPages 0, q ∈ t.queue) ∧
    t.clock.running = true ∧ t.pace.pace ≠ 0 ∧ t.queue = [4] ++ 3 :: [5] ∧ 3 ∈ t.groupPages 0 ∧ (∀ q ∈ [5], q ∉ t.groupPages 0) := by
  decide +kernel

theorem test_witness_links_command :
    quietSwitch.takes desk0 .links ∧ LinksArgs.check ⟨0, 1, 1⟩ = some (⟨false, true⟩, .b) := by decide +kernel

/-- Data frames: discarded in IDLE and under another tag, and one that leaves a byte to come while FILLING and DRAINING. -/
theorem test_witness_data_frames :
    let s := withUpload quietSwitch (checkinUpload .filling) .checkin
    let t := withUpload quietSwitch (checkinUpload .draining) .checkin
    (quietSwitch.ports.get 1).phase ≠ .command ∧ (s.ports.get 1).resetLine = false ∧ (s.ports.get 1).phase = .command ∧
    (s.ports.get 1).running = some { tag := 1, cmd := .checkin } ∧ s.uploads.get 1 = some (checkinUpload .filling) ∧
    1 + [(0x41 : Byte)].length < (checkinUpload .filling).declared ∧ t.uploads.get 1 = some (checkinUpload .draining) ∧
    (t.ports.get 1).running = some { tag := 1, cmd := .checkin } ∧ (t.ports.get 1).phase = .command := by decide +kernel

/-- A frame whose bytes pass a block's end: 256 bytes after 500, drawing one block of the pool. -/
theorem test_witness_push :
    let u : Upload :=
      { kind := .file, handle := handle, declared := 1000, taken := 500, staging := [2000], remaining := 1, victim := none,
        mode := .filling, author := { port := 1, number := 3 } }
    let s : Switch := { quietSwitch with store := { quietSwitch.store with freePool := [4, 5] } }
    s.copyCanonical ∧ u.staging.length = (u.taken + 511) / 512 ∧ (u.staging ++ s.store.freePool).Nodup ∧
    (u.taken + 256 + 511) / 512 - u.staging.length = 1 ∧ 1 ≤ s.store.freePool.length := by
  refine ⟨rfl, ?_⟩
  decide +kernel

theorem test_witness_uploads_complete :
    let file : Upload := { checkinUpload .filling with kind := .file }
    let filing := story .filing []
    let open_ := story (.opened (lock 480)) [version 1 1 0]
    let s := withUpload (withStory filing) file .file
    let t := withUpload (withStory open_) (checkinUpload .filling) .checkin
    (s.ports.get 1).resetLine = false ∧ (s.ports.get 1).phase = .command ∧ (s.ports.get 1).running = some { tag := 1, cmd := .file } ∧
    s.uploads.get 1 = some file ∧ file.taken + [(0x41 : Byte), 0x42].length = file.declared ∧ file.mode = .filling ∧
    s.story handle = some filing ∧ filing.versions = [] ∧ file.victim = none ∧ (t.ports.get 1).phase = .command ∧
    t.uploads.get 1 = some (checkinUpload .filling) ∧ t.story handle = some open_ ∧
    (withUpload quietSwitch (checkinUpload .draining) .checkin).uploads.get 1 = some (checkinUpload .draining) := by decide +kernel

/-- A FILE of no bytes; the CHECKIN of no bytes is the second operand of `test_witness_checkin`. -/
theorem test_witness_empty_texts :
    FileArgs.check ⟨[0x61], 1, 0, 0, 0, [], 0⟩ =
      some { slug := [0x41], owner := 1, urgency := .routine, category := 0, screen := 0, route := [], length := 0 } ∧
    quietSwitch.takes desk1 .file ∧ (quietSwitch.ports.get 1).standing = .active ∧ quietSwitch.hasRight 1 1 ∧
    quietSwitch.store.tight ≠ true ∧ (∀ j st, (quietSwitch.slots.get j).story = some st → st.slug ≠ [0x41]) ∧
    (quietSwitch.slots.get 0).story = none := by
  refine ⟨by decide +kernel, by decide +kernel, by decide +kernel, by decide +kernel, by decide, ?_, quiet_vacant 0⟩
  intro j st h
  rw [quiet_vacant] at h
  cases h

/-- Port 1 in RESULT with a stream, its hold start perhaps given. -/
def streaming (s : Switch) (x : Stream) (hold : Option Word32) : Switch :=
  withPort s 1 fun p => { p with phase := .result, running := some { tag := 1, cmd := .read }, stream := some x, holdStart := hold }

theorem test_witness_result_data :
    let st := story .filed [version 2 300 1]
    let s := streaming (withStory st) (.read handle 2 0) none
    let t := streaming (withStory st) (.read handle 2 256) none
    let boxed := { quietSwitch with inboxes := quietSwitch.inboxes.set 1 { notices := [changed 1 .flash], lost := 0 } }
    (quietSwitch.ports.get 1).phase ≠ .result ∧ (s.ports.get 1).phase = .result ∧ (s.ports.get 1).holdLine = false ∧
    (s.ports.get 1).running = some { tag := 1, cmd := .read } ∧ (s.ports.get 1).stream = some (.read handle 2 0) ∧
    s.story handle = some st ∧ (st.versions.find? fun v => v.number == 2) = some (version 2 300 1) ∧
    0 + min 256 (300 - 0) < (version 2 300 1).length ∧ (t.ports.get 1).stream = some (.read handle 2 256) ∧
    (version 2 300 1).length ≤ 256 + min 256 (300 - 256) ∧
    ((streaming boxed (.collect 1) none).inboxes.get 1).notices = changed 1 .flash :: [] ∧
    ((streaming quietSwitch (.report [[1], [2]]) none).ports.get 1).stream = some (.report ([1] :: [[2]])) := by decide +kernel

/-- The windows at their last tick and past it, and the uploads whose data phase fails. -/
theorem test_witness_windows :
    let filing := story .filing []
    let open_ := story (.opened (lock 480)) [version 1 1 0]
    let late := story (.opened (lock 0)) [version 1 1 0]
    let s := withUpload (withStory filing) { checkinUpload .filling with kind := .file } .file
    let t := withUpload (withStory open_) (checkinUpload .filling) .checkin
    (s.ports.get 1).phase = .command ∧ 16 ≤ ((16 : Word32) - (s.ports.get 1).dataStart).toNat ∧
    ((15 : Word32) - (s.ports.get 1).dataStart).toNat < 16 ∧
    ((streaming s (.collect 1) (some 0)).ports.get 1).holdStart = some 0 ∧ 40 < ((41 : Word32) - 0).toNat ∧ ((40 : Word32) - 0).toNat ≤ 40 ∧
    (s.ports.get 1).running = some { tag := 1, cmd := .file } ∧ Code.dataTimeout ≠ .ok ∧ s.story handle = some filing ∧
    t.story handle = some open_ ∧ (t.wall - (lock 480).start).toNat < (lock 480).length ∧ (withStory late).story handle = some late ∧
    (lock 0).length ≤ ((withStory late).wall - (lock 0).start).toNat := by decide +kernel

theorem test_witness_faults :
    let at_ (faults : Nat) := withPort quietSwitch 1 fun x => { x with faults := faults }
    let s := withUpload quietSwitch (checkinUpload .filling) .checkin
    ((at_ 247).ports.get 1).resetLine = false ∧ ((at_ 247).ports.get 1).standing ≠ .detached ∧ ((at_ 247).ports.get 1).faults + 8 ≤ 255 ∧
    255 < ((at_ 248).ports.get 1).faults + 8 ∧ ((withPort quietSwitch 1 fun x => { x with resetLine := true }).ports.get 1).resetLine = true ∧
    ((withPort quietSwitch 1 fun x => { x with standing := .detached }).ports.get 1).standing = .detached ∧
    (s.ports.get 1).phase = .command ∧ s.uploads.get 1 = some (checkinUpload .filling) ∧
    (checkinUpload .filling).declared < (checkinUpload .filling).taken + [(1 : Byte), 2, 3].length := by decide +kernel

/-- A port with an upload whose victim is marked, and one with a FILE in its data phase; a control port beside it, and an offer. -/
theorem test_witness_detach :
    let s := withStory (story (.offered (offer 1)) [])
    let u : Upload := { checkinUpload .filling with victim := some 1 }
    let st := story (.opened (lock 480)) [{ version 1 1 0 with retiring := true }, version 2 1 0]
    let t := withUpload (withStory st) u .checkin
    let file : Upload := { checkinUpload .filling with kind := .file }
    let f := withUpload (withStory (story .filing [])) file .file
    (0 : PortId) ≠ 1 ∧ s.groups.ports.privilege.get 0 = .control ∧ (s.ports.get 0).standing ≠ .detached ∧
    (s.slots.get 5).story = some (story (.offered (offer 1)) []) ∧ s.uploads.get 2 = none ∧ t.uploads.get 1 = some u ∧
    u.victim = some 1 ∧ t.story u.handle = some st ∧ u.kind ≠ .file ∧ f.uploads.get 1 = some file ∧ file.kind = .file ∧
    f.story file.handle = some (story .filing []) := by decide +kernel

theorem test_witness_attach :
    let s := withPort { quietSwitch with wall := 16 } 1 fun x => { x with standing := .detached, faults := 255 }
    s.takes desk1 .attach ∧ (s.ports.get 1).standing = .detached ∧ 16 ≤ (s.wall - (s.ports.get 1).quietStart).toNat ∧
    ((15 : Word32) - (s.ports.get 1).quietStart).toNat < 16 ∧ quietSwitch.takes desk1 .attach ∧
    (quietSwitch.ports.get 1).standing ≠ .detached ∧ s.takes desk0 .reattach ∧ (1 : Byte).toNat = (1 : PortId).val := by decide +kernel

theorem test_witness_settings :
    quietSwitch.takes desk0 .settings ∧ quietSwitch.takes desk0 .hold ∧ quietSwitch.takes desk0 .unhold ∧
    quietSwitch.takes desk0 .save ∧ quietSwitch.saving = none ∧
    (SettingsArgs.check (.ports (List.replicate 6 0) (List.replicate 16 none) (List.replicate 16 (List.replicate 8 0x20)))).isSome = true ∧
    (SettingsArgs.check (.ports [0, 0, 0, 0, 0, 1] (List.replicate 16 (some 5)) (List.replicate 16 (List.replicate 8 0x5A)))).isSome = true ∧
    SettingsArgs.check (.feed 8 255 7 16 1) = some (.feed 8 255 7 16 .average4) ∧
    SettingsArgs.check (.store 64 4096 480 4800) = some (.store { low := 64, high := 4096, lease := 480, offerWindow := 4800 }) ∧
    0 < (1 : Byte).toNat ∧ (31 : Byte).toNat < 32 ∧
    (let s := withPort { quietSwitch with saving := some { copy := quietSwitch.groups, port := some 0 } } 0 fun x =>
        { x with phase := .executing, running := some { tag := 1, cmd := .save } }
     s.saving ≠ none ∧ (s.ports.get 0).running = some { tag := 1, cmd := .save } ∧ s.takes desk1 .find) := by decide +kernel

/-- While a SAVE of port 0 is written, another control port may ask for one. -/
theorem test_witness_save_busy :
    let s : Switch :=
      { quietSwitch with
        saving := some { copy := quietSwitch.groups, port := none }
        groups := { quietSwitch.groups with ports := { quietSwitch.groups.ports with privilege := Bank.replicate 6 .control } } }
    s.takes desk1 .save ∧ s.saving ≠ none := by decide +kernel

/-- A start-up of a cause with 511 blocks available, and the notice of a port that detached while it ran at the control port's inbox. -/
def startingTight (cause : StartCause) : Switch :=
  { quietSwitch with
    starting := true
    cause := cause
    store := { quietSwitch.store with freeCount := 511 }
    inboxes := quietSwitch.inboxes.set 0 { notices := [{ kind := .portDetached, cls := .bulletin, stamp := 0, note := some 3 }], lost := 1 } }

/-- STORE_TIGHT posted to a control port and not to another port, at the end of a restart's start-up and of power-on's (R38). -/
theorem test_witness_start_up_tight :
    let s := startingTight .resetLine
    s.starting = true ∧ s.clock.running = false ∧ s.store.freeCount - s.store.reserved < Groups.factory.store.low ∧
    Groups.factory.ports.privilege.get 0 = .control ∧ Groups.factory.ports.privilege.get 1 ≠ .control ∧
    (s.ports.get 0).standing ≠ .detached ∧ s.cause ≠ .powerOn ∧ (startingTight .powerOn).cause = .powerOn := by decide +kernel

/-- STORE_TIGHT is the first notice, and the only one: the inboxes of a restart are empty before it (R38, R77, R86). -/
theorem test_store_tight_is_first :
    ∃ t, exec .startUpEnd (alone (startingTight .restartCommand)) = .next t ∧
      (t.sw.inboxes.get 0).notices.map Notice.kind = [.storeTight] ∧ (t.sw.inboxes.get 0).lost = 0 := ⟨_, rfl, by decide +kernel⟩

theorem test_witness_start_up :
    quietSwitch.takes desk0 .restart ∧ Switch.reset.starting = true ∧ Switch.reset.clock.running = false ∧
      quietSwitch.starting = false := by decide +kernel

/-- The owning blocks' refusals of a FILE: a guarded port, a desk not its own, a slug held, no VACANT slot, a tight store and a full one. -/
theorem test_witness_file_refused :
    let a : FileArgs := ⟨[0x61], 1, 0, 0, 0, [], 65535⟩
    let f : FileParams := { slug := [0x41], owner := 1, urgency := .routine, category := 0, screen := 0, route := [], length := 65535 }
    let guarded := withPort quietSwitch 1 fun x => { x with standing := .guarded, faults := 128 }
    let held := withStory (story .filed [version 1 1 0])
    let full : Switch := { quietSwitch with slots := Bank.replicate 1024 { gen := 0, story := some { story .filed [] with slug := [0x42] } } }
    let tight : Switch := { quietSwitch with store := { quietSwitch.store with tight := true } }
    let short : Switch := { quietSwitch with store := { quietSwitch.store with reserved := 973 } }
    FileArgs.check a = some f ∧ guarded.takes desk1 .file ∧ (guarded.ports.get 1).standing = .guarded ∧
    quietSwitch.takes { desk1 with port := 2 } .file ∧ (quietSwitch.ports.get 2).standing = .active ∧ ¬quietSwitch.hasRight 2 1 ∧
    held.takes desk1 .file ∧ held.hasRight 1 1 ∧ (held.slots.get 5).story = some (story .filed [version 1 1 0]) ∧
    (story .filed [version 1 1 0]).slug = f.slug ∧ full.takes desk1 .file ∧ full.hasRight 1 1 ∧
    (∀ j, (full.slots.get j).story = some { story .filed [] with slug := [0x42] }) ∧ tight.takes desk1 .file ∧
    tight.store.tight = true ∧ (tight.slots.get 0).story = none ∧ short.takes desk1 .file ∧ short.store.tight = false ∧
    short.store.freeCount - short.store.reserved < (f.length + 511) / 512 ∧
    ¬(quietSwitch.store.freeCount - 972 < (f.length + 511) / 512) := by
  refine ⟨?_, ?_, ?_, ?_, ?_, ?_, ?_, ?_, ?_, ?_, ?_, ?_, fun j => ?_, ?_, ?_, ?_, ?_, ?_, ?_, ?_⟩
  case refine_13 => rw [Bank.get_replicate]
  all_goals decide +kernel

/-- Parameters out of range by one, one for each bound the blocks share, and a handle that names no story. -/
theorem test_witness_out_of_range :
    ¬paramsInRange (.find desk1 none) ∧ ¬slotInRange ⟨1024, 0⟩ ∧ slotInRange ⟨1023, 255⟩ ∧ ¬slugInRange [] ∧
    ¬slugInRange (List.replicate 25 0x41) ∧ slugInRange [0x7A] ∧ ¬slugInRange [0x7B] ∧ ¬routeInRange [0, 0, 0, 0, 0] ∧
    ¬routeInRange [16] ∧ ¬paramsInRange (.collect desk1 (some 9)) ∧ paramsInRange (.collect desk1 (some 8)) ∧
    ¬paramsInRange (.editionLength desk0 (some 1199)) ∧ ¬paramsInRange (.hold desk0 (some 32)) ∧
    commandRow (.spike desk1 (some handleArg)) = some (desk1, .spike) ∧ quietSwitch.takes desk1 .spike ∧
    paramsInRange (.spike desk1 (some handleArg)) ∧ namedStory (.spike desk1 (some handleArg)) = some handleArg ∧
    handleOf handleArg = some handle ∧ quietSwitch.story handle = none := by
  simp only [paramsInRange]
  decide +kernel

/-- A port with no right over the story, the states that RECLASSIFY and CHECKOUT refuse, and a guarded port. -/
theorem test_witness_story_refused :
    let at_ (status : Status) := withStory (story status [version 1 1 0])
    let away : Head := { port := 2, tag := 1 }
    let guarded := withPort (at_ .filed) 1 fun x => { x with standing := .guarded, faults := 128 }
    ReclassifyArgs.check ⟨handleArg, some 0, none⟩ = some { handle := handle, urgency := some .routine, category := none } ∧
    RouteArgs.check ⟨handleArg, []⟩ = some (handle, []) ∧ handleOf handleArg = some handle ∧
    ScreenArgs.check ⟨63, handleArg⟩ = some (63, handle) ∧ OfferArgs.check ⟨handleArg, none, 0⟩ = some { handle := handle, target := none, note := 0 } ∧
    ¬(at_ .filed).hasRight 2 1 ∧ ((at_ .filed).ports.get 2).standing = .active ∧
    (∀ c ∈ [Cmd.reclassify, .route, .spike, .restore, .checkout, .offer], (at_ .filed).takes away c) ∧
    (∀ status ∈ [Status.filing, .spiked false, .spiked true, .offered (offer 1), .opened (lock 480)],
      (at_ status).story handle = some (story status [version 1 1 0]) ∧ (at_ status).hasRight 1 1 ∧ (at_ status).takes desk1 .reclassify ∧
        (at_ status).takes desk1 .checkout ∧ (at_ status).takes desk1 .offer) ∧
    guarded.takes desk1 .checkout ∧ guarded.takes desk1 .offer ∧ (guarded.ports.get 1).standing = .guarded ∧
    guarded.story handle = some (story .filed [version 1 1 0]) := by decide +kernel

/-- A CHECKIN by another screen, into a tight and into a full store, and onto a full list with every version but the last pinned or marked. -/
theorem test_witness_checkin_refused :
    let pinned := story (.opened (lock 480)) [version 1 1 1, { version 2 1 0 with retiring := true }, version 3 1 2, version 4 1 0]
    let routine := { pinned with urgency := .routine }
    let s := withStory pinned
    let tight : Switch := { withStory routine with store := { quietSwitch.store with tight := true } }
    let short : Switch := { s with store := { quietSwitch.store with reserved := 1100 } }
    CheckinArgs.check ⟨3, handleArg, 1, 0⟩ = some { screen := 3, handle := handle, length := 1, keep := false } ∧
    CheckinArgs.check ⟨4, handleArg, 1, 0⟩ = some { screen := 4, handle := handle, length := 1, keep := false } ∧
    s.takes desk1 .checkin ∧ s.story handle = some pinned ∧ (lock 480).holder = { port := 1, number := 3 } ∧
    tight.takes desk1 .checkin ∧ tight.story handle = some routine ∧ tight.store.tight = true ∧ short.takes desk1 .checkin ∧
    short.story handle = some pinned ∧ short.store.freeCount - short.store.reserved < (1 + 511) / 512 ∧
    ¬(s.store.freeCount - s.store.reserved < (1 + 511) / 512) ∧ s.store.tight = false ∧ pinned.versions.length = 4 ∧
    (∀ v ∈ pinned.versions.dropLast, v.pins ≠ 0 ∨ v.retiring = true) := by decide +kernel

/-- An OFFER to the owner, along a plan of the owner alone, and to desks that no port and that a DETACHED port serves; and an offer's
end asked for by the wrong port, and for another desk. -/
theorem test_witness_passing_refused :
    let s := withStory (story .filed [version 1 1 0])
    let own := withStory { story .filed [version 1 1 0] with route := [1, 1] }
    let gone := withPort s 2 fun x => { x with standing := .detached }
    let offered := withStory (story (.offered (offer 1)) [version 1 1 0])
    let target : Head := { port := 2, tag := 1 }
    OfferArgs.check ⟨handleArg, some 1, 9⟩ = some { handle := handle, target := some 1, note := 9 } ∧
    OfferArgs.check ⟨handleArg, some 15, 9⟩ = some { handle := handle, target := some 15, note := 9 } ∧
    OfferArgs.check ⟨handleArg, none, 9⟩ = some { handle := handle, target := none, note := 9 } ∧ s.takes desk1 .offer ∧
    (s.ports.get 1).standing = .active ∧ s.hasRight 1 1 ∧ own.takes desk1 .offer ∧
    own.story handle = some { story .filed [version 1 1 0] with route := [1, 1] } ∧ (∀ d ∈ [(1 : DeskId), 1], d = 1) ∧
    s.groups.ports.serving.get 15 = none ∧ gone.takes desk1 .offer ∧ gone.groups.ports.serving.get 2 = some 2 ∧
    (gone.ports.get 2).standing = .detached ∧ (story .filed []).route = [1] ++ 2 :: [] ∧
    DeskArgs.check ⟨handleArg, 2⟩ = some (handle, 2) ∧ DeskArgs.check ⟨handleArg, 1⟩ = some (handle, 1) ∧
    DeclineArgs.check ⟨handleArg, 1, 0⟩ = some (handle, 1, 0) ∧ offered.takes desk1 .accept ∧ offered.takes desk1 .decline ∧
    offered.groups.ports.serving.get 2 ≠ some desk1.port ∧ offered.groups.ports.serving.get 1 = some desk1.port ∧
    (offer 1).target ≠ 1 ∧ offered.takes target .withdraw ∧ ¬offered.hasRight target.port 1 ∧ offered.takes desk1 .withdraw ∧
    offered.hasRight 1 1 := by decide +kernel

/-- Page commands with a position past the layout, for an undefined page, from a port with no right, with no story, and on a full layout. -/
theorem test_witness_page_refused :
    let s := withPage quietSwitch (pageIn .making none)
    let filled := withPage quietSwitch { pageIn .making none with layout := List.replicate 16 { handle := handle, frame := List.replicate 16 0 } }
    let full : Switch := { withStory (story .filed [version 1 1 0]) with pages := filled.pages, groups := filled.groups }
    let away : Head := { port := 2, tag := 1 }
    PlaceArgs.check ⟨3, handleArg, some 2, List.replicate 16 0⟩ =
      some { page := 3, handle := handle, position := some 2, frame := List.replicate 16 0 } ∧
    PlaceArgs.check ⟨3, handleArg, none, List.replicate 16 0⟩ =
      some { page := 3, handle := handle, position := none, frame := List.replicate 16 0 } ∧
    PlaceArgs.check ⟨127, handleArg, some 0, List.replicate 16 0⟩ =
      some { page := 127, handle := handle, position := some 0, frame := List.replicate 16 0 } ∧
    UnplaceArgs.check ⟨3, 1⟩ = some (3, 1) ∧ UnplaceArgs.check ⟨3, 0⟩ = some (3, 0) ∧ UnplaceArgs.check ⟨127, 0⟩ = some (127, 0) ∧
    ReleaseArgs.check ⟨127, 0⟩ = some (127, false) ∧ ReleaseArgs.check ⟨3, 0⟩ = some (3, false) ∧
    (∀ h ∈ [desk1, away], ∀ c ∈ [Cmd.place, .unplace, .release, .recall], s.takes h c) ∧
    (s.pages.get 3).layout.length = 1 ∧ (s.pages.get 127).layout.length = 0 ∧ s.groups.clock.pages.get 127 = none ∧
    s.groups.clock.pages.get 3 = some pageDef ∧ ¬s.hasRight 2 pageDef.owner ∧ s.hasRight 1 pageDef.owner ∧
    s.story handle = none ∧ full.takes desk1 .place ∧ full.hasRight 1 pageDef.owner ∧ full.groups.clock.pages.get 3 = some pageDef ∧
    full.story handle ≠ none ∧ (full.pages.get 3).layout.length = 16 := by decide +kernel

/-- An undefined page that UNPLACE would reach: its record is not that of any run, and the clause holds of it all the same. -/
theorem test_witness_unplace_undefined :
    let s : Switch := { quietSwitch with pages := quietSwitch.pages.set 127 (pageIn .making none) }
    s.takes desk1 .unplace ∧ 0 < (s.pages.get 127).layout.length ∧ s.groups.clock.pages.get 127 = none := by decide +kernel

theorem test_witness_refused :
    ∃ t, exec (.find desk1 none) (alone quietSwitch) = .next t ∧ anyCommandRow (.find desk1 none) = some (desk1, some .find) ∧
      Code.badParam ≠ .ok ∧ resultFrame desk1 .badParam [] ∈ t.sw.last.sent := by
  refine ⟨_, rfl, rfl, by decide, ?_⟩
  decide +kernel

theorem test_witness_frames :
    Instr.wf (.identify desk0 (some ())) = true ∧
      frameOf (.identify desk0 (some ())) = some (0, { kind := 0x01, tag := 1, payload := [0x31] }) ∧
      (List.replicate 256 (0xA5 : Byte)).length ≤ 256 := by decide +kernel

/-- The invariants' premises meet at a state that a step leaves. -/
theorem test_witness_invariants :
    quietSwitch.copyCanonical ∧ quietSwitch.inboxesOrdered ∧ quietSwitch.settingsInRange ∧ quietSwitch.standingsFollow ∧
      ∃ t, step { alone quietSwitch with pending := [.tick] } = .next t := by
  refine ⟨rfl, ?_, ?_, ?_, _, rfl⟩
  · intro p
    rw [show quietSwitch.inboxes = Bank.replicate 6 Inbox.empty from rfl, Bank.get_replicate]
    exact ⟨by decide, by decide, by decide⟩
  · unfold Switch.settingsInRange
    decide +kernel
  · unfold Switch.standingsFollow
    decide +kernel

/-- One story of one block, read by a stream of port 1 that holds its pin and watched by screen 1/3; page 3 waits in the queue. -/
def heldSwitch : Switch :=
  let v : Version := { version 1 1 1 with chain := [0] }
  let s := { withPage quietSwitch (pageIn .queued (some (job 0))) with queue := [3], releases := 1 }
  { streaming s (.read handle 1 0) none with
    slots := quietSwitch.slots.set 5 { gen := 7, story := some (story .filed [v]) }
    watches := [{ handle := handle, port := 1, screen := 3 }]
    store := { Store.fresh with freePool := blocksFrom 1 8191, freeCount := 8191 } }

/-- The one story of that switch, in slot 5. -/
theorem heldSwitch_only (j : SlotId) (st : Story) (h : (heldSwitch.slots.get j).story = some st) :
    j = 5 ∧ st = story .filed [{ version 1 1 1 with chain := [0] }] := by
  rw [show heldSwitch.slots = quietSwitch.slots.set 5 { gen := 7, story := some (story .filed [{ version 1 1 1 with chain := [0] }]) }
    from rfl, Bank.get_set] at h
  split at h
  · cases h; exact ⟨by symm; assumption, rfl⟩
  · rw [quiet_vacant] at h; cases h

/-- The blocks of a fresh pool as a range. -/
theorem blocksFrom_eq (first count : Nat) : blocksFrom first count = List.range' first count := by
  induction count generalizing first with
  | zero => rfl
  | succ n ih => rw [blocksFrom, ih, List.range'_succ]

theorem test_witness_store_in_order : heldSwitch.StoreInOrder where
  blocks := by
    unfold Switch.heldBlocks
    rw [show (heldSwitch.slots.cells.flatMap Slot.chains).flatten = [0] by decide +kernel,
      show heldSwitch.uploads.cells.flatMap (fun u => (u.map Upload.staging).getD []) = [] by decide +kernel,
      show heldSwitch.store.freePool = List.range' 1 8191 from blocksFrom_eq _ _, List.range_eq_range', List.append_nil]
    exact List.perm_append_comm
  freeCount := by decide +kernel
  reserved := by decide +kernel
  versions i st h := by
    obtain ⟨-, rfl⟩ := heldSwitch_only i st h
    unfold versionsInOrder
    decide +kernel
  uploads p u h := by
    rw [show heldSwitch.uploads = Bank.replicate 6 none from rfl, Bank.get_replicate] at h; cases h
  files p p' u u' h := by
    rw [show heldSwitch.uploads = Bank.replicate 6 none from rfl, Bank.get_replicate] at h; cases h
  saving x p h := by cases h

theorem test_witness_queue_in_order : heldSwitch.QueueInOrder where
  queued := by decide +kernel
  sending := by decide +kernel
  jobs := by decide +kernel
  places := by decide +kernel
  order := List.pairwise_singleton _ _
  releases := by decide +kernel
  returned := by decide +kernel
  sizes := by decide +kernel
  undefined := by decide +kernel
  flight l := by cases l <;> decide +kernel
  engines l := by cases l <;> decide +kernel
  off l := by cases l <;> decide +kernel
  startUp h := by cases h

theorem test_witness_pins_agree : heldSwitch.PinsAgree where
  pins i st v h hv := by
    obtain ⟨rfl, rfl⟩ := heldSwitch_only i st h
    obtain rfl := List.mem_singleton.1 hv
    decide +kernel
  marked i st v h hv := by
    obtain ⟨rfl, rfl⟩ := heldSwitch_only i st h
    obtain rfl := List.mem_singleton.1 hv
    decide +kernel
  pending i st h := by
    obtain ⟨rfl, rfl⟩ := heldSwitch_only i st h
    decide +kernel
  entries q j e n hj he hn := by
    rw [show (heldSwitch.pages.get q).job = if q = 3 then some (job 0) else none by clear hj; revert q; decide +kernel] at hj
    split at hj
    · cases hj
      rw [List.mem_singleton.1 he] at hn
      cases hn
    · cases hj
  streams p k n sent h := by
    rw [show (heldSwitch.ports.get p).stream = if p = 1 then some (.read handle 1 0) else none by clear h; revert p; decide +kernel] at h
    split at h
    · cases h
      exact ⟨story .filed [{ version 1 1 1 with chain := [0] }], { version 1 1 1 with chain := [0] }, by decide +kernel⟩
    · cases h
  result := by decide +kernel
  victims p u n h := by
    rw [show heldSwitch.uploads = Bank.replicate 6 none from rfl, Bank.get_replicate] at h; cases h
  apart p p' u u' h := by
    rw [show heldSwitch.uploads = Bank.replicate 6 none from rfl, Bank.get_replicate] at h; cases h

/-- A tick from that switch goes on, and its watch table is in order. -/
theorem test_witness_more_invariants :
    heldSwitch.watchesInOrder ∧ ∃ t, step { alone heldSwitch with pending := [.tick] } = .next t := by
  refine ⟨?_, _, rfl⟩
  unfold Switch.watchesInOrder
  decide +kernel

/-! ### Steps on small states -/

theorem test_step_front : step { alone quietSwitch with pending := [.tick, .tick] } = exec .tick { alone quietSwitch with pending := [.tick] } := rfl

theorem test_step_idle : step (alone quietSwitch) = .next (alone quietSwitch) := rfl

theorem test_reset_answers_starting :
    ∃ t, step { State.reset with pending := [.find desk1 none] } = .next t ∧ t.sw.last.sent = [resultFrame desk1 .starting []] :=
  ⟨_, rfl, by decide +kernel⟩

theorem test_start_up_serves :
    ∃ t, step { State.reset with pending := [.startUpEnd] } = .next t ∧ t.sw.takes desk0 .identify ∧ t.sw.defaulted = true :=
  ⟨_, rfl, by decide +kernel⟩

theorem test_tick_raises_the_wall : ∃ t, step { alone quietSwitch with pending := [.tick] } = .next t ∧ t.sw.wall = 1 :=
  ⟨_, rfl, by decide +kernel⟩

/-- The factory STORE group in DUMP's bytes: 512, 1,024, 7,200 and 2,400. -/
theorem test_store_group_bytes : StoreGroup.bytes Groups.factory.store = [0x02, 0x00, 0x04, 0x00, 0x1C, 0x20, 0x09, 0x60] := by
  decide +kernel

/-- The image's fields carry no count, and DUMP's data one for each of the seven lists (R175, R178). -/
theorem test_image_fields :
    Groups.factory.fields.length = 620 ∧ Groups.factory.bytes.length = 627 ∧
      Groups.factory.fields.take 7 = [1, 0, 0, 0, 0, 0, 0xFF] ∧
      Groups.factory.bytes.take 9 = [6, 1, 0, 0, 0, 0, 0, 16, 0xFF] := by decide +kernel

end Sys2Proof.Tests
end

section
/-! SUPPORT. The first index of a bank that satisfies a test, the slot that holds a slug, and what FIND answers (spec/01 R10). -/

namespace Sys2Proof.Machine

/-- The numbers counted out by `indicesFrom` ascend. -/
theorem indicesFrom_pairwise_lt (p : α → Bool) : ∀ (k : Nat) (l : List α), (indicesFrom p k l).Pairwise (· < ·)
  | _, [] => .nil
  | k, a :: l => by
    have ih := indicesFrom_pairwise_lt p (k + 1) l
    by_cases hp : p a = true
    · have above : ∀ x ∈ indicesFrom p (k + 1) l, k < x := by
        intro x hx
        obtain ⟨i, -, hxi, -⟩ := (indicesFrom_mem p (k + 1) l x).1 hx
        omega
      simpa [indicesFrom, hp] using ⟨above, ih⟩
    · simpa [indicesFrom, hp] using ih

theorem finOf?_eq_some {k : Nat} {i : Fin n} : finOf? n k = some i ↔ i.val = k := by
  unfold finOf?
  split
  case isTrue hk => simp [Fin.ext_iff, eq_comm]
  case isFalse hk => simp only [reduceCtorEq, false_iff]; omega

theorem Bank.indices_pairwise_lt (p : α → Bool) (b : Bank n α) : (b.indices p).Pairwise (· < ·) := by
  refine (indicesFrom_pairwise_lt p 0 b.cells).filterMap _ fun x y hxy i hi j hj => ?_
  rw [finOf?_eq_some] at hi hj
  exact Fin.lt_def.2 (by omega)

/-- The first of a bank's indices is the lowest place that satisfies p. -/
theorem Bank.head?_indices_eq_some (p : α → Bool) (b : Bank n α) (i : Fin n) :
    (b.indices p).head? = some i ↔ p (b.get i) = true ∧ ∀ j < i, p (b.get j) = false := by
  have ascending := b.indices_pairwise_lt p
  constructor
  · intro hi
    obtain ⟨rest, he⟩ := List.head?_eq_some_iff.1 hi
    refine ⟨(b.mem_indices p i).1 (by simp [he]), fun j hj => ?_⟩
    rw [← Bool.not_eq_true, ← b.mem_indices p j, he]
    rw [he, List.pairwise_cons] at ascending
    intro hmem
    rcases List.mem_cons.1 hmem with rfl | hrest
    · exact lt_irrefl _ hj
    · exact lt_asymm hj (ascending.1 j hrest)
  · rintro ⟨hp, below⟩
    have hmem := (b.mem_indices p i).2 hp
    cases he : b.indices p with
    | nil => simp [he] at hmem
    | cons k rest =>
      have hk : p (b.get k) = true := (b.mem_indices p k).1 (by simp [he])
      rw [he, List.pairwise_cons] at ascending
      rcases List.mem_cons.1 (he ▸ hmem) with rfl | hrest
      · rfl
      · exact absurd hk (by simp [below k (ascending.1 i hrest)])

theorem Bank.head?_indices_eq_none (p : α → Bool) (b : Bank n α) :
    (b.indices p).head? = none ↔ ∀ i, p (b.get i) = false := by
  simp [List.head?_eq_none_iff, List.eq_nil_iff_forall_not_mem, Bank.mem_indices]

namespace Switch

theorem slugHolder_eq (s : Switch) (slug : List Byte) :
    s.slugHolder slug = (s.slots.indices fun x => x.story.any (·.slug == slug)).head? := by
  unfold slugHolder
  congr 2
  funext x
  cases x.story <;> rfl

/-- The holder of a slug is the lowest slot whose story has it. -/
theorem slugHolder_eq_some (s : Switch) (slug : List Byte) (i : SlotId) :
    s.slugHolder slug = some i ↔
      (∃ st, (s.slots.get i).story = some st ∧ st.slug = slug) ∧
        ∀ j < i, ∀ st, (s.slots.get j).story = some st → st.slug ≠ slug := by
  simp [slugHolder_eq, Bank.head?_indices_eq_some, Option.any_eq_true, Option.any_eq_false]

theorem slugHolder_eq_none (s : Switch) (slug : List Byte) :
    s.slugHolder slug = none ↔ ∀ i st, (s.slots.get i).story = some st → st.slug ≠ slug := by
  simp only [slugHolder_eq, Bank.head?_indices_eq_none]
  simp [Option.any_eq_false]

theorem slugHolder_quietly (s : Switch) (slug : List Byte) : s.quietly.slugHolder slug = s.slugHolder slug := rfl

/-- FIND of a slug that a slot holds answers OK with the handle and state of that slot (R10). -/
theorem findCommand_of_holder {s : Switch} {slug : List Byte} {i : SlotId} (hs : s.slugHolder slug = some i) (h : Head) :
    s.findCommand h slug =
      s.answer h .ok (be16 i.val ++ [(s.slots.get i).gen, (s.slots.get i).stateByte]) := by
  simp [findCommand, hs, handleAt, Handle.bytes, slot_def]

/-- FIND of a slug that no slot holds answers NO_STORY (R10). -/
theorem findCommand_of_no_holder {s : Switch} {slug : List Byte} (hs : s.slugHolder slug = none) (h : Head) :
    s.findCommand h slug = s.answer h .noStory [] := by
  simp [findCommand, hs, refuse]

end Switch

/-- A FIND frame is the command FIND with its slug checked and folded (R3, R10). -/
theorem exec_find (h : Head) (slug : List Byte) (s : State) :
    exec (.find h (some slug)) s = s.command h .find (slugOf slug) (Switch.findCommand h) := rfl

/-- Settles O7: the lowest holder of the folded slug decides the answer, and the port refuses a malformed slug. -/
theorem findNamesTheStory : Obligations.FindNamesTheStory := by
  refine ⟨?holder, ?noHolder, ?malformed⟩
  case holder =>
    intro s h slug folded i st taken hslug hstory hheld lowest
    have holder : s.sw.slugHolder folded = some i :=
      (s.sw.slugHolder_eq_some folded i).2 ⟨⟨st, hstory, hheld⟩, lowest⟩
    rw [exec_find, hslug]
    exact s.command_replied h .find folded _ .ok _ s.sw taken
      (Switch.findCommand_of_holder ((s.sw.slugHolder_quietly folded).trans holder) h)
  case noHolder =>
    intro s h slug folded taken hslug unheld
    have noHolder : s.sw.slugHolder folded = none := (s.sw.slugHolder_eq_none folded).2 unheld
    rw [exec_find, hslug]
    exact s.command_replied h .find folded _ .noStory [] s.sw taken
      (Switch.findCommand_of_no_holder ((s.sw.slugHolder_quietly folded).trans noHolder) h)
  case malformed =>
    intro s h slug taken hslug
    rw [exec_find, hslug]
    exact s.command_none h .find _ taken

end Sys2Proof.Machine
end

section
/-! SUPPORT. A notice arriving at an inbox: placed, coalesced or overflowing (spec/05 R78 to R81). -/

namespace Sys2Proof.Machine

/-! ### A notice in its place (R78) -/

theorem insertNotice_length (n : Notice) : ∀ l, (insertNotice n l).length = l.length + 1
  | [] => rfl
  | m :: l => by
    by_cases lower : m.cls.rank < n.cls.rank
    · simp [insertNotice, lower]
    · simp [insertNotice, lower, insertNotice_length n l]

/-- In a list in descending class order, the place of a notice splits the list into the notices of its own class or a higher one
and those of a lower class. -/
theorem insertNotice_splits (n : Notice) {l : List Notice} (ordered : l.Pairwise fun m m' => m'.cls.rank ≤ m.cls.rank) :
    ∃ before after, l = before ++ after ∧ insertNotice n l = before ++ n :: after ∧
      (∀ m ∈ before, n.cls.rank ≤ m.cls.rank) ∧ (∀ m ∈ after, m.cls.rank < n.cls.rank) := by
  induction l with
  | nil => exact ⟨[], [], by simp [insertNotice]⟩
  | cons m l ih =>
    obtain ⟨headHighest, restOrdered⟩ := List.pairwise_cons.1 ordered
    by_cases lower : m.cls.rank < n.cls.rank
    · have allLower : ∀ x ∈ m :: l, x.cls.rank < n.cls.rank :=
        List.forall_mem_cons.2 ⟨lower, fun x hx => (headHighest x hx).trans_lt lower⟩
      exact ⟨[], m :: l, rfl, by simp [insertNotice, lower], by simp, allLower⟩
    · obtain ⟨before, after, hl, inserted, higher, below⟩ := ih restOrdered
      have notLower : ∀ x ∈ m :: before, n.cls.rank ≤ x.cls.rank := List.forall_mem_cons.2 ⟨not_lt.1 lower, higher⟩
      exact ⟨m :: before, after, by simp [hl], by simp [insertNotice, lower, inserted], notLower, below⟩

/-! ### Coalescing (R79) -/

theorem coalesces_iff (n m : Notice) :
    coalesces n m = true ↔ n.kind = .changed ∧ m.kind = .changed ∧ m.handle = n.handle := by
  simp [coalesces, and_assoc]

theorem any_coalesces_eq_false_iff (n : Notice) (l : List Notice) :
    l.any (coalesces n) = false ↔ ∀ m ∈ l, ¬(n.kind = .changed ∧ m.kind = .changed ∧ m.handle = n.handle) := by
  simp only [List.any_eq_false, coalesces_iff]

/-- Notices that the arriving one does not coalesce with stay as they are. -/
theorem map_coalesce_eq_self {n : Notice} {l : List Notice} (apart : ∀ m ∈ l, coalesces n m = false) :
    (l.map fun m => if coalesces n m then m.coalesce n else m) = l :=
  (List.map_congr_left fun m hm => by simp [apart m hm]).trans l.map_id

namespace Inbox

/-! ### What an arrival does to an inbox: one equation for each of R78, R79 and R80 -/

/-- A notice that coalesces with none, at an inbox with room, is inserted (R78). -/
theorem place_of_room {box : Inbox} {n : Notice} (apart : box.notices.any (coalesces n) = false)
    (room : box.notices.length < Config.inboxLimit) :
    box.place n = { box with notices := insertNotice n box.notices } := by
  simp [place, apart, room]

/-- A notice coalesces with the one waiting notice it can coalesce with, whatever the depth (R79). -/
theorem place_of_coalesces {box : Inbox} {n m : Notice} {before after : List Notice}
    (split : box.notices = before ++ m :: after) (meets : coalesces n m = true)
    (apart : ∀ x ∈ before ++ after, coalesces n x = false) :
    box.place n = { box with notices := before ++ m.coalesce n :: after } := by
  obtain ⟨apartBefore, apartAfter⟩ := List.forall_mem_append.1 apart
  simp [place, split, meets, map_coalesce_eq_self apartBefore, map_coalesce_eq_self apartAfter]

/-- At a full inbox the last notice gives way to one of a higher class, and any other arriving notice is discarded (R80). -/
theorem place_of_full {box : Inbox} {n last : Notice} {kept : List Notice} (split : box.notices = kept ++ [last])
    (apart : box.notices.any (coalesces n) = false) (full : Config.inboxLimit ≤ box.notices.length) :
    box.place n = if last.cls.rank < n.cls.rank then { box.lose with notices := insertNotice n kept } else box.lose := by
  have noRoom : ¬ box.notices.length < Config.inboxLimit := not_lt.2 full
  rw [place, if_neg (by simp [apart]), if_neg noRoom]
  simp [split]

end Inbox

/-- Settles O18: an inbox with room inserts the notice, and the insertion splits the ordered list at the notice's place. -/
theorem noticesTakeTheirPlace : Obligations.NoticesTakeTheirPlace := by
  intro box n room uncoalesced ordered
  have placed : box.place n = { box with notices := insertNotice n box.notices } :=
    Inbox.place_of_room ((any_coalesces_eq_false_iff n _).2 uncoalesced) room
  obtain ⟨before, after, split, inserted, higher, lower⟩ := insertNotice_splits n ordered
  refine ⟨before, after, split, ?_, ?_, higher, lower⟩
  · rw [placed, inserted]
  · rw [placed, insertNotice_length]

/-- Settles O19: by the three equations of an arrival. The notice that takes the place of the last one is placed as at an inbox
of the 47 kept, which has room. -/
theorem noticesCoalesceOrOverflow : Obligations.NoticesCoalesceOrOverflow := by
  refine ⟨?coalescing, ?overflowing⟩
  case coalescing =>
    intro box n m before after split arriving waiting sameHandle onlyOne
    refine Inbox.place_of_coalesces split ((coalesces_iff n m).2 ⟨arriving, waiting, sameHandle⟩) fun x hx => ?_
    rw [← Bool.not_eq_true, coalesces_iff]
    exact fun ⟨_, changed, handle⟩ => onlyOne x hx ⟨changed, handle⟩
  case overflowing =>
    intro box n last kept split depth uncoalesced
    have apart : box.notices.any (coalesces n) = false := (any_coalesces_eq_false_iff n _).2 uncoalesced
    have full : Config.inboxLimit ≤ box.notices.length := depth.ge
    have placed := Inbox.place_of_full split apart full
    constructor
    · intro higher
      have keptApart : kept.any (coalesces n) = false :=
        (any_coalesces_eq_false_iff n _).2 fun m hm => uncoalesced m (split ▸ List.mem_append_left _ hm)
      have keptRoom : kept.length < Config.inboxLimit := by
        have : kept.length + 1 = 48 := by simpa [split] using depth
        exact Nat.lt_of_succ_le this.le
      rw [placed, if_pos higher, Inbox.place_of_room (box := { box with notices := kept }) keptApart keptRoom]
      rfl
    · intro notHigher
      rw [placed, if_neg (not_lt.2 notHigher)]
      rfl

end Sys2Proof.Machine
end

section
/-! SUPPORT. What one step can do, said once: the row's own work inside its event, and the three outcomes of a command frame. -/

namespace Sys2Proof.Machine

/-- The work of a row inside its event: the port's part and the block's of a command, or what the event does. -/
def work (i : Instr) : Switch → Switch :=
  match i with
  | .file h a => fun s => s.takeCommand h .file (a.bind FileArgs.check) (Switch.fileCommand h)
  | .find h a => fun s => s.takeCommand h .find (a.bind slugOf) (Switch.findCommand h)
  | .describe h a => fun s => s.takeCommand h .describe (a.bind handleOf) (Switch.describeCommand h)
  | .reclassify h a => fun s => s.takeCommand h .reclassify (a.bind ReclassifyArgs.check) (Switch.reclassifyCommand h)
  | .route h a => fun s => s.takeCommand h .route (a.bind RouteArgs.check) (Switch.routeCommand h)
  | .spike h a => fun s => s.takeCommand h .spike (a.bind handleOf) (Switch.spikeCommand h)
  | .restore h a => fun s => s.takeCommand h .restore (a.bind handleOf) (Switch.restoreCommand h)
  | .purge h a => fun s => s.takeCommand h .purge (a.bind handleOf) (Switch.purgeCommand h)
  | .read h a => fun s => s.takeCommand h .read (a.bind ReadArgs.check) (Switch.readCommand h)
  | .storeStatus h a => fun s => s.takeCommand h .storeStatus a (Switch.storeStatusCommand h)
  | .checkout h a => fun s => s.takeCommand h .checkout (a.bind ScreenArgs.check) (Switch.checkoutCommand h)
  | .renew h a => fun s => s.takeCommand h .renew (a.bind ScreenArgs.check) (Switch.renewCommand h)
  | .abandon h a => fun s => s.takeCommand h .abandon (a.bind ScreenArgs.check) (Switch.abandonCommandFrame h)
  | .checkin h a => fun s => s.takeCommand h .checkin (a.bind CheckinArgs.check) (Switch.checkinCommand h)
  | .leaseExpiry i => Switch.expireLease i
  | .breakLock h a => fun s => s.takeCommand h .breakLock (a.bind handleOf) (Switch.breakCommand h)
  | .offer h a => fun s => s.takeCommand h .offer (a.bind OfferArgs.check) (Switch.offerCommand h)
  | .accept h a => fun s => s.takeCommand h .accept (a.bind DeskArgs.check) (Switch.acceptCommand h)
  | .decline h a => fun s => s.takeCommand h .decline (a.bind DeclineArgs.check) (Switch.declineCommand h)
  | .withdraw h a => fun s => s.takeCommand h .withdraw (a.bind DeskArgs.check) (Switch.withdrawCommand h)
  | .offerExpiry i => Switch.lapseOffer i
  | .collect h a => fun s => s.takeCommand h .collect (a.bind collectCountOf) (Switch.collectCommand h)
  | .filter h a => fun s => s.takeCommand h .filter (a.bind FilterArgs.check) (Switch.filterCommand h)
  | .mask h a => fun s => s.takeCommand h .mask (a.bind MaskArgs.check) (Switch.maskCommand h)
  | .watch h a => fun s => s.takeCommand h .watch (a.bind ScreenArgs.check) (Switch.watchCommand h)
  | .unwatch h a => fun s => s.takeCommand h .unwatch (a.bind ScreenArgs.check) (Switch.unwatchCommand h)
  | .tick => Switch.tick
  | .editionTurn => Switch.turnTick
  | .clockStart h a => fun s => s.takeCommand h .clockStart a (Switch.clockStartCommand h)
  | .clockStop h a => fun s => s.takeCommand h .clockStop a (Switch.clockStopCommand h)
  | .turn h a => fun s => s.takeCommand h .turn (a.bind TurnArgs.check) (Switch.turnCommand h)
  | .editionLength h a => fun s => s.takeCommand h .editionLength (a.bind editionLengthOf) (Switch.editionLengthCommand h)
  | .deadline h a => fun s => s.takeCommand h .deadline (a.bind DeadlineArgs.check) (Switch.deadlineCommand h)
  | .channel h a => fun s => s.takeCommand h .channel (a.bind ChannelArgs.check) (Switch.channelCommand h)
  | .warningPoint c => Switch.takeWarning c
  | .deadlineMatch c => Switch.matchIfDue c
  | .lateTick c => Switch.takeLateTick c
  | .clockStatus h a => fun s => s.takeCommand h .clockStatus a (Switch.clockStatusCommand h)
  | .page h a => fun s => s.takeCommand h .page (a.bind PageArgs.check) (Switch.pageCommand h)
  | .place h a => fun s => s.takeCommand h .place (a.bind PlaceArgs.check) (Switch.placeCommand h)
  | .unplace h a => fun s => s.takeCommand h .unplace (a.bind UnplaceArgs.check) (Switch.unplaceCommand h)
  | .release h a => fun s => s.takeCommand h .release (a.bind ReleaseArgs.check) (Switch.releaseCommand h)
  | .recall h a => fun s => s.takeCommand h .recall (a.bind (below 128)) (Switch.recallCommand h)
  | .pageStatus h a => fun s => s.takeCommand h .pageStatus (a.bind PageStatusArgs.check) (Switch.pageStatusCommand h)
  | .readyLineRise l => Switch.riseReady l
  | .readyLineFall l => Switch.fallReady l
  | .linkSettled l => Switch.settleLink l
  | .linkStall l => Switch.stallLink l
  | .pageStart => Switch.startPage
  | .takeStrobe l => Switch.takeStrobe l
  | .typesetterAccept l => Switch.acceptPage l
  | .typesetterReject l => Switch.rejectPage l
  | .paceWindowClose => Switch.closeWindow
  | .links h a => fun s => s.takeCommand h .links (a.bind LinksArgs.check) (Switch.linksCommand h)
  | .feedStatus h a => fun s => s.takeCommand h .feedStatus a (Switch.feedStatusCommand h)
  | .dataFrame p tag text => Switch.dataFrame p tag text
  | .dataWindowLapse p => Switch.lapseDataWindow p
  | .resultDataFrameSent p => Switch.sendNext p
  | .holdLineRise p => Switch.riseHold p
  | .holdLineFall p => Switch.fallHold p
  | .resultWindowLapse p => Switch.lapseResultWindow p
  | .frameFault p => Switch.faultyFrame p
  | .frameGapTimeout p => Switch.faultyFrame p
  | .unexpectedFrame _ _ => id
  | .unknownCommand h _ => Switch.unknownFrame h
  | .attach h a => fun s => s.takeCommand h .attach a (Switch.attachCommand h)
  | .reattach h a => fun s => s.takeCommand h .reattach (a.bind (below 6)) (Switch.reattachCommand h)
  | .portResetLineRise p => Switch.clearPort p
  | .portResetLineFall p => Switch.fallReset p
  | .portStatus h a => fun s => s.takeCommand h .portStatus (a.bind PortStatusArgs.check) (Switch.portStatusCommand h)
  | .settings h a => fun s => s.takeCommand h .settings (a.bind SettingsArgs.check) (Switch.settingsCommand h)
  | .save h a => fun s => s.takeCommand h .save a (Switch.saveCommand h)
  | .saveWriteEnd => Switch.endSave
  | .dump h a => fun s => s.takeCommand h .dump a (Switch.dumpCommand h)
  | .hold h a => fun s => s.takeCommand h .hold (a.bind holdSetOf) (Switch.holdCommand h)
  | .unhold h a => fun s => s.takeCommand h .unhold (a.bind holdSetOf) (Switch.unholdCommand h)
  | .restart h a => fun s => s.takeCommand h .restart a (Switch.restartCommand h)
  | .identify h a => fun s => s.takeCommand h .identify a (Switch.identifyCommand h)
  | .powerOn => Switch.powerOn
  | .resetLineRise => Switch.beginRestart .resetLine
  | .startUpEnd => Switch.endStartUp

/-- Every row is its work as one event, but for the rise of a port's reset line, which empties the port's inbox after it (R86). -/
theorem exec_eq (i : Instr) (s : State) :
    exec i s = .next { s with sw := s.sw.event (work i) } ∨
      ∃ p, i = .portResetLineRise p ∧ exec i s = .next { s with sw := (s.sw.event (work i)).emptyInbox p } := by
  cases i
  case portResetLineRise p => exact .inr ⟨p, rfl, rfl⟩
  all_goals exact .inl rfl

/-- What every row's work keeps, with the frame of an event about it, every step keeps. -/
theorem step_keeps {P : Switch → Prop} (quietly : ∀ s, P s → P s.quietly) (works : ∀ i s, P s → P (work i s))
    (eased : ∀ s, P s → P s.easedTest) (emptied : ∀ s p, P s → P (s.emptyInbox p)) (s t : State) (hs : P s.sw)
    (ht : step s = .next t) : P t.sw := by
  unfold step at ht
  split at ht
  · cases ht
    exact hs
  · rename_i i rest _
    have event : P (s.sw.event (work i)) := eased _ (works i _ (quietly _ hs))
    obtain done | ⟨p, -, done⟩ := exec_eq i { s with pending := rest } <;> rw [done] at ht <;> cases ht
    · exact event
    · exact emptied _ p event

namespace Switch

/-- A port that hands a command on has made all its checks (R156). -/
theorem takes_of_portCheck {s : Switch} {h : Head} {c : Cmd} (taken : s.portCheck h (some c) = .taken) : s.takes h c := by
  unfold portCheck at taken
  repeat' split at taken
  all_goals simp_all [takes, isDetached, isControl, Switch.port]
  tauto

/-- A port's own refusal is never OK (R156). -/
theorem code_ne_ok_of_portCheck {s : Switch} {h : Head} {c : Option Cmd} {tag : Byte} {code : Code}
    (refused : s.portCheck h c = .refused tag code) : code ≠ .ok := by
  unfold portCheck at refused
  repeat' split at refused
  all_goals (cases refused <;> nofun)

/-- What becomes of a command frame: it is not read, refused by the port or for its parameters, or taken by its block (R156). -/
theorem takeCommand_cases (s : Switch) (h : Head) (c : Cmd) (a : Option α) (body : α → Switch → Switch) :
    s.takeCommand h c a body = s ∨
      (∃ tag code, code ≠ .ok ∧ s.takeCommand h c a body = s.refuse { h with tag := tag } code) ∨
      ∃ x, a = some x ∧ s.takes h c ∧ s.takeCommand h c a body = body x s := by
  unfold takeCommand
  split
  · exact .inl rfl
  · rename_i tag code refused
    exact .inr (.inl ⟨tag, code, code_ne_ok_of_portCheck refused, rfl⟩)
  · rename_i taken
    cases a with
    | none => exact .inr (.inl ⟨h.tag, .badParam, nofun, rfl⟩)
    | some x => exact .inr (.inr ⟨x, rfl, takes_of_portCheck taken, rfl⟩)

/-- An unknown command is refused, or is not read (R156). -/
theorem unknownFrame_cases (s : Switch) (h : Head) :
    s.unknownFrame h = s ∨ ∃ tag code, code ≠ .ok ∧ s.unknownFrame h = s.refuse { h with tag := tag } code := by
  unfold unknownFrame
  split
  · exact .inl rfl
  · rename_i tag code refused
    exact .inr ⟨tag, code, code_ne_ok_of_portCheck refused, rfl⟩
  · exact .inl rfl

end Switch

end Sys2Proof.Machine
end

section
/-! SUPPORT. What every operation keeps of the copy store's bytes, the inboxes, the settings, the standings and the watch table:
one relation, closed under composition, and one lemma for each shared operation. -/

namespace Sys2Proof.Machine

/-! ### Inboxes (R77 to R81) -/

theorem insertNotice_descending (n : Notice) {l : List Notice} (ordered : l.Pairwise fun m m' => m'.cls.rank ≤ m.cls.rank) :
    (insertNotice n l).Pairwise fun m m' => m'.cls.rank ≤ m.cls.rank := by
  obtain ⟨before, after, hl, inserted, higher, lower⟩ := insertNotice_splits n ordered
  obtain ⟨hbefore, hafter, across⟩ := List.pairwise_append.1 (hl ▸ ordered)
  rw [inserted, List.pairwise_append]
  refine ⟨hbefore, List.pairwise_cons.2 ⟨fun x hx => (lower x hx).le, hafter⟩, fun x hx y hy => ?_⟩
  rcases List.mem_cons.1 hy with rfl | hy
  · exact higher x hx
  · exact across x hx y hy

namespace Inbox

/-- A part of an ordered inbox, with a lost count no higher, is ordered. -/
theorem ordered_of_sublist {box part : Inbox} (ordered : box.ordered) (sub : part.notices.Sublist box.notices)
    (lost : part.lost ≤ box.lost) : part.ordered :=
  ⟨sub.length_le.trans ordered.1, ordered.2.1.sublist sub, lost.trans ordered.2.2⟩

theorem empty_ordered : Inbox.empty.ordered := ⟨by simp [empty], .nil, by simp [empty]⟩

theorem lose_ordered {box : Inbox} (ordered : box.ordered) : box.lose.ordered :=
  ⟨ordered.1, ordered.2.1, Nat.min_le_left _ _⟩

/-- An arrival keeps an inbox ordered, whether the notice coalesces, finds room or overflows (R78 to R80). -/
theorem place_ordered {box : Inbox} (n : Notice) (ordered : box.ordered) : (box.place n).ordered := by
  obtain ⟨depth, descending, lost⟩ := ordered
  unfold place
  split
  · refine ⟨by simpa using depth, ?_, lost⟩
    refine List.pairwise_map.2 (descending.imp fun {a b} hab => ?_)
    have class_kept : ∀ m : Notice, (if coalesces n m then m.coalesce n else m).cls = m.cls := by
      intro m
      split <;> rfl
    rw [class_kept, class_kept]
    exact hab
  · split
    · rename_i room
      exact ⟨(insertNotice_length n _).trans_le room, insertNotice_descending n descending, lost⟩
    · split
      · exact lose_ordered ⟨depth, descending, lost⟩
      · rename_i last hlast
        split
        · refine ⟨?_, insertNotice_descending n (descending.sublist (List.dropLast_sublist _)), Nat.min_le_left _ _⟩
          have : box.notices ≠ [] := by
            rintro e
            simp [e] at hlast
          have : 0 < box.notices.length := List.length_pos_iff.2 this
          rw [insertNotice_length, List.length_dropLast]
          omega
        · exact lose_ordered ⟨depth, descending, lost⟩

end Inbox

/-! ### Standings (R161) -/

/-- A port's fault count is at most 255 and its standing follows it, or is DETACHED. -/
def Port.standingFollows (x : Port) : Prop :=
  x.faults ≤ 255 ∧ (x.standing = .detached ∨ x.standing = if 128 ≤ x.faults then .guarded else .active)

theorem Port.withFaults_follows (x : Port) {count : Nat} (bound : count ≤ 255) : (x.withFaults count).standingFollows := by
  refine ⟨bound, ?_⟩
  unfold withFaults standingFor
  cases x.standing <;> simp [Config.guardedFrom]

theorem Port.withFaults_detached_iff (x : Port) (count : Nat) :
    (x.withFaults count).standing = .detached ↔ x.standing = .detached := by
  unfold withFaults standingFor
  cases x.standing <;> simp <;> split <;> nofun

theorem Port.credited_follows {x : Port} (follows : x.standingFollows) : x.credited.standingFollows := by
  by_cases detached : x.standing = .detached
  · rwa [Switch.credited_detached x detached]
  · rw [← Switch.withFaults_credited x detached]
    exact x.withFaults_follows ((Nat.sub_le _ _).trans follows.1)

theorem Port.credited_detached_iff (x : Port) : x.credited.standing = .detached ↔ x.standing = .detached := by
  unfold credited
  split <;> rename_i h
  · simp [h]
  · simp only [h, iff_false]
    split <;> nofun

/-! ### The relation -/

namespace Switch

/-- The watch table in order but for the standings of some ports. -/
def watchedBut (s : Switch) (exempt : PortId → Prop) : Prop :=
  s.watches.length ≤ 512 ∧ s.watches.Nodup ∧
    ∀ x ∈ s.watches, s.story x.handle ≠ none ∧ ((s.ports.get x.port).standing = .detached → exempt x.port)

theorem watchesInOrder_iff (s : Switch) : s.watchesInOrder ↔ s.watchedBut fun _ => False := Iff.rfl

/-- The records that these invariants read. -/
structure Read where
  copy : List Host.Cell
  inboxes : Bank 6 Inbox
  groups : Groups
  clock : Clock
  starting : Bool
  watches : List Watch
  ports : Bank 6 Port
  slots : Bank 1024 Slot

def read (s : Switch) : Read where
  copy := s.store.copy
  inboxes := s.inboxes
  groups := s.groups
  clock := s.clock
  starting := s.starting
  watches := s.watches
  ports := s.ports
  slots := s.slots

/-- The state t keeps each of these invariants that s meets. -/
structure Keeps (s t : Switch) : Prop where
  copy : s.copyCanonical → t.copyCanonical
  inboxes : s.inboxesOrdered → t.inboxesOrdered
  settings : s.settingsInRange → t.settingsInRange
  standings : s.standingsFollow → t.standingsFollow
  watches : ∀ exempt, s.watchedBut exempt → t.watchedBut exempt

namespace Keeps

theorem refl (s : Switch) : Keeps s s := ⟨id, id, id, id, fun _ => id⟩

theorem trans {s t u : Switch} (a : Keeps s t) (b : Keeps t u) : Keeps s u :=
  ⟨b.copy ∘ a.copy, b.inboxes ∘ a.inboxes, b.settings ∘ a.settings, b.standings ∘ a.standings,
    fun e => b.watches e ∘ a.watches e⟩

theorem foldl {f : Switch → α → Switch} (h : ∀ s a, Keeps s (f s a)) (l : List α) (s : Switch) : Keeps s (l.foldl f s) := by
  induction l generalizing s with
  | nil => exact refl s
  | cons a l ih => exact (h s a).trans (ih _)

/-- A state with the same settings, clock and start-up. -/
theorem settings_of_same {s t : Switch} (groups : t.groups = s.groups) (clock : t.clock = s.clock)
    (starting : t.starting = s.starting) (hs : s.settingsInRange) : t.settingsInRange := by
  unfold settingsInRange
  rw [groups, clock, starting]
  exact hs

/-- A watch table with no new entry, where every story watched is still there and no port has become DETACHED. -/
theorem watches_of_subset {s t : Switch} (watches : t.watches.Sublist s.watches)
    (stories : ∀ x ∈ t.watches, s.story x.handle ≠ none → t.story x.handle ≠ none)
    (ports : ∀ p, (t.ports.get p).standing = .detached → (s.ports.get p).standing = .detached) (exempt : PortId → Prop)
    (hs : s.watchedBut exempt) : t.watchedBut exempt := by
  obtain ⟨depth, nodup, entries⟩ := hs
  refine ⟨watches.length_le.trans depth, nodup.sublist watches, fun x hx => ?_⟩
  obtain ⟨story, standing⟩ := entries x (watches.subset hx)
  exact ⟨stories x hx story, fun detached => standing (ports _ detached)⟩

/-- An update that leaves each thing these invariants read as it was, or as good. -/
theorem of_parts {s t : Switch} (copy : t.store.copy = s.store.copy) (inboxes : t.inboxes = s.inboxes) (groups : t.groups = s.groups)
    (clock : t.clock = s.clock) (starting : t.starting = s.starting) (watches : t.watches = s.watches)
    (ports : ∀ p, (t.ports.get p).faults = (s.ports.get p).faults ∧ (t.ports.get p).standing = (s.ports.get p).standing)
    (stories : ∀ k, s.story k ≠ none → t.story k ≠ none) : Keeps s t where
  copy := by
    unfold copyCanonical
    rw [copy]
    exact id
  inboxes := by
    unfold inboxesOrdered
    rw [inboxes]
    exact id
  settings := settings_of_same groups clock starting
  standings := by
    unfold standingsFollow
    simp only [fun p => (ports p).1, fun p => (ports p).2]
    exact id
  watches := watches_of_subset (watches ▸ List.Sublist.refl _) (fun x _ => stories x.handle)
    (fun p detached => (ports p).2 ▸ detached)

/-- An update that leaves alone all that these invariants read. -/
theorem of_same {s t : Switch} (same : t.read = s.read) : Keeps s t := by
  obtain ⟨copy, inboxes, groups, clock, starting, watches, ports, slots⟩ := Read.mk.inj same
  exact of_parts copy inboxes groups clock starting watches (fun p => by rw [ports]; exact ⟨rfl, rfl⟩)
    (fun k => by unfold story slot; rw [slots]; exact id)

end Keeps

/-! ### Updates of one record -/

/-- A port's record replaced by one whose fault count and standing are as good (R161). -/
theorem keeps_setPort_follows (s : Switch) (p : PortId) (x : Port)
    (follows : (s.ports.get p).standingFollows → x.standingFollows)
    (detached : x.standing = .detached → (s.ports.get p).standing = .detached) : Keeps s (s.setPort p x) where
  copy := id
  inboxes := id
  settings := id
  standings := by
    intro hs k
    simp only [setPort_fields, Bank.get_set]
    split
    · rename_i same
      subst same
      exact follows (hs p)
    · exact hs k
  watches := Keeps.watches_of_subset (List.Sublist.refl _) (fun _ _ h => h) fun k hk => by
    simp only [setPort_fields, Bank.get_set] at hk
    split at hk
    · rename_i same
      subst same
      exact detached hk
    · exact hk

/-- A port's record replaced by one with the same fault count and standing. -/
theorem keeps_setPort (s : Switch) (p : PortId) (x : Port) (faults : x.faults = (s.ports.get p).faults)
    (standing : x.standing = (s.ports.get p).standing) : Keeps s (s.setPort p x) :=
  s.keeps_setPort_follows p x (fun hs => by unfold Port.standingFollows; rwa [faults, standing]) fun hx => standing ▸ hx

/-- A story replaced: every story that was there is there. -/
theorem keeps_setStory (s : Switch) (i : SlotId) (st : Story) : Keeps s (s.setStory i st) :=
  .of_parts rfl rfl rfl rfl rfl rfl (fun _ => ⟨rfl, rfl⟩) (fun k hk => by
    unfold story slot at hk ⊢
    simp only [setStory_fields, Bank.get_set]
    split
    · rename_i same
      subst same
      by_cases generation : (s.slots.get k.slot).gen = k.gen
      · simp [generation]
      · simp [generation] at hk
    · exact hk)

theorem keeps_postEach (s : Switch) (f : PortId → Option Notice) : Keeps s (s.postEach f) :=
  { Keeps.of_same (s := s) (t := { s.postEach f with inboxes := s.inboxes }) rfl with
    inboxes := fun hs p => by
      rw [postEach_inbox]
      split
      · exact hs p
      · split
        · exact hs p
        · exact Inbox.place_ordered _ (hs p) }

theorem keeps_post (s : Switch) (n : Notice) (who : PortId → Bool) : Keeps s (s.post n who) := s.keeps_postEach _

theorem keeps_postControl (s : Switch) (n : Notice) : Keeps s (s.postControl n) := s.keeps_postEach _

theorem keeps_postWatchers (s : Switch) (k : Handle) (n : Notice) : Keeps s (s.postWatchers k n) := s.keeps_postEach _

/-- An inbox replaced by a part of itself. -/
theorem keeps_setInbox (s : Switch) (p : PortId) (x : Inbox) (sub : x.notices.Sublist (s.inboxes.get p).notices)
    (lost : x.lost ≤ (s.inboxes.get p).lost) : Keeps s (s.setInbox p x) :=
  { Keeps.of_same (s := s) (t := { s.setInbox p x with inboxes := s.inboxes }) rfl with
    inboxes := fun hs k => by
      simp only [setInbox_fields, Bank.get_set]
      split
      · rename_i same
        subst same
        exact Inbox.ordered_of_sublist (hs p) sub lost
      · exact hs k }

theorem keeps_emptyInbox (s : Switch) (p : PortId) : Keeps s (s.emptyInbox p) :=
  s.keeps_setInbox p Inbox.empty (List.nil_sublist _) (Nat.zero_le _)

theorem keeps_emptyInboxes (s : Switch) : Keeps s s.emptyInboxes :=
  { Keeps.of_same (s := s) (t := { s.emptyInboxes with inboxes := s.inboxes }) rfl with
    inboxes := fun _ p => by
      rw [emptyInboxes_inbox]
      exact Inbox.empty_ordered }

/-- The store's accounts replaced, its bytes as they were. -/
theorem keeps_setStore (s : Switch) (x : Store) (copy : x.copy = s.store.copy) : Keeps s (s.setStore x) :=
  .of_parts copy rfl rfl rfl rfl rfl (fun _ => ⟨rfl, rfl⟩) (fun _ h => h)

theorem keeps_setUpload (s : Switch) (p : PortId) (u : Option Upload) : Keeps s (s.setUpload p u) := .of_same rfl

theorem keeps_emit (s : Switch) (e : Emission) : Keeps s (s.emit e) := .of_same rfl

theorem keeps_markReleased (s : Switch) : Keeps s s.markReleased := .of_same rfl

theorem keeps_quietly (s : Switch) : Keeps s s.quietly := .of_same rfl

theorem keeps_returnChain (s : Switch) (l : List Nat) : Keeps s (s.returnChain l) := .of_same rfl

theorem keeps_setPage (s : Switch) (q : PageId) (x : Page) : Keeps s (s.setPage q x) := .of_same rfl

theorem keeps_setLink (s : Switch) (l : LinkId) (x : Link) : Keeps s (s.setLink l x) := .of_same rfl

theorem keeps_setChannel (s : Switch) (c : ChannelId) (x : Channel) : Keeps s (s.setChannel c x) := .of_same rfl

theorem keeps_dropWatches (s : Switch) (f : Watch → Bool) : Keeps s (s.dropWatches f) :=
  { Keeps.of_same (s := s) (t := { s.dropWatches f with watches := s.watches }) rfl with
    watches := Keeps.watches_of_subset List.filter_sublist (fun _ _ h => h) fun _ h => h }

/-- A slot vacated after the watch entries on its story have gone (R9, R17). -/
theorem keeps_vacate (s : Switch) (i : SlotId) (unwatched : ∀ x ∈ s.watches, x.handle ≠ s.handleAt i) :
    Keeps s (s.vacate i) :=
  { Keeps.of_same (s := s) (t := { s.vacate i with slots := s.slots }) rfl with
    watches := Keeps.watches_of_subset (List.Sublist.refl _)
      (fun x hx hstory => by
        obtain ⟨st, hst⟩ := Option.ne_none_iff_exists'.1 hstory
        obtain ⟨gen, _⟩ := story_eq_some.1 hst
        have elsewhere : i ≠ x.handle.slot := by
          rintro rfl
          refine unwatched x hx ?_
          unfold handleAt
          rw [slot_def, gen]
        unfold story slot at hstory ⊢
        simpa only [vacate_fields, Bank.get_set_ne _ _ elsewhere] using hstory)
      fun _ h => h }

/-! ### Replies -/

theorem keeps_sendResult (s : Switch) (p : PortId) (tag : Byte) (code : Code) (values : List Byte) :
    Keeps s (s.sendResult p tag code values) := .of_same rfl

theorem keeps_lowerFaults (s : Switch) (p : PortId) : Keeps s (s.lowerFaults p) := by
  rw [lowerFaults_eq]
  exact s.keeps_setPort_follows p _ Port.credited_follows (Port.credited_detached_iff _).1

theorem keeps_answer (s : Switch) (h : Head) (code : Code) (values : List Byte) : Keeps s (s.answer h code values) := by
  unfold answer
  split
  · exact (s.keeps_sendResult _ _ _ _).trans (keeps_lowerFaults _ _)
  · exact s.keeps_sendResult _ _ _ _

theorem keeps_refuse (s : Switch) (h : Head) (code : Code) : Keeps s (s.refuse h code) := s.keeps_answer h code []

theorem keeps_openStream (s : Switch) (h : Head) (c : Cmd) (values : List Byte) (x : Stream) :
    Keeps s (s.openStream h c values x) := (s.keeps_answer h .ok values).trans (keeps_setPort _ _ _ (by rfl) (by rfl))

theorem keeps_report (s : Switch) (h : Head) (c : Cmd) (data : List Byte) : Keeps s (s.report h c data) :=
  s.keeps_openStream _ _ _ _

/-! ### The tight condition (R32, R33) -/

theorem keeps_reserve (s : Switch) (n : Nat) : Keeps s (s.reserve n) := by
  unfold reserve
  dsimp only
  split
  · exact ((s.keeps_setStore _ (by rfl)).trans (keeps_setStore _ _ (by rfl))).trans (keeps_postControl _ _)
  · exact s.keeps_setStore _ (by rfl)

theorem keeps_easedTest (s : Switch) : Keeps s s.easedTest := by
  unfold easedTest
  split
  · exact (s.keeps_setStore _ (by rfl)).trans (keeps_postControl _ _)
  · exact .refl s

/-! ### Stories, pins and purges (R9, R17, R31, R56) -/

theorem keeps_returnUpload (s : Switch) (u : Upload) : Keeps s (s.returnUpload u) :=
  ((s.keeps_returnChain _).trans (keeps_setStore _ _ (by rfl))).trans (keeps_markReleased _)

theorem keeps_modifyVersions (s : Switch) (k : Handle) (f : List Version → List Version) :
    Keeps s (s.modifyVersions k f) := by
  unfold modifyVersions
  split
  · exact .refl s
  · exact s.keeps_setStory _ _

theorem keeps_pin (s : Switch) (k : Handle) (n : Nat) : Keeps s (s.pin k n) := s.keeps_modifyVersions _ _

theorem keeps_forgetVictims (s : Switch) (k : Handle) : Keeps s (s.forgetVictims k) := .of_same rfl

theorem keeps_completePurge (s : Switch) (i : SlotId) : Keeps s (s.completePurge i) := by
  unfold completePurge
  split
  · exact .refl s
  · rename_i st _
    simp only [returnChains_eq]
    refine ((((s.keeps_postWatchers _ _).trans (keeps_dropWatches _ _)).trans (keeps_setStore _ _ (by rfl))).trans
      ((keeps_markReleased _).trans (keeps_forgetVictims _ _))).trans (keeps_vacate _ _ ?_)
    intro x hx e
    obtain ⟨_, kept⟩ := List.mem_filter.1 hx
    simp [e, handleAt, slot, forgetVictims, markReleased] at kept

theorem keeps_purgeIfUnpinned (s : Switch) (i : SlotId) : Keeps s (s.purgeIfUnpinned i) := by
  unfold purgeIfUnpinned
  split
  · exact .refl s
  · split
    · exact s.keeps_completePurge i
    · exact .refl s

theorem keeps_requestPurge (s : Switch) (i : SlotId) : Keeps s (s.requestPurge i) := by
  unfold requestPurge
  split
  · exact .refl s
  · split
    · exact s.keeps_completePurge i
    · exact s.keeps_setStory _ _

theorem keeps_unpin (s : Switch) (k : Handle) (n : Nat) : Keeps s (s.unpin k n) := by
  unfold unpin
  split
  · exact .refl s
  · exact (s.keeps_modifyVersions _ _).trans (keeps_purgeIfUnpinned _ _)

/-! ### Uploads (R9, R23 to R26) -/

/-- A byte written to the store leaves its bytes canonical (R24). -/
theorem keeps_write (s : Switch) (a : Nat) (b : Byte) :
    Keeps s (s.setStore { s.store with copy := Memory.write s.store.copy a b }) :=
  { Keeps.of_same (s := s) (t := s) rfl with copy := fun hs => Memory.write_wf _ a b hs }

theorem keeps_pushByte (s : Switch) (u : Upload) (b : Byte) : Keeps s (pushByte (s, u) b).1 := by
  unfold pushByte
  dsimp only
  split
  · split
    · exact s.keeps_write _ b
    · exact (s.keeps_setStore _ (by rfl)).trans (keeps_write _ _ b)
  · exact s.keeps_write _ b

theorem keeps_pushText (s : Switch) (u : Upload) (text : List Byte) : Keeps s (s.pushText u text).1 := by
  unfold pushText
  induction text generalizing s u with
  | nil => exact .refl s
  | cons b text ih => exact (s.keeps_pushByte u b).trans (ih _ _)

theorem keeps_clearMark (s : Switch) (u : Upload) : Keeps s (s.clearMark u) := by
  unfold clearMark
  split
  · exact .refl s
  · exact s.keeps_modifyVersions _ _

theorem keeps_failUpload (s : Switch) (p : PortId) : Keeps s (s.failUpload p) := by
  unfold failUpload
  split
  · exact .refl s
  · rename_i u _
    refine Keeps.trans ?_ ((keeps_clearMark _ u).trans (keeps_setUpload _ _ _))
    split
    · exact s.keeps_returnUpload u
    · exact .refl s

theorem keeps_dropFile (s : Switch) (k : Handle) : Keeps s (s.dropFile k) := by
  unfold dropFile
  split
  · exact .refl s
  · rename_i st hst
    refine ((s.keeps_postWatchers _ _).trans (keeps_dropWatches _ _)).trans (keeps_vacate _ _ ?_)
    intro x hx e
    obtain ⟨_, kept⟩ := List.mem_filter.1 hx
    obtain ⟨gen, _⟩ := story_eq_some.1 hst
    simp [e, handleAt, slot, gen] at kept

theorem keeps_abandonUpload (s : Switch) (p : PortId) : Keeps s (s.abandonUpload p) := by
  unfold abandonUpload
  split
  · exact .refl s
  · refine (s.keeps_failUpload p).trans ?_
    split
    · exact keeps_dropFile _ _
    · exact .refl _

theorem keeps_makeVersion (s : Switch) (p : PortId) (u : Upload) (st : Story) : Keeps s (s.makeVersion p u st).1 := by
  unfold makeVersion
  exact (Keeps.foldl (fun s (v : Version) => (s.keeps_returnChain v.chain).trans (keeps_markReleased _)) _ s).trans
    (keeps_setUpload _ _ _)

/-! ### Locks and offers (R51, R53, R56, R68, R69) -/

theorem keeps_endLock (s : Switch) (i : SlotId) (st : Story) (l : Lock) (k : NoticeKind) : Keeps s (s.endLock i st l k) :=
  (s.keeps_setStory _ _).trans (keeps_post _ _ _)

/-- A slot with a lock removed still holds its story under its generation (R56). -/
theorem releaseLockOf_story (p : PortId) (x : Slot) :
    (releaseLockOf p x).gen = x.gen ∧ ((releaseLockOf p x).story = none ↔ x.story = none) := by
  unfold releaseLockOf
  split
  · simp
  · split
    · split <;> simp_all
    · simp

theorem keeps_releaseLocks (s : Switch) (p : PortId) : Keeps s (s.releaseLocks p) :=
  .of_parts rfl rfl rfl rfl rfl rfl (fun _ => ⟨rfl, rfl⟩) (fun k hk => by
    unfold story slot releaseLocks at *
    rw [Bank.get_map, (releaseLockOf_story p _).1]
    split at hk
    · rename_i same
      rw [if_pos same, ne_eq, (releaseLockOf_story p _).2]
      exact hk
    · exact absurd rfl hk)

theorem keeps_expireOffer (r : Reason) (s : Switch) (i : SlotId) : Keeps s (expireOffer r s i) := by
  unfold expireOffer
  split
  · exact .refl s
  · split
    · exact (s.keeps_setStory _ _).trans (keeps_post _ _ _)
    · exact .refl s

theorem keeps_expireOffersTo (s : Switch) (p : PortId) : Keeps s (s.expireOffersTo p) :=
  .foldl (fun s i => s.keeps_expireOffer _ i) _ s

/-! ### The exchange (R155, R161, R162) -/

theorem keeps_toIdle (s : Switch) (p : PortId) : Keeps s (s.toIdle p) := s.keeps_setPort p _ (by rfl) (by rfl)

theorem keeps_endStream (s : Switch) (p : PortId) : Keeps s (s.endStream p) := by
  unfold endStream
  dsimp only
  split
  · exact (s.keeps_toIdle p).trans (keeps_unpin _ _ _)
  all_goals exact s.keeps_toIdle p

theorem keeps_orphanSave (s : Switch) (p : PortId) : Keeps s (s.orphanSave p) := by
  unfold orphanSave
  split
  · exact .refl s
  · split
    · exact .of_same rfl
    · exact .refl s

theorem keeps_abandonCommand (s : Switch) (p : PortId) : Keeps s (s.abandonCommand p) :=
  ((s.keeps_abandonUpload p).trans (keeps_orphanSave _ p)).trans (keeps_endStream _ p)

/-- A detach leaves no watch entry of the port it takes away (R96, R162). -/
theorem keeps_detach (s : Switch) (p : PortId) : Keeps s (s.detach p) := by
  let away := s.setPort p { s.port p with standing := .detached, quietStart := s.wall }
  have abandoned : Keeps away ((away.abandonCommand p).releaseLocks p) :=
    (keeps_abandonCommand _ p).trans (keeps_releaseLocks _ p)
  have after : Keeps (((away.abandonCommand p).releaseLocks p).dropWatches fun w => w.port == p) (s.detach p) :=
    ((keeps_emptyInbox _ p).trans (keeps_expireOffersTo _ p)).trans (keeps_postControl _ _)
  have dropped := (abandoned.trans (keeps_dropWatches _ fun w => w.port == p)).trans after
  refine ⟨fun hs => dropped.copy hs, fun hs => dropped.inboxes hs, fun hs => dropped.settings hs, fun hs => ?_, fun exempt hs => ?_⟩
  · refine dropped.standings fun k => ?_
    show ((s.ports.set p _).get k).standingFollows
    rw [Bank.get_set]
    split
    · exact ⟨(hs p).1, .inl rfl⟩
    · exact hs k
  · obtain ⟨depth, nodup, entries⟩ := hs
    have awayWatched : away.watchedBut fun k => exempt k ∨ k = p := by
      refine ⟨depth, nodup, fun x hx => ⟨(entries x hx).1, fun detached => ?_⟩⟩
      by_cases same : x.port = p
      · exact .inr same
      · refine .inl ((entries x hx).2 ?_)
        rwa [show away.ports = s.ports.set p _ from rfl, Bank.get_set_ne _ _ (Ne.symm same)] at detached
    obtain ⟨depth', nodup', entries'⟩ := abandoned.watches _ awayWatched
    refine after.watches exempt ⟨(List.length_filter_le _ _).trans depth', nodup'.filter _, fun x hx => ?_⟩
    obtain ⟨kept, other⟩ := List.mem_filter.1 hx
    exact ⟨(entries' x kept).1, fun detached => ((entries' x kept).2 detached).resolve_right (by simpa using other)⟩

/-- A counted fault: the step it takes stays within 255, or the port is detached (R161). -/
theorem keeps_countFault (s : Switch) (p : PortId) (k : Switch → Switch) (keeps : Keeps s (k s))
    (same : ((k s).ports.get p).faults ≤ (s.ports.get p).faults) : Keeps s (s.countFault p k) := by
  unfold countFault
  split
  · exact s.keeps_detach p
  · rename_i below
    refine keeps.trans (keeps_setPort_follows _ p _ (fun _ => Port.withFaults_follows _ ?_) fun detached => ?_)
    · rw [wouldDetach, port_def, decide_eq_true_eq, not_lt] at below
      exact (Nat.add_le_add_right same _).trans below
    · exact (Port.withFaults_detached_iff _ _).1 detached

/-! ### Snapshots and jobs (R123 to R131) -/

theorem keeps_snapshot (l : List Placement) : ∀ s : Switch, Keeps s (s.snapshot l).1 := by
  induction l with
  | nil => exact fun s => .refl s
  | cons pl l ih =>
    intro s
    simp only [snapshot]
    split
    · exact ih s
    · exact (s.keeps_pin _ _).trans (ih _)

theorem keeps_releasePins (s : Switch) (l : List Entry) : Keeps s (s.releasePins l) := by
  refine Keeps.foldl (fun s e => ?_) l s
  split
  · exact .refl s
  · exact s.keeps_unpin _ _

theorem keeps_releasePage (s : Switch) (q : PageId) (d : PageDef) (rush : Bool) : Keeps s (s.releasePage q d rush) :=
  (keeps_snapshot (s.page q).layout s).trans (.of_same rfl)

theorem keeps_reRelease (s : Switch) (q : PageId) (d : PageDef) (old : Job) : Keeps s (s.reRelease q d old) :=
  ((s.keeps_releasePins old.entries).trans (keeps_snapshot _ _)).trans (keeps_setPage _ _ _)

theorem keeps_endJob (s : Switch) (q : PageId) (x : Page) : Keeps s (s.endJob q x) :=
  Keeps.trans (.of_same (by rfl)) (keeps_releasePins _ _)

theorem keeps_faultPage (s : Switch) (q : PageId) (r : Reason) : Keeps s (s.faultPage q r) :=
  (s.keeps_endJob q _).trans (keeps_post _ _ _)

theorem keeps_judgeGroups (s before : Switch) : Keeps s (s.judgeGroups before) := .of_same rfl

theorem keeps_completePage (s : Switch) (q : PageId) : Keeps s (s.completePage q) :=
  ((s.keeps_endJob q _).trans (keeps_post _ _ _)).trans (keeps_judgeGroups _ _)

theorem keeps_autoReleasePage (c : ChannelId) (s : Switch) (q : PageId) : Keeps s (autoReleasePage c s q) := by
  unfold autoReleasePage
  split
  · exact .refl s
  · split
    · exact s.keeps_releasePage q _ _
    · exact s.keeps_post _ _

theorem keeps_autoRelease (s : Switch) (c : ChannelId) (reference : Nat) : Keeps s (s.autoRelease c reference) :=
  .foldl (fun s q => keeps_autoReleasePage c s q) _ s

/-! ### Links (R136 to R147) -/

theorem keeps_postLink (s : Switch) (k : NoticeKind) (u : Urgency) (l : LinkId) (q : Option PageId) :
    Keeps s (s.postLink k u l q) := s.keeps_postControl _

theorem keeps_activate (s : Switch) (l : LinkId) : Keeps s (s.activate l) := .of_same rfl

theorem keeps_failOver (s : Switch) (l : LinkId) (q : Option PageId) : Keeps s (s.failOver l q) := by
  unfold failOver
  split
  · exact (s.keeps_activate _).trans (keeps_postLink _ _ _ _ _)
  · exact s.keeps_postLink _ _ _ _

theorem keeps_takeOver (s : Switch) (l : LinkId) : Keeps s (s.takeOver l) := by
  unfold takeOver
  split
  · dsimp only
    split
    all_goals exact (s.keeps_activate _).trans (keeps_postLink _ _ _ _ _)
  · exact .refl s

theorem keeps_returnHome (s : Switch) : Keeps s s.returnHome := by
  unfold returnHome
  dsimp only
  split
  · exact (s.keeps_activate _).trans (keeps_postLink _ _ _ _ _)
  · exact .refl s

theorem keeps_dropLink (s : Switch) (l : LinkId) : Keeps s (s.dropLink l) := by
  unfold dropLink
  dsimp only
  split
  · exact (s.keeps_setLink _ _).trans (keeps_failOver _ _ _)
  · exact s.keeps_setLink _ _

theorem keeps_engineIdled (s : Switch) (l : LinkId) : Keeps s (s.engineIdled l) := by
  unfold engineIdled
  refine Keeps.trans ?_ (keeps_returnHome _)
  split
  · exact s.keeps_dropLink l
  · exact .refl s

theorem keeps_beginAttempt (s : Switch) (l : LinkId) (q : PageId) : Keeps s (s.beginAttempt l q) := .of_same rfl

theorem keeps_returnPage (s : Switch) (q : PageId) : Keeps s (s.returnPage q) := .of_same rfl

theorem keeps_discardWindow (s : Switch) : Keeps s s.discardWindow := .of_same rfl

theorem keeps_abandonAttempt (s : Switch) (l : LinkId) (q : PageId) : Keeps s (s.abandonAttempt l q) := by
  unfold abandonAttempt
  dsimp only
  split
  · exact s.keeps_discardWindow.trans ((keeps_faultPage _ _ _).trans (keeps_failOver _ _ _))
  · split
    · exact s.keeps_discardWindow.trans
        (((keeps_activate _ _).trans (keeps_beginAttempt _ _ _)).trans (keeps_postLink _ _ _ _ _))
    · exact s.keeps_discardWindow.trans ((keeps_returnPage _ _).trans (keeps_postLink _ _ _ _ _))

theorem keeps_breakOff (s : Switch) (l : LinkId) (state : LinkState) : Keeps s (s.breakOff l state) := by
  unfold breakOff
  dsimp only
  split
  · exact (s.keeps_setLink l _).trans (keeps_abandonAttempt _ _ _)
  · exact (s.keeps_setLink l _).trans (keeps_abandonAttempt _ _ _)
  · exact (s.keeps_setLink l _).trans (keeps_failOver _ _ _)

theorem keeps_voidAttempt (s : Switch) (q : PageId) (edition : Nat) : Keeps s (s.voidAttempt q edition) := by
  unfold voidAttempt
  dsimp only
  split
  · exact .of_same rfl
  · exact .refl s

theorem keeps_emitPresented (s : Switch) (l : LinkId) : Keeps s (s.emitPresented l) := by
  unfold emitPresented
  split
  · exact .refl s
  · exact s.keeps_emit _

/-! ### The edition clock and its channels (R99 to R113) -/

theorem keeps_postChannel (s : Switch) (c : ChannelId) (k : NoticeKind) (u : Urgency) (note : Option Byte) :
    Keeps s (s.postChannel c k u note) := s.keeps_post _ _

theorem keeps_takeMatch (c : ChannelId) (s : Switch) : Keeps s (takeMatch c s) := by
  unfold takeMatch
  dsimp only
  split
  · split
    · exact s.keeps_setChannel _ _
    · have noted := fun x => (s.keeps_setChannel c x).trans (keeps_postChannel _ c .pageLate .flash (some (lateNote 0)))
      split
      · exact (noted _).trans (keeps_autoRelease _ _ _)
      · exact noted _
  · exact .refl s

theorem keeps_matchIfDue (c : ChannelId) (s : Switch) : Keeps s (matchIfDue c s) := by
  unfold matchIfDue
  split
  · exact keeps_takeMatch c s
  · exact .refl s

theorem keeps_setActive (s : Switch) (c : ChannelId) (deadline : Nat) : Keeps s (s.setActive c deadline) := by
  unfold setActive
  dsimp only
  split
  · exact .refl s
  · exact (s.keeps_setChannel _ _).trans (keeps_matchIfDue _ _)

theorem keeps_turnChannel (ended : Nat) (s : Switch) (c : ChannelId) : Keeps s (turnChannel ended s c) := by
  unfold turnChannel
  dsimp only
  split
  · exact (s.keeps_setChannel _ _).trans (keeps_autoRelease _ _ _)
  · exact s.keeps_setChannel _ _

/-- The groups in range bound the edition length (R103). -/
theorem editionLength_of_inRange {g : Groups} (hg : g.inRange = true) :
    1200 ≤ g.clock.editionLength ∧ g.clock.editionLength ≤ 65535 := by
  unfold Groups.inRange at hg
  simp only [Bool.and_eq_true, decide_eq_true_eq] at hg
  exact hg.1.1.1.1.1.2

/-- The clock's part of a turn: the next edition at tick 0 under the buffered length (R98, R100). -/
theorem keeps_turnClock (s : Switch) :
    Keeps s { s with clock := { s.clock with
      ticks := 0, edition := editionAfter s.clock.edition, activeLength := s.groups.clock.editionLength } } :=
  { Keeps.of_same (s := s) (t := s) rfl with
    settings := fun ⟨groups, first, last, _, _, stopped⟩ => by
      obtain ⟨low, high⟩ := editionLength_of_inRange groups
      have next : 1 ≤ editionAfter s.clock.edition ∧ editionAfter s.clock.edition ≤ 255 := by
        unfold editionAfter Config.editionMax
        split <;> omega
      exact ⟨groups, next.1, next.2, Nat.lt_of_lt_of_le (by decide : 0 < 1200) low, high, stopped⟩ }

theorem keeps_setPages (s : Switch) (pages : Bank 128 Page) : Keeps s { s with pages := pages } := .of_same rfl

theorem keeps_turnEdition (s : Switch) : Keeps s s.turnEdition :=
  ((s.keeps_turnClock.trans (keeps_post _ _ _)).trans (Keeps.foldl (fun s c => keeps_turnChannel _ s c) _ _)).trans
    ((Keeps.foldl (fun s i => s.keeps_requestPurge i) _ _).trans (keeps_setPages _ _))

end Switch

end Sys2Proof.Machine
end

section
/-! SUPPORT. What the work of every row keeps of the copy store's bytes, the inboxes, the settings, the standings and the watch
table; and the statements that every step keeps them. -/

namespace Sys2Proof.Machine.Switch

/-! ### The checks a command makes -/

theorem keeps_onStory {s : Switch} {h : Head} {k : Handle} {f : Story → Switch}
    (keeps : ∀ st, s.story k = some st → Keeps s (f st)) : Keeps s (s.onStory h k f) := by
  unfold onStory
  split
  · exact s.keeps_refuse _ _
  · rename_i st hst
    exact keeps st hst

theorem keeps_withRight {s t : Switch} {h : Head} {d : DeskId} (keeps : Keeps s t) : Keeps s (s.withRight h d t) := by
  unfold withRight
  split
  · exact keeps
  · exact s.keeps_refuse _ _

theorem keeps_unlessFilingOrSpiked {s t : Switch} {h : Head} {st : Story} (keeps : Keeps s t) :
    Keeps s (s.unlessFilingOrSpiked h st t) := by
  unfold unlessFilingOrSpiked
  split
  iterate 2 exact s.keeps_refuse _ _
  all_goals exact keeps

theorem keeps_asHolder {s : Switch} {h : Head} {screen : ScreenNo} {st : Story} {k : Lock → Switch}
    (keeps : ∀ l, Keeps s (k l)) : Keeps s (s.asHolder h screen st k) := by
  unfold asHolder
  split
  · split
    · exact keeps _
    · exact s.keeps_refuse _ _
  all_goals exact s.keeps_refuse _ _

theorem keeps_onOffer {s : Switch} {h : Head} {st : Story} {d : DeskId} {k : Offer → Switch} (keeps : ∀ o, Keeps s (k o)) :
    Keeps s (s.onOffer h st d k) := by
  unfold onOffer
  split
  · split
    · exact keeps _
    · exact s.keeps_refuse _ _
  all_goals exact s.keeps_refuse _ _

theorem keeps_servingDesk {s t : Switch} {h : Head} {d : DeskId} (keeps : Keeps s t) : Keeps s (s.servingDesk h d t) := by
  unfold servingDesk
  split
  · exact keeps
  · exact s.keeps_refuse _ _

theorem keeps_onPage {s : Switch} {h : Head} {q : PageId} {k : PageDef → Switch} (keeps : ∀ d, Keeps s (k d)) :
    Keeps s (s.onPage h q k) := by
  unfold onPage
  split
  · exact s.keeps_refuse _ _
  · exact keeps_withRight (keeps _)

theorem keeps_takeCommand {s : Switch} {h : Head} {c : Cmd} {a : Option α} {body : α → Switch → Switch}
    (keeps : ∀ x, a = some x → s.takes h c → Keeps s (body x s)) : Keeps s (s.takeCommand h c a body) := by
  obtain e | ⟨tag, code, -, e⟩ | ⟨x, hx, taken, e⟩ := s.takeCommand_cases h c a body <;> rw [e]
  · exact .refl s
  · exact s.keeps_refuse _ _
  · exact keeps x hx taken

/-! ### The directory (spec/01) -/

theorem keeps_postFiltered (s : Switch) (k : NoticeKind) (a : Handle) (st : Story) : Keeps s (s.postFiltered k a st) :=
  s.keeps_post _ _

theorem keeps_postChanged (s : Switch) (a : Handle) (st : Story) (r : Reason) (n : Nat) : Keeps s (s.postChanged a st r n) :=
  s.keeps_postWatchers _ _

theorem keeps_completeFile (s : Switch) (h : Head) (u : Upload) : Keeps s (s.completeFile h u) := by
  unfold completeFile
  split
  · exact .refl s
  · exact ((s.keeps_makeVersion _ _ _).trans ((keeps_setStory _ _ _).trans (keeps_postFiltered _ _ _ _))).trans
      (keeps_answer _ _ _ _)

theorem keeps_openDataPhase (s : Switch) (h : Head) (c : Cmd) : Keeps s (s.openDataPhase h c) := s.keeps_setPort _ _ (by rfl) (by rfl)

theorem keeps_takeFile (s : Switch) (h : Head) (a : FileParams) (i : SlotId) : Keeps s (s.takeFile h a i) := by
  unfold takeFile
  dsimp only
  have reserved := ((s.keeps_setStory i (fileStory a)).trans
    (keeps_setUpload _ h.port (some (fileUpload h a (s.handleAt i))))).trans (keeps_reserve _ (blocksFor a.length))
  split
  · exact reserved.trans (keeps_completeFile _ _ _)
  · exact reserved.trans (keeps_openDataPhase _ _ _)

theorem keeps_fileCommand (h : Head) (a : FileParams) (s : Switch) : Keeps s (fileCommand h a s) := by
  unfold fileCommand
  split
  · exact s.keeps_refuse _ _
  · refine keeps_withRight ?_
    split
    · exact s.keeps_refuse _ _
    · split
      · exact s.keeps_refuse _ _
      · split
        · exact s.keeps_refuse _ _
        · split
          · exact s.keeps_refuse _ _
          · exact s.keeps_takeFile _ _ _

theorem keeps_findCommand (h : Head) (slug : List Byte) (s : Switch) : Keeps s (findCommand h slug s) := by
  unfold findCommand
  split
  · exact s.keeps_refuse _ _
  · exact s.keeps_answer _ _ _

theorem keeps_reclassifyCommand (h : Head) (a : ReclassifyParams) (s : Switch) : Keeps s (reclassifyCommand h a s) := by
  refine keeps_onStory fun st _ => keeps_withRight (keeps_unlessFilingOrSpiked ?_)
  dsimp only
  split
  · exact (((s.keeps_setStory _ _).trans (keeps_postFiltered _ _ _ _)).trans (keeps_postChanged _ _ _ _ _)).trans
      (keeps_answer _ _ _ _)
  · exact ((s.keeps_setStory _ _).trans (keeps_postChanged _ _ _ _ _)).trans (keeps_answer _ _ _ _)

theorem keeps_routeCommand (h : Head) (a : Handle × List DeskId) (s : Switch) : Keeps s (routeCommand h a s) :=
  keeps_onStory fun _ _ => keeps_withRight (keeps_unlessFilingOrSpiked ((s.keeps_setStory _ _).trans (keeps_answer _ _ _ _)))

theorem keeps_spikeCommand (h : Head) (a : Handle) (s : Switch) : Keeps s (spikeCommand h a s) := by
  refine keeps_onStory fun st _ => keeps_withRight ?_
  dsimp only
  split
  · exact ((s.keeps_setStory _ _).trans (keeps_postChanged _ _ _ _ _)).trans (keeps_answer _ _ _ _)
  · exact s.keeps_answer _ _ _
  · split
    · exact (((s.keeps_setStory _ _).trans (keeps_postChanged _ _ _ _ _)).trans (keeps_post _ _ _)).trans (keeps_answer _ _ _ _)
    · exact s.keeps_refuse _ _
  all_goals exact s.keeps_refuse _ _

theorem keeps_restoreCommand (h : Head) (a : Handle) (s : Switch) : Keeps s (restoreCommand h a s) := by
  refine keeps_onStory fun st _ => keeps_withRight ?_
  split
  · exact ((s.keeps_setStory _ _).trans (keeps_postChanged _ _ _ _ _)).trans (keeps_answer _ _ _ _)
  all_goals exact s.keeps_refuse _ _

theorem keeps_purgeCommand (h : Head) (a : Handle) (s : Switch) : Keeps s (purgeCommand h a s) := by
  refine keeps_onStory fun st _ => ?_
  split
  · exact (s.keeps_requestPurge _).trans (keeps_answer _ _ _ _)
  all_goals exact s.keeps_refuse _ _

/-! ### The copy store and custody (spec/02, spec/03) -/

theorem keeps_readCommand (h : Head) (a : Handle × Option Nat) (s : Switch) : Keeps s (readCommand h a s) := by
  refine keeps_onStory fun st _ => ?_
  split
  · exact s.keeps_refuse _ _
  · split
    · exact s.keeps_refuse _ _
    · split
      · exact s.keeps_refuse _ _
      · dsimp only
        split
        · exact s.keeps_answer _ _ _
        · exact (s.keeps_pin _ _).trans (keeps_openStream _ _ _ _ _)

theorem keeps_checkoutCommand (h : Head) (a : ScreenNo × Handle) (s : Switch) : Keeps s (checkoutCommand h a s) := by
  refine keeps_onStory fun st _ => ?_
  split
  · exact s.keeps_refuse _ _
  · refine keeps_withRight ?_
    dsimp only
    split
    · exact (s.keeps_setStory _ _).trans (keeps_answer _ _ _ _)
    · split
      · exact (s.keeps_setStory _ _).trans (keeps_answer _ _ _ _)
      · exact s.keeps_refuse _ _
    all_goals exact s.keeps_refuse _ _

theorem keeps_renewCommand (h : Head) (a : ScreenNo × Handle) (s : Switch) : Keeps s (renewCommand h a s) :=
  keeps_onStory fun _ _ => keeps_asHolder fun _ => (s.keeps_setStory _ _).trans (keeps_answer _ _ _ _)

theorem keeps_abandonCommandFrame (h : Head) (a : ScreenNo × Handle) (s : Switch) : Keeps s (abandonCommandFrame h a s) :=
  keeps_onStory fun _ _ => keeps_asHolder fun _ => (s.keeps_setStory _ _).trans (keeps_answer _ _ _ _)

theorem keeps_completeCheckin (s : Switch) (h : Head) (u : Upload) (keep : Bool) : Keeps s (s.completeCheckin h u keep) := by
  unfold completeCheckin
  split
  · exact .refl s
  · dsimp only
    split
    · exact (((s.keeps_makeVersion _ _ _).trans (keeps_setStory _ _ _)).trans (keeps_postChanged _ _ _ _ _)).trans
        (keeps_answer _ _ _ _)
    · exact s.keeps_makeVersion _ _ _

theorem keeps_takeCheckin (s : Switch) (h : Head) (a : CheckinParams) (st : Story) (l : Lock) (victim : Option Version) :
    Keeps s (s.takeCheckin h a st l victim) := by
  unfold takeCheckin
  dsimp only
  split
  · exact (((s.keeps_setStory _ _).trans (keeps_setUpload _ _ _)).trans (keeps_reserve _ _)).trans (keeps_completeCheckin _ _ _ _)
  · exact (((s.keeps_setStory _ _).trans (keeps_setUpload _ _ _)).trans (keeps_reserve _ _)).trans (keeps_openDataPhase _ _ _)

theorem keeps_checkinCommand (h : Head) (a : CheckinParams) (s : Switch) : Keeps s (checkinCommand h a s) := by
  refine keeps_onStory fun st _ => keeps_asHolder fun l => ?_
  split
  · exact s.keeps_refuse _ _
  · split
    · exact s.keeps_refuse _ _
    · split
      · split
        · exact s.keeps_refuse _ _
        · exact s.keeps_takeCheckin _ _ _ _ _
      · exact s.keeps_takeCheckin _ _ _ _ _

theorem keeps_drainUpload (s : Switch) (p : PortId) (a : Handle) : Keeps s (s.drainUpload p a) := by
  unfold drainUpload
  split
  · exact .refl s
  · split
    · split
      · exact (s.keeps_returnUpload _).trans (keeps_setUpload _ _ _)
      · exact .refl s
    · exact .refl s

theorem keeps_breakCommand (h : Head) (a : Handle) (s : Switch) : Keeps s (breakCommand h a s) := by
  refine keeps_onStory fun st _ => ?_
  split
  · exact ((s.keeps_endLock _ _ _ _).trans (keeps_drainUpload _ _ _)).trans (keeps_answer _ _ _ _)
  all_goals exact s.keeps_refuse _ _

theorem keeps_expireLease (i : SlotId) (s : Switch) : Keeps s (expireLease i s) := by
  unfold expireLease
  split
  · exact .refl s
  · split
    · split
      · exact s.keeps_endLock _ _ _ _
      · exact .refl s
    · exact .refl s

theorem keeps_resumeLease (s : Switch) (a : Handle) : Keeps s (s.resumeLease a) := by
  unfold resumeLease
  split
  · exact .refl s
  · split
    · dsimp only
      split
      · exact s.keeps_endLock _ _ _ _
      · exact s.keeps_setStory _ _
    · exact .refl s

/-! ### Passing copy, and notices (spec/04, spec/05) -/

theorem keeps_offerCommand (h : Head) (a : OfferParams) (s : Switch) : Keeps s (offerCommand h a s) := by
  refine keeps_onStory fun st _ => ?_
  split
  · exact s.keeps_refuse _ _
  · refine keeps_withRight ?_
    split
    · exact s.keeps_refuse _ _
    · split
      · exact s.keeps_refuse _ _
      · split
        · exact s.keeps_refuse _ _
        · split
          · exact s.keeps_refuse _ _
          · exact ((s.keeps_setStory _ _).trans (keeps_post _ _ _)).trans (keeps_answer _ _ _ _)

theorem keeps_acceptCommand (h : Head) (a : Handle × DeskId) (s : Switch) : Keeps s (acceptCommand h a s) :=
  keeps_onStory fun _ _ => keeps_servingDesk <| keeps_onOffer fun _ =>
    ((s.keeps_setStory _ _).trans (keeps_post _ _ _)).trans (keeps_answer _ _ _ _)

theorem keeps_declineCommand (h : Head) (a : Handle × DeskId × Byte) (s : Switch) : Keeps s (declineCommand h a s) :=
  keeps_onStory fun _ _ => keeps_servingDesk <| keeps_onOffer fun _ =>
    ((s.keeps_setStory _ _).trans (keeps_post _ _ _)).trans (keeps_answer _ _ _ _)

theorem keeps_withdrawCommand (h : Head) (a : Handle × DeskId) (s : Switch) : Keeps s (withdrawCommand h a s) :=
  keeps_onStory fun _ _ => keeps_withRight <| keeps_onOffer fun _ =>
    ((s.keeps_setStory _ _).trans (keeps_post _ _ _)).trans (keeps_answer _ _ _ _)

theorem keeps_lapseOffer (i : SlotId) (s : Switch) : Keeps s (lapseOffer i s) := by
  unfold lapseOffer
  split
  · exact .refl s
  · split
    · split
      · exact s.keeps_expireOffer _ _
      · exact .refl s
    · exact .refl s

theorem keeps_collectCommand (h : Head) (count : Nat) (s : Switch) : Keeps s (collectCommand h count s) := by
  unfold collectCommand
  dsimp only
  have cleared := s.keeps_setInbox h.port { s.inbox h.port with lost := 0 } (List.Sublist.refl _) (Nat.zero_le _)
  split
  · exact cleared.trans (keeps_answer _ _ _ _)
  · exact cleared.trans (keeps_openStream _ _ _ _ _)

/-- A watch entry taken by a port that is not DETACHED, on a story that is there, while the table has room (R93). -/
theorem keeps_watchCommand (h : Head) (a : ScreenNo × Handle) (s : Switch) (attached : (s.ports.get h.port).standing ≠ .detached) :
    Keeps s (watchCommand h a s) := by
  refine keeps_onStory fun st hst => ?_
  dsimp only
  split
  · exact s.keeps_answer _ _ _
  · split
    · exact s.keeps_refuse _ _
    · rename_i absent room
      refine Keeps.trans (t := { s with watches := s.watches ++ [{ handle := a.2, port := h.port, screen := a.1 }] }) ?_
        (keeps_answer _ _ _ _)
      refine { Keeps.of_same (s := s) (t := s) rfl with watches := fun exempt ⟨depth, nodup, entries⟩ => ⟨?_, ?_, ?_⟩ }
      · simpa using room
      · exact List.nodup_append'.2 ⟨nodup, List.nodup_singleton _, by simpa [List.disjoint_singleton] using absent⟩
      · intro x hx
        rcases List.mem_append.1 hx with hx | hx
        · exact entries x hx
        · obtain rfl := List.mem_singleton.1 hx
          exact ⟨fun e => Option.some_ne_none st (hst.symm.trans e), fun detached => absurd detached attached⟩

theorem keeps_unwatchCommand (h : Head) (a : ScreenNo × Handle) (s : Switch) : Keeps s (unwatchCommand h a s) :=
  keeps_onStory fun _ _ => (s.keeps_dropWatches _).trans (keeps_answer _ _ _ _)

end Sys2Proof.Machine.Switch
end

section
/-! SUPPORT. The ranges of the settings groups, group by group, and what the writes of the settings keep of them (R167, R168, R178). -/

namespace Sys2Proof.Machine

/-! ### Banks as lists -/

theorem Bank.mem_cells {b : Bank n α} {a : α} : a ∈ b.cells ↔ ∃ i, b.get i = a := by
  constructor
  · intro ha
    obtain ⟨k, hk, e⟩ := List.getElem_of_mem ha
    exact ⟨⟨k, b.size ▸ hk⟩, e⟩
  · rintro ⟨i, rfl⟩
    exact List.getElem_mem _

theorem Bank.forall_mem_cells {b : Bank n α} {p : α → Prop} : (∀ a ∈ b.cells, p a) ↔ ∀ i, p (b.get i) := by
  simp [Bank.mem_cells]

/-- A property of every member of a bank, after one member is replaced. -/
theorem Bank.forall_mem_cells_set {b : Bank n α} {p : α → Prop} (hb : ∀ a ∈ b.cells, p a) (i : Fin n) {x : α} (hx : p x) :
    ∀ a ∈ (b.set i x).cells, p a := by
  rw [Bank.forall_mem_cells] at hb ⊢
  intro j
  rw [Bank.get_set]
  split
  · exact hx
  · exact hb j

/-- The values that a bank's members yield are pairwise different when no two members yield the same. -/
theorem Bank.nodup_filterMap_cells {b : Bank n α} {f : α → Option β} :
    (b.cells.filterMap f).Nodup ↔ ∀ i j v, f (b.get i) = some v → f (b.get j) = some v → i = j := by
  unfold List.Nodup
  rw [List.pairwise_filterMap, List.pairwise_iff_getElem]
  constructor
  · intro apart i j v hi hj
    by_contra ne
    rcases lt_or_gt_of_ne (Fin.val_ne_of_ne ne) with lt | lt
    · exact apart i j (by simp [b.size]) (by simp [b.size]) lt v hi v hj rfl
    · exact apart j i (by simp [b.size]) (by simp [b.size]) lt v hj v hi rfl
  · rintro same i j hi hj lt v hv _ hw rfl
    have := same ⟨i, b.size ▸ hi⟩ ⟨j, b.size ▸ hj⟩ v hv hw
    exact absurd (Fin.ext_iff.1 this) (Nat.ne_of_lt lt)

/-! ### The ranges, group by group (R167) -/

def PortsGroup.ranged (g : PortsGroup) : Prop :=
  .control ∈ g.privilege.cells ∧ ∀ l ∈ g.label.cells, (deskLabelOf l).isSome = true

def RoutingGroup.ranged (g : RoutingGroup) : Prop :=
  (∀ f ∈ g.filters.cells, f.category ≤ 1023) ∧ ∀ m ∈ g.masks.cells, m.categoryBits ≤ 10

def ClockGroup.ranged (g : ClockGroup) : Prop :=
  (1200 ≤ g.editionLength ∧ g.editionLength ≤ 65535) ∧ (∀ c ∈ g.channels.cells, c.inRange = true) ∧
    (∀ q d, g.pages.get q = some d → d.label.inRange = true) ∧
    ∀ q k d e, g.pages.get q = some d → g.pages.get k = some e → d.label = e.label → q = k

def FeedGroup.ranged (g : FeedGroup) : Prop :=
  8 ≤ g.stallWindow ∧ g.stallWindow ≤ 255 ∧ 8 ≤ g.settlePeriod ∧ g.settlePeriod ≤ 255 ∧ 1 ≤ g.attemptLimit ∧
    g.attemptLimit ≤ 7 ∧ 16 ≤ g.paceWindow ∧ g.paceWindow ≤ 255

def StoreGroup.ranged (g : StoreGroup) : Prop :=
  64 ≤ g.low ∧ g.low < g.high ∧ g.high ≤ 4096 ∧ 480 ≤ g.lease ∧ g.lease ≤ 28800 ∧ 80 ≤ g.offerWindow ∧ g.offerWindow ≤ 4800

/-- The page definitions' part of R178: every label in range, none held twice (R117). -/
theorem pages_ranged_iff (pages : Bank 128 (Option PageDef)) :
    ((pages.cells.filterMap id).all (fun d => d.label.inRange) = true ∧
        ((pages.cells.filterMap id).map PageDef.label).Nodup) ↔
      (∀ q d, pages.get q = some d → d.label.inRange = true) ∧
        ∀ q k d e, pages.get q = some d → pages.get k = some e → d.label = e.label → q = k := by
  rw [List.map_filterMap, Bank.nodup_filterMap_cells, List.all_eq_true]
  refine and_congr ?_ ?_
  · simp only [List.mem_filterMap, id, exists_eq_right, Bank.mem_cells]
    exact ⟨fun h q d hd => h d ⟨q, hd⟩, fun h d ⟨q, hd⟩ => h q d hd⟩
  · constructor
    · intro h q k d e hd he same
      exact h q k d.label (by simp [hd]) (by simp [he, same])
    · intro h q k v hq hk
      obtain ⟨d, hd, rfl⟩ := Option.map_eq_some_iff.1 hq
      obtain ⟨e, he, same⟩ := Option.map_eq_some_iff.1 hk
      exact h q k d e hd he same.symm

theorem Groups.inRange_iff (g : Groups) :
    g.inRange = true ↔ g.ports.ranged ∧ g.routing.ranged ∧ g.clock.ranged ∧ g.feed.ranged ∧ g.store.ranged := by
  unfold ClockGroup.ranged
  rw [← pages_ranged_iff]
  simp only [Groups.inRange, PortsGroup.ranged, RoutingGroup.ranged, FeedGroup.ranged, StoreGroup.ranged,
    Bool.and_eq_true, decide_eq_true_eq, List.contains_iff_mem, List.all_eq_true, and_assoc]

theorem Groups.factory_inRange : Groups.factory.inRange = true := by decide +kernel

/-! ### Operands in range -/

theorem within_range {lo hi n : Nat} {b : BitVec w} (h : within lo hi b = some n) : lo ≤ n ∧ n ≤ hi := by
  have := (within_isSome lo hi b).1 (by simp [h])
  rwa [← within_eq h] at this

theorem labelOf_inRange {letter number : Byte} {l : Label} (h : labelOf letter number = some l) : l.inRange = true := by
  unfold labelOf at h
  split at h
  · rename_i letters
    obtain ⟨n, hn, rfl⟩ := Option.map_eq_some_iff.1 h
    simpa [Label.inRange] using ⟨letters.1, letters.2, within_range hn⟩
  · cases h

theorem PageArgs.check_define {a : PageArgs} {q : PageId} {d : PageDef} (h : PageArgs.check a = some (q, some d)) :
    d.label.inRange = true := by
  unfold PageArgs.check at h
  split at h
  · split at h
    · rename_i hl _ _
      cases h
      exact labelOf_inRange hl
    · cases h
  · cases h
  · cases h

theorem FilterArgs.check_category {a : FilterArgs} {x : Fin 24 × Filter} (h : FilterArgs.check a = some x) : x.2.category ≤ 1023 := by
  unfold FilterArgs.check at h
  split at h
  · rename_i hc _
    cases h
    exact (within_range hc).2
  · cases h

theorem MaskArgs.check_bits {a : MaskArgs} {x : Fin 4 × Mask} (h : MaskArgs.check a = some x) : x.2.categoryBits ≤ 10 := by
  unfold MaskArgs.check at h
  split at h
  · rename_i hc
    cases h
    exact (within_range hc).2
  · cases h

theorem DeadlineArgs.check_range {a : DeadlineArgs} {x : ChannelId × Nat} (h : DeadlineArgs.check a = some x) : 1 ≤ x.2 ∧ x.2 ≤ 65535 := by
  unfold DeadlineArgs.check at h
  split at h
  · rename_i hc
    cases h
    exact within_range hc
  · cases h

theorem ChannelArgs.check_range {a : ChannelArgs} {x : ChannelParams} (h : ChannelArgs.check a = some x) :
    x.warnLead ≤ 65535 ∧ x.lateInterval ≤ 65535 ∧ 1 ≤ x.lateDivisor ∧ x.lateDivisor ≤ 8 := by
  unfold ChannelArgs.check at h
  split at h
  · rename_i hc
    cases h
    exact ⟨Nat.le_of_lt_succ a.warnLead.isLt, Nat.le_of_lt_succ a.lateInterval.isLt, within_range hc⟩
  · cases h

/-- What SETTINGS is handed is in its ranges, but for the CONTROL port that the command asks for itself (R168). -/
def SettingsParams.ranged : SettingsParams → Prop
  | .ports g => ∀ l ∈ g.label.cells, (deskLabelOf l).isSome = true
  | .feed stall settle attempts window _ =>
    (8 ≤ stall ∧ stall ≤ 255) ∧ (8 ≤ settle ∧ settle ≤ 255) ∧ (1 ≤ attempts ∧ attempts ≤ 7) ∧ 16 ≤ window ∧ window ≤ 255
  | .store g => g.ranged

theorem deskLabelOf_eq {l m : List Byte} (h : deskLabelOf l = some m) : m = l := by
  unfold deskLabelOf at h
  split at h
  · exact (Option.some.inj h).symm
  · cases h

/-- Labels that have passed their check pass it again. -/
theorem checkAll_deskLabelOf {l r : List (List Byte)} (h : checkAll deskLabelOf l = some r) :
    ∀ x ∈ r, (deskLabelOf x).isSome = true := by
  induction l generalizing r with
  | nil =>
    cases h
    simp
  | cons a l ih =>
    unfold checkAll at h
    split at h
    · rename_i ha hl
      cases h
      refine List.forall_mem_cons.2 ⟨?_, ih hl⟩
      obtain rfl := deskLabelOf_eq ha
      simp [ha]
    · cases h

theorem SettingsArgs.check_ranged {a : SettingsArgs} {x : SettingsParams} (h : SettingsArgs.check a = some x) : x.ranged := by
  unfold SettingsArgs.check at h
  split at h
  · split at h
    · rename_i hl
      cases h
      obtain ⟨r, hr, hb⟩ := Option.bind_eq_some_iff.1 hl
      unfold bankOf at hb
      split at hb
      · cases hb
        exact checkAll_deskLabelOf hr
      · cases hb
    · cases h
  · split at h
    · rename_i h1 h2 h3 h4 _
      cases h
      exact ⟨within_range h1, within_range h2, within_range h3, within_range h4⟩
    · cases h
  · split at h
    · rename_i h1 h2 h3 h4
      split at h
      · rename_i lt
        cases h
        have ⟨l1, _⟩ := within_range h1
        have ⟨_, u2⟩ := within_range h2
        have ⟨l3, u3⟩ := within_range h3
        exact ⟨l1, lt, u2, l3, u3, within_range h4⟩
      · cases h
    · cases h
  · cases h

namespace Switch

/-! ### Writes of the groups -/

theorem keeps_setGroups (s : Switch) (g : Groups) (ranged : s.groups.inRange = true → g.inRange = true) :
    Keeps s (s.setGroups g) :=
  { Keeps.of_same (s := s) (t := s) rfl with settings := fun ⟨groups, rest⟩ => ⟨ranged groups, rest⟩ }

theorem keeps_setPageDef (s : Switch) (q : PageId) (d : Option PageDef)
    (ranged : ∀ x, d = some x → x.label.inRange = true ∧ s.labelHeldElsewhere q x.label = false) :
    Keeps s (s.setPageDef q d) := by
  refine s.keeps_setGroups _ fun groups => ?_
  rw [Groups.inRange_iff] at groups ⊢
  obtain ⟨ports, routing, ⟨length, channels, labels, apart⟩, feed, store⟩ := groups
  have elsewhere : ∀ x, d = some x → ∀ k e, s.groups.clock.pages.get k = some e → x.label = e.label → q = k := by
    intro x hx k e he same
    have unheld := (ranged x hx).2
    rw [labelHeldElsewhere, List.any_eq_false] at unheld
    have := unheld k ((Bank.mem_indices _ _ _).2 (by simp [he, same]))
    exact (by simpa using this : k = q).symm
  refine ⟨ports, routing, ⟨length, channels, fun k x hx => ?_, fun k j x y hx hy same => ?_⟩, feed, store⟩
  · simp only [Bank.get_set] at hx
    split at hx
    · exact (ranged x hx).1
    · exact labels k x hx
  · simp only [Bank.get_set] at hx hy
    split at hx <;> split at hy
    · rename_i first second
      exact first.symm.trans second
    · rename_i first _
      exact first.symm.trans (elsewhere x hx j y hy same)
    · rename_i _ second
      exact (elsewhere y hy k x hx same.symm).symm.trans second
    · exact apart k j x y hx hy same

theorem keeps_setChannelSettings (s : Switch) (c : ChannelId) (x : ChannelSettings)
    (ranged : (s.groups.clock.channels.get c).inRange = true → x.inRange = true) : Keeps s (s.setChannelSettings c x) := by
  refine s.keeps_setGroups _ fun groups => ?_
  rw [Groups.inRange_iff] at groups ⊢
  obtain ⟨ports, routing, ⟨length, channels, pages⟩, feed, store⟩ := groups
  exact ⟨ports, routing, ⟨length, Bank.forall_mem_cells_set channels c (ranged (Bank.forall_mem_cells.1 channels c)), pages⟩,
    feed, store⟩

theorem keeps_filterCommand (h : Head) (a : Fin 24 × Filter) (s : Switch) (ranged : a.2.category ≤ 1023) :
    Keeps s (filterCommand h a s) := by
  unfold filterCommand
  dsimp only
  refine (s.keeps_setGroups _ fun groups => ?_).trans (keeps_answer _ _ _ _)
  rw [Groups.inRange_iff] at groups ⊢
  obtain ⟨ports, ⟨filters, masks⟩, rest⟩ := groups
  exact ⟨ports, ⟨Bank.forall_mem_cells_set filters a.1 ranged, masks⟩, rest⟩

theorem keeps_maskCommand (h : Head) (a : Fin 4 × Mask) (s : Switch) (ranged : a.2.categoryBits ≤ 10) :
    Keeps s (maskCommand h a s) := by
  unfold maskCommand
  dsimp only
  refine (s.keeps_setGroups _ fun groups => ?_).trans (keeps_answer _ _ _ _)
  rw [Groups.inRange_iff] at groups ⊢
  obtain ⟨ports, ⟨filters, masks⟩, rest⟩ := groups
  exact ⟨ports, ⟨filters, Bank.forall_mem_cells_set masks a.1 ranged⟩, rest⟩

theorem keeps_settingsCommand (h : Head) (a : SettingsParams) (s : Switch) (ranged : a.ranged) :
    Keeps s (settingsCommand h a s) := by
  unfold settingsCommand
  split
  · split
    · rename_i control
      refine (s.keeps_setGroups _ fun groups => ?_).trans (keeps_answer _ _ _ _)
      rw [Groups.inRange_iff] at groups ⊢
      exact ⟨⟨List.contains_iff_mem.1 control, ranged⟩, groups.2⟩
    · exact s.keeps_refuse _ _
  · refine (s.keeps_setGroups _ fun groups => ?_).trans (keeps_answer _ _ _ _)
    rw [Groups.inRange_iff] at groups ⊢
    obtain ⟨ports, routing, clock, _, store⟩ := groups
    obtain ⟨⟨a1, b1⟩, ⟨a2, b2⟩, ⟨a3, b3⟩, a4, b4⟩ := ranged
    exact ⟨ports, routing, clock, ⟨a1, b1, a2, b2, a3, b3, a4, b4⟩, store⟩
  · refine (s.keeps_setGroups _ fun groups => ?_).trans (keeps_answer _ _ _ _)
    rw [Groups.inRange_iff] at groups ⊢
    obtain ⟨ports, routing, clock, feed, _⟩ := groups
    exact ⟨ports, routing, clock, feed, ranged⟩

/-! ### The load of start-up (R172) -/

theorem mergeGroups_inRange {held : Holds} {running loaded : Groups} (hr : running.inRange = true) (hl : loaded.inRange = true) :
    (mergeGroups held running loaded).inRange = true := by
  rw [Groups.inRange_iff] at hr hl ⊢
  obtain ⟨r1, r2, r3, r4, r5⟩ := hr
  obtain ⟨l1, l2, l3, l4, l5⟩ := hl
  unfold mergeGroups
  refine ⟨?_, ?_, ?_, ?_, ?_⟩ <;> dsimp only <;> split <;> assumption

/-- What a load finds has passed the image's check. -/
theorem loadImage_inRange {image : Option Image} {tries : Nat} {g : Groups} (h : loadImage image tries = some g) :
    g.inRange = true := by
  induction tries with
  | zero => cases h
  | succ tries ih =>
    unfold loadImage at h
    split at h
    · cases h
    · split at h
      · rename_i good
        cases h
        unfold Image.good at good
        exact (Bool.and_eq_true_iff.1 good).2
      · exact ih h

theorem keeps_loadSettings (s : Switch) : Keeps s s.loadSettings := by
  unfold loadSettings
  split
  · rename_i g hg
    exact (s.keeps_setGroups _ fun running => mergeGroups_inRange running (loadImage_inRange hg)).trans (.of_same rfl)
  · exact (s.keeps_setGroups _ fun running => mergeGroups_inRange running Groups.factory_inRange).trans (.of_same rfl)

end Switch

end Sys2Proof.Machine
end

section
/-! SUPPORT. What the work of the clock's, the feed's and the ports' rows keeps; and the statements that every step keeps the copy
store canonical, the inboxes ordered, the settings in range, the standings in accord and the watch table in order. -/

namespace Sys2Proof.Machine

theorem ChannelSettings.inRange_iff (c : ChannelSettings) :
    c.inRange = true ↔ 1 ≤ c.deadline ∧ c.deadline ≤ 65535 ∧ c.warnLead ≤ 65535 ∧ c.lateInterval ≤ 65535 ∧
      1 ≤ c.lateDivisor ∧ c.lateDivisor ≤ 8 := decide_eq_true_iff

namespace Switch

/-! ### The edition clock (spec/06) -/

theorem keeps_raiseWall (s : Switch) : Keeps s s.raiseWall := .of_same rfl

/-- Edition ticks that rise without a turn stay below the active length (R99). -/
theorem keeps_raiseTicks (s : Switch) (below : s.clock.ticks + 1 < s.clock.activeLength) : Keeps s s.raiseTicks :=
  { Keeps.of_same (s := s) (t := s) rfl with
    settings := fun ⟨groups, first, last, _, high, stopped⟩ => ⟨groups, first, last, below, high, stopped⟩ }

theorem keeps_tick (s : Switch) : Keeps s s.tick := by
  unfold tick
  split
  · exact s.keeps_raiseWall.trans (keeps_turnEdition _)
  · split
    · rename_i noTurn running
      refine s.keeps_raiseWall.trans (keeps_raiseTicks _ ?_)
      rw [turnsAtTick, running, Bool.true_and, decide_eq_true_eq, not_le] at noTurn
      exact noTurn
    · exact s.keeps_raiseWall

theorem keeps_turnTick (s : Switch) : Keeps s s.turnTick := by
  unfold turnTick
  split
  · exact s.keeps_raiseWall.trans (keeps_turnEdition _)
  · exact .refl s

/-- A clock that starts or stops: it starts only when no start-up runs (R101, R171). -/
theorem keeps_setRunning (s : Switch) (running : Bool) (idle : running = true → s.starting = false) :
    Keeps s { s with clock := { s.clock with running := running } } :=
  { Keeps.of_same (s := s) (t := s) rfl with
    settings := fun ⟨groups, first, last, ticks, high, _⟩ => ⟨groups, first, last, ticks, high, fun starting => by
      by_contra on
      simp [idle (by simpa using on)] at starting⟩ }

theorem keeps_clockStartCommand (h : Head) (a : Unit) (s : Switch) (idle : s.starting = false) :
    Keeps s (clockStartCommand h a s) := by
  unfold clockStartCommand
  split
  · exact s.keeps_answer _ _ _
  · exact ((s.keeps_setRunning true fun _ => idle).trans (Keeps.foldl (fun s c => keeps_matchIfDue c s) _ _)).trans
      (keeps_answer _ _ _ _)

theorem keeps_clockStopCommand (h : Head) (a : Unit) (s : Switch) : Keeps s (clockStopCommand h a s) := by
  unfold clockStopCommand
  split
  · exact (s.keeps_setRunning false nofun).trans (keeps_answer _ _ _ _)
  · exact s.keeps_answer _ _ _

theorem keeps_turnCommand (h : Head) (a : Option Nat) (s : Switch) : Keeps s (turnCommand h a s) := by
  unfold turnCommand
  split
  · exact s.keeps_turnEdition.trans (keeps_answer _ _ _ _)
  · exact s.keeps_refuse _ _

/-- An edition length in range, with the active length moved to it at most where the ticks stand below it (R103). -/
theorem keeps_editionLengthCommand (h : Head) (length : Nat) (s : Switch) (ranged : 1200 ≤ length ∧ length ≤ 65535) :
    Keeps s (editionLengthCommand h length s) := by
  unfold editionLengthCommand
  dsimp only
  refine Keeps.trans ?_ (keeps_answer _ _ _ _)
  refine { Keeps.of_same (s := s) (t := s) rfl with settings := fun ⟨groups, first, last, ticks, high, stopped⟩ => ?_ }
  have inRange : Groups.inRange { s.groups with clock := { s.groups.clock with editionLength := length } } = true := by
    rw [Groups.inRange_iff] at groups ⊢
    obtain ⟨ports, routing, ⟨_, clock⟩, rest⟩ := groups
    exact ⟨ports, routing, ⟨ranged, clock⟩, rest⟩
  refine ⟨inRange, first, last, ?_, ?_, stopped⟩ <;> simp only [setGroups_fields] <;> split <;> omega

theorem keeps_deadlineCommand (h : Head) (a : ChannelId × Nat) (s : Switch) (ranged : 1 ≤ a.2 ∧ a.2 ≤ 65535) :
    Keeps s (deadlineCommand h a s) := by
  unfold deadlineCommand
  dsimp only
  have written : Keeps s (s.setChannelSettings a.1 { s.channelSettings a.1 with deadline := a.2 }) :=
    s.keeps_setChannelSettings _ _ fun old => by
      rw [ChannelSettings.inRange_iff] at old ⊢
      exact ⟨ranged.1, ranged.2, old.2.2⟩
  split
  · exact (written.trans (keeps_setActive _ _ _)).trans (keeps_answer _ _ _ _)
  · exact written.trans (keeps_answer _ _ _ _)

theorem keeps_channelCommand (h : Head) (a : ChannelParams) (s : Switch)
    (ranged : a.warnLead ≤ 65535 ∧ a.lateInterval ≤ 65535 ∧ 1 ≤ a.lateDivisor ∧ a.lateDivisor ≤ 8) :
    Keeps s (channelCommand h a s) := by
  unfold channelCommand
  dsimp only
  have written := (s.keeps_setChannelSettings a.channel
    { deadline := (s.channelSettings a.channel).deadline, bufferMode := a.bufferMode, warnLead := a.warnLead,
      releaseMode := a.releaseMode, lateInterval := a.lateInterval, lateDivisor := a.lateDivisor } fun old => by
      rw [ChannelSettings.inRange_iff] at old ⊢
      exact ⟨old.1, old.2.1, ranged⟩)
  split
  · exact ((written.trans (keeps_setChannel _ _ _)).trans (keeps_setActive _ _ _)).trans (keeps_answer _ _ _ _)
  · exact (written.trans (keeps_setChannel _ _ _)).trans (keeps_answer _ _ _ _)

theorem keeps_takeWarning (c : ChannelId) (s : Switch) : Keeps s (takeWarning c s) := by
  unfold takeWarning
  dsimp only
  split
  · split
    · exact (s.keeps_setChannel _ _).trans (keeps_postChannel _ _ _ _ _)
    · exact s.keeps_setChannel _ _
  · exact .refl s

theorem keeps_takeLateTick (c : ChannelId) (s : Switch) : Keeps s (takeLateTick c s) := by
  unfold takeLateTick
  dsimp only
  split
  · split
    · split
      · exact (s.keeps_setChannel _ _).trans (keeps_postChannel _ _ _ _ _)
      · exact s.keeps_setChannel _ _
    · exact .refl s
  · exact .refl s

/-! ### Pages (spec/07) -/

theorem keeps_pageCommand (h : Head) (a : PageId × Option PageDef) (s : Switch)
    (ranged : ∀ d, a.2 = some d → d.label.inRange = true) : Keeps s (pageCommand h a s) := by
  unfold pageCommand
  split
  · rename_i d hd
    unfold definePage
    split
    · exact s.keeps_refuse _ _
    · rename_i unheld
      have label : ∀ x, some d = some x → x.label.inRange = true ∧ s.labelHeldElsewhere a.1 x.label = false := by
        rintro x ⟨⟩
        exact ⟨ranged d hd, by simpa using unheld⟩
      dsimp only
      split
      · exact (((s.keeps_setPage _ _).trans (keeps_setPageDef _ _ _ label)).trans (keeps_judgeGroups _ _)).trans
          (keeps_answer _ _ _ _)
      · exact ((s.keeps_setPageDef _ _ label).trans (keeps_judgeGroups _ _)).trans (keeps_answer _ _ _ _)
  · unfold undefinePage
    split
    · exact s.keeps_answer _ _ _
    · split
      · exact (((s.keeps_setPage _ _).trans (keeps_setPageDef _ _ _ fun _ hx => by cases hx)).trans (keeps_judgeGroups _ _)).trans
          (keeps_answer _ _ _ _)
      · exact s.keeps_refuse _ _

theorem keeps_layOut (s : Switch) (h : Head) (q : PageId) (layout : List Placement) : Keeps s (s.layOut h q layout) :=
  ((s.keeps_setPage _ _).trans (keeps_judgeGroups _ _)).trans (keeps_answer _ _ _ _)

theorem keeps_placeCommand (h : Head) (a : PlaceParams) (s : Switch) : Keeps s (placeCommand h a s) := by
  unfold placeCommand
  dsimp only
  split
  · exact s.keeps_refuse _ _
  · refine keeps_onPage fun _ => keeps_onStory fun _ _ => ?_
    split
    · exact s.keeps_refuse _ _
    · exact s.keeps_layOut _ _ _

theorem keeps_unplaceCommand (h : Head) (a : PageId × Nat) (s : Switch) : Keeps s (unplaceCommand h a s) := by
  unfold unplaceCommand
  dsimp only
  split
  · exact s.keeps_refuse _ _
  · exact keeps_onPage fun _ => s.keeps_layOut _ _ _

theorem keeps_releaseNew (s : Switch) (h : Head) (q : PageId) (d : PageDef) (rush : Bool) : Keeps s (s.releaseNew h q d rush) := by
  unfold releaseNew
  split
  · exact (s.keeps_releasePage _ _ _).trans (keeps_answer _ _ _ _)
  · exact s.keeps_refuse _ _

theorem keeps_releaseCommand (h : Head) (a : PageId × Bool) (s : Switch) : Keeps s (releaseCommand h a s) := by
  refine keeps_onPage fun d => ?_
  dsimp only
  split
  · exact s.keeps_refuse _ _
  · split
    · exact s.keeps_refuse _ _
    · split
      · exact (s.keeps_reRelease _ _ _).trans (keeps_answer _ _ _ _)
      · exact s.keeps_releaseNew _ _ _ _

theorem keeps_recallCommand (h : Head) (q : PageId) (s : Switch) : Keeps s (recallCommand h q s) := by
  refine keeps_onPage fun d => ?_
  dsimp only
  split
  · exact (s.keeps_endJob _ _).trans (keeps_answer _ _ _ _)
  · exact ((s.keeps_endJob _ _).trans (keeps_voidAttempt _ _ _)).trans (keeps_answer _ _ _ _)
  all_goals exact s.keeps_refuse _ _

theorem keeps_pageStatusCommand (h : Head) (a : Option PageId) (s : Switch) : Keeps s (pageStatusCommand h a s) := by
  unfold pageStatusCommand
  split
  · exact s.keeps_report _ _ _
  · have used : Keeps s s.useFree := .of_same rfl
    dsimp only
    split
    · exact used.trans (keeps_report _ _ _ _)
    · exact s.keeps_report _ _ _

/-! ### The feed (spec/08) -/

theorem keeps_fallReady (l : LinkId) (s : Switch) : Keeps s (fallReady l s) := by
  unfold fallReady
  dsimp only
  split
  · exact (s.keeps_setLink _ _).trans (keeps_setLink _ _ _)
  · split
    · exact (s.keeps_setLink _ _).trans (keeps_dropLink _ _)
    · exact s.keeps_setLink _ _
  all_goals exact s.keeps_setLink _ _

theorem keeps_settleLink (l : LinkId) (s : Switch) : Keeps s (settleLink l s) := by
  unfold settleLink
  split
  · exact ((s.keeps_setLink _ _).trans (keeps_takeOver _ _)).trans (keeps_returnHome _)
  · exact .refl s

theorem keeps_stallLink (l : LinkId) (s : Switch) : Keeps s (stallLink l s) := by
  unfold stallLink
  split
  · exact s.keeps_breakOff _ _
  · exact .refl s

theorem keeps_startPage (s : Switch) : Keeps s s.startPage := by
  unfold startPage
  split
  · exact .refl s
  · split
    · exact Keeps.trans (t := { s with queue := s.queue.tail }) (.of_same (by rfl)) (keeps_beginAttempt _ _ _)
    · exact s.keeps_faultPage _ _

theorem keeps_countByte (s : Switch) : Keeps s s.countByte := .of_same rfl

theorem keeps_takeStrobe (l : LinkId) (s : Switch) : Keeps s (takeStrobe l s) := by
  unfold takeStrobe
  split
  · unfold takePageByte
    dsimp only
    split
    · exact ((s.keeps_emitPresented _).trans (keeps_setLink _ _ _)).trans (keeps_discardWindow _)
    · exact ((s.keeps_emitPresented _).trans (keeps_setLink _ _ _)).trans (keeps_countByte _)
  · unfold takeVoidByte
    dsimp only
    split
    · exact ((s.keeps_emitPresented _).trans (keeps_setLink _ _ _)).trans (keeps_engineIdled _ _)
    · exact (s.keeps_emitPresented _).trans (keeps_setLink _ _ _)
  · exact .refl s

theorem keeps_acceptPage (l : LinkId) (s : Switch) : Keeps s (acceptPage l s) := by
  unfold acceptPage
  split
  · exact .refl s
  · exact ((s.keeps_completePage _).trans (keeps_setLink _ _ _)).trans (keeps_engineIdled _ _)

theorem keeps_rejectPage (l : LinkId) (s : Switch) : Keeps s (rejectPage l s) := by
  unfold rejectPage
  split
  · exact .refl s
  · split
    · exact s.keeps_beginAttempt _ _
    · exact ((s.keeps_faultPage _ _).trans (keeps_setLink _ _ _)).trans (keeps_engineIdled _ _)

theorem keeps_testRisk (s : Switch) (c : ChannelId) : Keeps s (testRisk s c) := by
  unfold testRisk
  split
  · exact (s.keeps_postChannel _ _ _ _).trans (keeps_setChannel _ _ _)
  · exact .refl s

theorem keeps_closeWindow (s : Switch) : Keeps s s.closeWindow := by
  unfold closeWindow
  split
  · exact .refl s
  · rename_i w _
    exact Keeps.trans (t := (s.addSample w.count).openWindow) (.of_same (by rfl)) (Keeps.foldl keeps_testRisk _ _)

theorem keeps_settleDisabled (s : Switch) (was : Link) : Keeps s (s.settleDisabled was) := by
  unfold settleDisabled
  split
  · split
    · exact s.keeps_failOver _ _
    · exact .refl s
  · exact s.keeps_breakOff _ _

theorem keeps_setLinks (s : Switch) (links : PerLink Link) : Keeps s { s with links := links } := .of_same rfl

/-- LINKS writes the enables and the home link, which have no range (R150, R167). -/
theorem keeps_setFeed (s : Switch) (enable : PerLink Bool) (home : LinkId) :
    Keeps s (s.setGroups { s.groups with feed := { s.groups.feed with enable := enable, home := home } }) :=
  s.keeps_setGroups _ fun groups => by
    rw [Groups.inRange_iff] at groups ⊢
    exact groups

theorem keeps_linksCommand (h : Head) (a : PerLink Bool × LinkId) (s : Switch) : Keeps s (linksCommand h a s) := by
  unfold linksCommand
  dsimp only
  refine Keeps.trans ((Keeps.trans ?_ (keeps_setFeed _ _ a.2)).trans (keeps_returnHome _)) (keeps_answer _ _ _ _)
  have switched := fun links => (s.keeps_setFeed a.1 s.groups.feed.home).trans (keeps_setLinks _ links)
  split
  · exact (switched _).trans (keeps_settleDisabled _ _)
  · exact switched _

/-! ### Ports (spec/09) -/

theorem keeps_settleFailure (s : Switch) (u : Upload) : Keeps s (s.settleFailure u) := by
  unfold settleFailure
  split
  · exact s.keeps_dropFile _
  · exact s.keeps_resumeLease _
  · exact .refl s

theorem keeps_failDataPhase (p : PortId) (code : Code) (s : Switch) : Keeps s (failDataPhase p code s) := by
  unfold failDataPhase
  split
  · exact .refl s
  · exact (((s.keeps_failUpload _).trans (keeps_settleFailure _ _)).trans (keeps_toIdle _ _)).trans (keeps_refuse _ _ _)

theorem failUpload_ports (s : Switch) (p : PortId) : (s.failUpload p).ports = s.ports := by
  unfold failUpload
  split
  · rfl
  · rename_i u _
    have clear : ∀ t : Switch, (t.clearMark u).ports = t.ports := by
      intro t
      unfold clearMark
      split
      · rfl
      · exact (modifyVersions_frame _ _ _).ports
    dsimp only
    split <;> simp [clear, returnUpload]

theorem dropFile_frame (s : Switch) (k : Handle) : StoryFrame s (s.dropFile k) := by
  unfold dropFile
  split
  · exact .refl s
  · exact ((postWatchers_frame _ _ _).trans (dropWatches_frame _ _)).trans (vacate_frame _ _)

theorem resumeLease_frame (s : Switch) (a : Handle) : StoryFrame s (s.resumeLease a) := by
  unfold resumeLease
  split
  · exact .refl s
  · split
    · dsimp only
      split
      · exact endLock_frame _ _ _ _ _
      · exact setStory_frame _ _ _
    · exact .refl s

theorem settleFailure_frame (s : Switch) (u : Upload) : StoryFrame s (s.settleFailure u) := by
  unfold settleFailure
  split
  · exact dropFile_frame _ _
  · exact resumeLease_frame _ _
  · exact .refl s

/-- A data phase that fails leaves the fault count to the step that follows (R158, R161). -/
theorem failDataPhase_faults (p : PortId) (code : Code) (s : Switch) (hc : code ≠ .ok) :
    ((failDataPhase p code s).ports.get p).faults ≤ (s.ports.get p).faults := by
  unfold failDataPhase
  split
  · exact le_rfl
  · simp [refuse, hc, toIdle, port_def, (settleFailure_frame _ _).ports, failUpload_ports]

theorem endStream_faults (s : Switch) (p : PortId) : ((s.endStream p).ports.get p).faults = (s.ports.get p).faults := by
  unfold endStream
  dsimp only
  split
  · simp [(unpin_frame _ _ _).ports, toIdle, port_def]
  all_goals simp [toIdle, port_def]

theorem keeps_endUpload (s : Switch) (p : PortId) (u : Upload) : Keeps s (s.endUpload p u) := by
  unfold endUpload
  dsimp only
  split
  · exact ((s.keeps_failUpload _).trans (keeps_toIdle _ _)).trans (keeps_refuse _ _ _)
  · exact (s.keeps_completeFile _ _).trans (keeps_toIdle _ _)
  · exact (s.keeps_completeCheckin _ _ _).trans (keeps_toIdle _ _)

theorem keeps_handText (s : Switch) (u : Upload) (text : List Byte) : Keeps s (s.handText u text).1 := by
  unfold handText
  split
  · exact s.keeps_pushText _ _
  · exact .refl s

theorem keeps_takeText (s : Switch) (p : PortId) (u : Upload) (text : List Byte) : Keeps s (s.takeText p u text) := by
  unfold takeText
  dsimp only
  split
  · exact (((s.keeps_handText _ _).trans (keeps_setUpload _ _ _)).trans (keeps_setPort _ _ _ (by rfl) (by rfl))).trans (keeps_endUpload _ _ _)
  · exact ((s.keeps_handText _ _).trans (keeps_setUpload _ _ _)).trans (keeps_setPort _ _ _ (by rfl) (by rfl))

theorem keeps_dataFrame (p : PortId) (tag : Byte) (text : List Byte) (s : Switch) : Keeps s (dataFrame p tag text s) := by
  unfold dataFrame
  dsimp only
  split
  · split
    · exact .refl s
    · split
      · exact s.keeps_countFault _ _ (keeps_failDataPhase _ _ _) (failDataPhase_faults _ _ _ nofun)
      · exact s.keeps_takeText _ _ _
  · exact .refl s

theorem keeps_lapseDataWindow (p : PortId) (s : Switch) : Keeps s (lapseDataWindow p s) := by
  unfold lapseDataWindow
  split
  · exact s.keeps_countFault _ _ (keeps_failDataPhase _ _ _) (failDataPhase_faults _ _ _ nofun)
  · exact .refl s

theorem keeps_sendResultData (s : Switch) (p : PortId) (payload : List Byte) : Keeps s (s.sendResultData p payload) :=
  s.keeps_emit _

theorem keeps_setStream (s : Switch) (p : PortId) (x : Stream) : Keeps s (s.setStream p x) := s.keeps_setPort _ _ (by rfl) (by rfl)

theorem keeps_sendText (s : Switch) (p : PortId) (a : Handle) (n sent : Nat) : Keeps s (s.sendText p a n sent) := by
  unfold sendText
  split
  · exact s.keeps_endStream _
  · dsimp only
    split
    · exact (s.keeps_sendResultData _ _).trans (keeps_endStream _ _)
    · exact (s.keeps_sendResultData _ _).trans (keeps_setStream _ _ _)

theorem keeps_sendNotice (s : Switch) (p : PortId) (owed : Nat) : Keeps s (s.sendNotice p owed) := by
  unfold sendNotice
  dsimp only
  split
  · exact s.keeps_endStream _
  · rename_i n rest hn
    have taken : Keeps s ((s.sendResultData p n.encode).setInbox p { s.inbox p with notices := rest }) :=
      (s.keeps_sendResultData _ _).trans
        (keeps_setInbox _ _ _ (by
          show rest.Sublist (s.inbox p).notices
          rw [hn]
          exact List.sublist_cons_self _ _) le_rfl)
    split
    · exact taken.trans (keeps_endStream _ _)
    · exact taken.trans (keeps_setStream _ _ _)

theorem keeps_sendReport (s : Switch) (p : PortId) (frames : List (List Byte)) : Keeps s (s.sendReport p frames) := by
  unfold sendReport
  split
  · exact s.keeps_endStream _
  · dsimp only
    split
    · exact (s.keeps_sendResultData _ _).trans (keeps_endStream _ _)
    · exact (s.keeps_sendResultData _ _).trans (keeps_setStream _ _ _)

theorem keeps_sendNext (p : PortId) (s : Switch) : Keeps s (sendNext p s) := by
  unfold sendNext
  dsimp only
  split
  · split
    · exact s.keeps_endStream _
    · exact s.keeps_sendText _ _ _ _
    · exact s.keeps_sendNotice _ _
    · exact s.keeps_sendReport _ _
  · exact .refl s

theorem keeps_lapseResultWindow (p : PortId) (s : Switch) : Keeps s (lapseResultWindow p s) := by
  unfold lapseResultWindow
  split
  · exact s.keeps_countFault _ _ (s.keeps_endStream _) (s.endStream_faults p).le
  · exact .refl s

theorem keeps_faultyFrame (p : PortId) (s : Switch) : Keeps s (faultyFrame p s) := by
  unfold faultyFrame
  dsimp only
  split
  · exact .refl s
  · split
    · exact s.keeps_setPort _ _ (by rfl) (by rfl)
    · exact s.keeps_countFault _ _ (s.keeps_sendResult _ _ _ _) le_rfl

theorem keeps_unknownFrame (h : Head) (s : Switch) : Keeps s (unknownFrame h s) := by
  obtain e | ⟨tag, code, -, e⟩ := s.unknownFrame_cases h <;> rw [e]
  · exact .refl s
  · exact s.keeps_refuse _ _

theorem keeps_attach (s : Switch) (p : PortId) : Keeps s (s.attach p) :=
  s.keeps_setPort_follows p _ (fun _ => ⟨Nat.zero_le _, .inr rfl⟩) nofun

theorem keeps_attachCommand (h : Head) (a : Unit) (s : Switch) : Keeps s (attachCommand h a s) := by
  unfold attachCommand
  split
  · split
    · exact (s.keeps_attach _).trans (keeps_answer _ _ _ _)
    · exact s.keeps_refuse _ _
  · exact s.keeps_refuse _ _

theorem keeps_reattachCommand (h : Head) (p : PortId) (s : Switch) : Keeps s (reattachCommand h p s) := by
  unfold reattachCommand
  split
  · exact (s.keeps_attach _).trans (keeps_answer _ _ _ _)
  · exact s.keeps_refuse _ _

theorem keeps_clearPort (p : PortId) (s : Switch) : Keeps s (clearPort p s) :=
  (((s.keeps_setPort p _ (by rfl) (by rfl)).trans (keeps_abandonCommand _ _)).trans (keeps_releaseLocks _ _)).trans (keeps_dropWatches _ _)

/-! ### Settings and start-up (spec/10) -/

theorem keeps_saveCommand (h : Head) (a : Unit) (s : Switch) : Keeps s (saveCommand h a s) := by
  unfold saveCommand
  split
  · exact s.keeps_refuse _ _
  · exact Keeps.trans (t := { s with saving := some { copy := s.groups, port := some h.port }, image := none }) (.of_same (by rfl))
      (keeps_setPort _ _ _ (by rfl) (by rfl))

theorem keeps_endSave (s : Switch) : Keeps s s.endSave := by
  unfold endSave
  split
  · exact .refl s
  · rename_i x _
    have ended : Keeps s { s with saving := none, image := some x.copy.image } := .of_same rfl
    dsimp only
    split
    · exact ended
    · exact (ended.trans (keeps_toIdle _ _)).trans (keeps_answer _ _ _ _)

/-- Chains returned one after another leave all but the pool as it was. -/
theorem returnChain_foldl (l : List (List Nat)) : ∀ s : Switch, l.foldl returnChain s =
    { s with store := { s.store with
        freePool := l.reverse.flatten ++ s.store.freePool, freeCount := s.store.freeCount + (l.map List.length).sum } } := by
  induction l with
  | nil => intro s; simp
  | cons c l ih => intro s; rw [List.foldl_cons, ih]; simp [returnChain, setStore, Nat.add_assoc]

/-- At the beginning of a restart the watch table is empty, the clock stopped and every port ACTIVE at 0 (R92, R154, R171). -/
theorem keeps_beginRestart (cause : StartCause) (s : Switch) : Keeps s (beginRestart cause s) := by
  unfold beginRestart restartStore
  rw [returnChain_foldl]
  refine ⟨id, fun _ p => ?_, ?_, fun _ p => ?_, fun _ _ => ?_⟩
  · rw [show (Bank.get _ p : Inbox) = Inbox.empty from emptyInboxes_inbox _ p]
    exact Inbox.empty_ordered
  · exact fun ⟨groups, first, last, ticks, high, _⟩ => ⟨groups, first, last, ticks, high, fun _ => rfl⟩
  · simp [restartPort, Port.fresh]
  · exact ⟨by simp, .nil, by simp⟩

theorem keeps_restartCommand (h : Head) (a : Unit) (s : Switch) : Keeps s (restartCommand h a s) :=
  (s.keeps_answer h .ok []).trans (keeps_beginRestart _ _)

/-- Power-on sets every record the invariants read (R171). -/
theorem keeps_powerOn (s : Switch) : Keeps s s.powerOn where
  copy _ := rfl
  inboxes _ p := by
    rw [show s.powerOn.inboxes = Bank.replicate 6 Inbox.empty from rfl, Bank.get_replicate]
    exact Inbox.empty_ordered
  settings _ := ⟨Groups.factory_inRange, (by decide : 1 ≤ 1), (by decide : 1 ≤ 255), (by decide : 0 < 57600),
    (by decide : 57600 ≤ 65535), fun _ => rfl⟩
  standings _ p := by
    rw [show s.powerOn.ports = s.ports.map _ from rfl, Bank.get_map]
    exact ⟨Nat.zero_le _, .inr rfl⟩
  watches _ _ := ⟨by simp [powerOn, reset], .nil, by simp [powerOn, reset]⟩

theorem keeps_takeLength (s : Switch) : Keeps s s.takeLength :=
  { Keeps.of_same (s := s) (t := s) rfl with
    settings := fun ⟨groups, first, last, ticks, high, stopped⟩ => by
      obtain ⟨_, most⟩ := editionLength_of_inRange groups
      refine ⟨groups, first, last, ?_, ?_, stopped⟩ <;> simp only [takeLength] <;> split <;> omega }

theorem keeps_takeDefinitions (before s : Switch) : Keeps s (takeDefinitions before s) := .of_same rfl

theorem keeps_takeDeadlines (s : Switch) : Keeps s s.takeDeadlines := .foldl (fun s c => s.keeps_setActive c _) _ s

theorem keeps_emptyBeforeEnd (s : Switch) : Keeps s s.emptyBeforeEnd := by
  unfold emptyBeforeEnd
  split
  · exact .refl s
  · exact s.keeps_emptyInboxes

theorem keeps_judgeTight (s : Switch) : Keeps s s.judgeTight := by
  unfold judgeTight
  split
  · exact (s.keeps_setStore _ (by rfl)).trans (keeps_postControl _ _)
  · exact s.keeps_setStore _ (by rfl)

theorem keeps_takeFeed (s : Switch) : Keeps s s.takeFeed := .of_same rfl

theorem keeps_endStarting (s : Switch) : Keeps s { s with starting := false } :=
  { Keeps.of_same (s := s) (t := s) rfl with
    settings := fun ⟨groups, first, last, ticks, high, _⟩ => ⟨groups, first, last, ticks, high, nofun⟩ }

theorem keeps_endStartUp (s : Switch) : Keeps s s.endStartUp := by
  unfold endStartUp
  split
  · have loaded : Keeps s s.loadSettings.takeLength := s.keeps_loadSettings.trans (keeps_takeLength _)
    have taken := ((loaded.trans (keeps_takeDefinitions s _)).trans (keeps_takeDeadlines _)).trans (keeps_judgeGroups _ s)
    exact (((taken.trans (keeps_emptyBeforeEnd _)).trans (keeps_judgeTight _)).trans (keeps_takeFeed _)).trans
      (keeps_endStarting _)
  · exact .refl s

end Switch

/-! ### Every row -/

open Switch in
/-- The work of every row keeps the five invariants: a command's by its block's body, an event's by its own. -/
theorem keeps_work (i : Instr) (s : Switch) : Keeps s (work i s) := by
  refine ?row
  cases i
  case file => exact keeps_takeCommand fun _ _ _ => keeps_fileCommand _ _ _
  case find => exact keeps_takeCommand fun _ _ _ => keeps_findCommand _ _ _
  case describe => exact keeps_takeCommand fun _ _ _ => keeps_onStory fun _ _ => s.keeps_report _ _ _
  case reclassify => exact keeps_takeCommand fun _ _ _ => keeps_reclassifyCommand _ _ _
  case route => exact keeps_takeCommand fun _ _ _ => keeps_routeCommand _ _ _
  case spike => exact keeps_takeCommand fun _ _ _ => keeps_spikeCommand _ _ _
  case restore => exact keeps_takeCommand fun _ _ _ => keeps_restoreCommand _ _ _
  case purge => exact keeps_takeCommand fun _ _ _ => keeps_purgeCommand _ _ _
  case read => exact keeps_takeCommand fun _ _ _ => keeps_readCommand _ _ _
  case storeStatus => exact keeps_takeCommand fun _ _ _ => s.keeps_answer _ _ _
  case checkout => exact keeps_takeCommand fun _ _ _ => keeps_checkoutCommand _ _ _
  case renew => exact keeps_takeCommand fun _ _ _ => keeps_renewCommand _ _ _
  case abandon => exact keeps_takeCommand fun _ _ _ => keeps_abandonCommandFrame _ _ _
  case checkin => exact keeps_takeCommand fun _ _ _ => keeps_checkinCommand _ _ _
  case leaseExpiry => exact keeps_expireLease _ _
  case breakLock => exact keeps_takeCommand fun _ _ _ => keeps_breakCommand _ _ _
  case offer => exact keeps_takeCommand fun _ _ _ => keeps_offerCommand _ _ _
  case accept => exact keeps_takeCommand fun _ _ _ => keeps_acceptCommand _ _ _
  case decline => exact keeps_takeCommand fun _ _ _ => keeps_declineCommand _ _ _
  case withdraw => exact keeps_takeCommand fun _ _ _ => keeps_withdrawCommand _ _ _
  case offerExpiry => exact keeps_lapseOffer _ _
  case collect => exact keeps_takeCommand fun _ _ _ => keeps_collectCommand _ _ _
  case filter =>
    refine keeps_takeCommand fun _ hx _ => keeps_filterCommand _ _ _ ?_
    obtain ⟨_, _, checked⟩ := Option.bind_eq_some_iff.1 hx
    exact FilterArgs.check_category checked
  case mask =>
    refine keeps_takeCommand fun _ hx _ => keeps_maskCommand _ _ _ ?_
    obtain ⟨_, _, checked⟩ := Option.bind_eq_some_iff.1 hx
    exact MaskArgs.check_bits checked
  case watch =>
    exact keeps_takeCommand fun _ _ ⟨_, _, _, _, attached, _⟩ => keeps_watchCommand _ _ _ (attached.resolve_right nofun)
  case unwatch => exact keeps_takeCommand fun _ _ _ => keeps_unwatchCommand _ _ _
  case tick => exact s.keeps_tick
  case editionTurn => exact s.keeps_turnTick
  case clockStart => exact keeps_takeCommand fun _ _ ⟨_, idle, _⟩ => keeps_clockStartCommand _ _ _ idle
  case clockStop => exact keeps_takeCommand fun _ _ _ => keeps_clockStopCommand _ _ _
  case turn => exact keeps_takeCommand fun _ _ _ => keeps_turnCommand _ _ _
  case editionLength =>
    refine keeps_takeCommand fun _ hx _ => keeps_editionLengthCommand _ _ _ ?_
    obtain ⟨_, _, checked⟩ := Option.bind_eq_some_iff.1 hx
    exact within_range checked
  case deadline =>
    refine keeps_takeCommand fun _ hx _ => keeps_deadlineCommand _ _ _ ?_
    obtain ⟨_, _, checked⟩ := Option.bind_eq_some_iff.1 hx
    exact DeadlineArgs.check_range checked
  case channel =>
    refine keeps_takeCommand fun _ hx _ => keeps_channelCommand _ _ _ ?_
    obtain ⟨_, _, checked⟩ := Option.bind_eq_some_iff.1 hx
    exact ChannelArgs.check_range checked
  case warningPoint => exact keeps_takeWarning _ _
  case deadlineMatch => exact keeps_matchIfDue _ _
  case lateTick => exact keeps_takeLateTick _ _
  case clockStatus => exact keeps_takeCommand fun _ _ _ => s.keeps_report _ _ _
  case page =>
    refine keeps_takeCommand fun x hx _ => keeps_pageCommand _ _ _ fun d hd => ?_
    obtain ⟨_, _, checked⟩ := Option.bind_eq_some_iff.1 hx
    exact PageArgs.check_define (q := x.1) (by rw [checked, ← hd])
  case place => exact keeps_takeCommand fun _ _ _ => keeps_placeCommand _ _ _
  case unplace => exact keeps_takeCommand fun _ _ _ => keeps_unplaceCommand _ _ _
  case release => exact keeps_takeCommand fun _ _ _ => keeps_releaseCommand _ _ _
  case row.recall => exact keeps_takeCommand fun _ _ _ => keeps_recallCommand _ _ _
  case pageStatus => exact keeps_takeCommand fun _ _ _ => keeps_pageStatusCommand _ _ _
  case readyLineRise => exact s.keeps_setLink _ _
  case readyLineFall => exact keeps_fallReady _ _
  case linkSettled => exact keeps_settleLink _ _
  case linkStall => exact keeps_stallLink _ _
  case pageStart => exact s.keeps_startPage
  case takeStrobe => exact keeps_takeStrobe _ _
  case typesetterAccept => exact keeps_acceptPage _ _
  case typesetterReject => exact keeps_rejectPage _ _
  case paceWindowClose => exact s.keeps_closeWindow
  case links => exact keeps_takeCommand fun _ _ _ => keeps_linksCommand _ _ _
  case feedStatus => exact keeps_takeCommand fun _ _ _ => s.keeps_report _ _ _
  case dataFrame => exact keeps_dataFrame _ _ _ _
  case dataWindowLapse => exact keeps_lapseDataWindow _ _
  case resultDataFrameSent => exact keeps_sendNext _ _
  case holdLineRise => exact s.keeps_setPort _ _ (by rfl) (by rfl)
  case holdLineFall => exact s.keeps_setPort _ _ (by rfl) (by rfl)
  case resultWindowLapse => exact keeps_lapseResultWindow _ _
  case frameFault => exact keeps_faultyFrame _ _
  case frameGapTimeout => exact keeps_faultyFrame _ _
  case unexpectedFrame => exact .refl s
  case unknownCommand => exact keeps_unknownFrame _ _
  case attach => exact keeps_takeCommand fun _ _ _ => keeps_attachCommand _ _ _
  case reattach => exact keeps_takeCommand fun _ _ _ => keeps_reattachCommand _ _ _
  case portResetLineRise => exact keeps_clearPort _ _
  case portResetLineFall => exact s.keeps_setPort _ _ (by rfl) (by rfl)
  case portStatus => exact keeps_takeCommand fun _ _ _ => s.keeps_answer _ _ _
  case settings =>
    refine keeps_takeCommand fun _ hx _ => keeps_settingsCommand _ _ _ ?_
    obtain ⟨_, _, checked⟩ := Option.bind_eq_some_iff.1 hx
    exact SettingsArgs.check_ranged checked
  case save => exact keeps_takeCommand fun _ _ _ => keeps_saveCommand _ _ _
  case saveWriteEnd => exact s.keeps_endSave
  case dump => exact keeps_takeCommand fun _ _ _ => s.keeps_report _ _ _
  case hold => exact keeps_takeCommand fun _ _ _ => Keeps.trans (.of_same (by rfl)) (keeps_answer _ _ _ _)
  case unhold => exact keeps_takeCommand fun _ _ _ => Keeps.trans (.of_same (by rfl)) (keeps_answer _ _ _ _)
  case restart => exact keeps_takeCommand fun _ _ _ => keeps_restartCommand _ _ _
  case identify => exact keeps_takeCommand fun _ _ _ => s.keeps_answer _ _ _
  case powerOn => exact s.keeps_powerOn
  case resetLineRise => exact keeps_beginRestart _ _
  case startUpEnd => exact s.keeps_endStartUp

/-- Settles O53: only a byte written by an upload and power-on touch the copy store's bytes. -/
theorem stepsKeepTheCopyCanonical : Obligations.StepsKeepTheCopyCanonical :=
  step_keeps (fun s => s.keeps_quietly.copy) (fun i s => (keeps_work i s).copy) (fun s => s.keeps_easedTest.copy)
    fun s p => (s.keeps_emptyInbox p).copy

/-- Settles O54: an inbox changes by an arrival, or loses notices. -/
theorem stepsKeepTheInboxesOrdered : Obligations.StepsKeepTheInboxesOrdered :=
  step_keeps (fun s => s.keeps_quietly.inboxes) (fun i s => (keeps_work i s).inboxes) (fun s => s.keeps_easedTest.inboxes)
    fun s p => (s.keeps_emptyInbox p).inboxes

/-- Settles O55: every write of a group or of the clock is of values in range. -/
theorem stepsKeepTheSettingsInRange : Obligations.StepsKeepTheSettingsInRange :=
  step_keeps (fun s => s.keeps_quietly.settings) (fun i s => (keeps_work i s).settings) (fun s => s.keeps_easedTest.settings)
    fun s p => (s.keeps_emptyInbox p).settings

/-- Settles O56: a fault count moves by the steps of R161 alone, and the standing with it. -/
theorem stepsKeepTheStandings : Obligations.StepsKeepTheStandings :=
  step_keeps (fun s => s.keeps_quietly.standings) (fun i s => (keeps_work i s).standings) (fun s => s.keeps_easedTest.standings)
    fun s p => (s.keeps_emptyInbox p).standings

/-- Settles O60: an entry goes before its story does, and before its port is taken away. -/
theorem stepsKeepTheWatchesInOrder : Obligations.StepsKeepTheWatchesInOrder :=
  step_keeps (fun s => s.keeps_quietly.watches fun _ => False) (fun i s => (keeps_work i s).watches fun _ => False)
    (fun s => s.keeps_easedTest.watches fun _ => False) fun s p => (s.keeps_emptyInbox p).watches fun _ => False

end Sys2Proof.Machine
end

section
/-! SUPPORT. What the operations and rows of the directory, the copy store, custody, passing, the notices and the ports leave as it
was: the clock, the pages and the queue, the feed and the settings. -/

namespace Sys2Proof.Machine.Switch

/-- The records that no desk's business touches. -/
structure DeskPart where
  wall : Word32
  clock : Clock
  channels : Bank 16 Channel
  pages : Bank 128 Page
  queue : List PageId
  sending : Option PageId
  releases : Nat
  links : PerLink Link
  active : LinkId
  pace : Pace
  groups : Groups
  holds : Holds
  starting : Bool
  cause : StartCause
  defaulted : Bool
  free : Nat

def deskPart (s : Switch) : DeskPart where
  wall := s.wall
  clock := s.clock
  channels := s.channels
  pages := s.pages
  queue := s.queue
  sending := s.sending
  releases := s.releases
  links := s.links
  active := s.active
  pace := s.pace
  groups := s.groups
  holds := s.holds
  starting := s.starting
  cause := s.cause
  defaulted := s.defaulted
  free := s.free

/-- The update leaves them as they were. -/
structure DeskFrame (s t : Switch) : Prop where
  same : t.deskPart = s.deskPart

namespace DeskFrame

section
variable {s t : Switch} (h : DeskFrame s t)
include h

theorem wall : t.wall = s.wall := congrArg DeskPart.wall h.same
theorem clock : t.clock = s.clock := congrArg DeskPart.clock h.same
theorem channels : t.channels = s.channels := congrArg DeskPart.channels h.same
theorem pages : t.pages = s.pages := congrArg DeskPart.pages h.same
theorem queue : t.queue = s.queue := congrArg DeskPart.queue h.same
theorem sending : t.sending = s.sending := congrArg DeskPart.sending h.same
theorem releases : t.releases = s.releases := congrArg DeskPart.releases h.same
theorem links : t.links = s.links := congrArg DeskPart.links h.same
theorem active : t.active = s.active := congrArg DeskPart.active h.same
theorem pace : t.pace = s.pace := congrArg DeskPart.pace h.same
theorem groups : t.groups = s.groups := congrArg DeskPart.groups h.same
theorem holds : t.holds = s.holds := congrArg DeskPart.holds h.same
theorem starting : t.starting = s.starting := congrArg DeskPart.starting h.same
theorem cause : t.cause = s.cause := congrArg DeskPart.cause h.same
theorem defaulted : t.defaulted = s.defaulted := congrArg DeskPart.defaulted h.same
theorem free : t.free = s.free := congrArg DeskPart.free h.same

end

theorem refl (s : Switch) : DeskFrame s s := ⟨rfl⟩

theorem trans {s t u : Switch} (a : DeskFrame s t) (b : DeskFrame t u) : DeskFrame s u := ⟨b.same.trans a.same⟩

theorem foldl {f : Switch → α → Switch} (h : ∀ s a, DeskFrame s (f s a)) (l : List α) (s : Switch) :
    DeskFrame s (l.foldl f s) := by
  induction l generalizing s with
  | nil => exact refl s
  | cons a l ih => exact (h s a).trans (ih _)

/-- The operations on stories are a desk's business. -/
theorem of_story {s t : Switch} (h : StoryFrame s t) : DeskFrame s t where
  same := by
    simp only [deskPart, h.wall, h.clock, h.channels, h.pages, h.queue, h.sending, h.releases, h.links,
      h.active, h.pace, h.groups, h.holds, h.starting, h.cause, h.defaulted, h.free]

end DeskFrame

/-! ### Updates of one record -/

theorem desk_setPort (s : Switch) (p : PortId) (x : Port) : DeskFrame s (s.setPort p x) := ⟨rfl⟩
theorem desk_setStory (s : Switch) (i : SlotId) (st : Story) : DeskFrame s (s.setStory i st) := ⟨rfl⟩
theorem desk_setUpload (s : Switch) (p : PortId) (u : Option Upload) : DeskFrame s (s.setUpload p u) := ⟨rfl⟩
theorem desk_setInbox (s : Switch) (p : PortId) (x : Inbox) : DeskFrame s (s.setInbox p x) := ⟨rfl⟩
theorem desk_setStore (s : Switch) (x : Store) : DeskFrame s (s.setStore x) := ⟨rfl⟩
theorem desk_postEach (s : Switch) (f : PortId → Option Notice) : DeskFrame s (s.postEach f) := ⟨rfl⟩
theorem desk_post (s : Switch) (n : Notice) (who : PortId → Bool) : DeskFrame s (s.post n who) := ⟨rfl⟩
theorem desk_dropWatches (s : Switch) (f : Watch → Bool) : DeskFrame s (s.dropWatches f) := ⟨rfl⟩
theorem desk_emit (s : Switch) (e : Emission) : DeskFrame s (s.emit e) := ⟨rfl⟩
theorem desk_returnChain (s : Switch) (l : List Nat) : DeskFrame s (s.returnChain l) := ⟨rfl⟩
theorem desk_quietly (s : Switch) : DeskFrame s s.quietly := ⟨rfl⟩
theorem desk_releaseLocks (s : Switch) (p : PortId) : DeskFrame s (s.releaseLocks p) := ⟨rfl⟩

/-! ### Replies and streams -/

theorem desk_answer (s : Switch) (h : Head) (code : Code) (values : List Byte) : DeskFrame s (s.answer h code values) := by
  rw [answer_eq]
  exact ⟨rfl⟩

theorem desk_refuse (s : Switch) (h : Head) (code : Code) : DeskFrame s (s.refuse h code) := s.desk_answer h code []

theorem desk_openStream (s : Switch) (h : Head) (c : Cmd) (values : List Byte) (x : Stream) :
    DeskFrame s (s.openStream h c values x) := (s.desk_answer h .ok values).trans (desk_setPort _ _ _)

theorem desk_report (s : Switch) (h : Head) (c : Cmd) (data : List Byte) : DeskFrame s (s.report h c data) :=
  s.desk_openStream _ _ _ _

theorem desk_toIdle (s : Switch) (p : PortId) : DeskFrame s (s.toIdle p) := ⟨rfl⟩

theorem desk_unpin (s : Switch) (k : Handle) (n : Nat) : DeskFrame s (s.unpin k n) := .of_story (unpin_frame s k n)

theorem desk_endStream (s : Switch) (p : PortId) : DeskFrame s (s.endStream p) := by
  unfold endStream
  dsimp only
  split
  · exact (s.desk_toIdle p).trans (desk_unpin _ _ _)
  all_goals exact s.desk_toIdle p

/-! ### The store and its uploads -/

theorem desk_reserve (s : Switch) (n : Nat) : DeskFrame s (s.reserve n) := by
  obtain ⟨tight, boxes, e⟩ := s.reserve_eq n
  rw [e]
  exact ⟨rfl⟩

theorem desk_easedTest (s : Switch) : DeskFrame s s.easedTest := by
  obtain ⟨tight, boxes, e⟩ := s.easedTest_eq
  rw [e]
  exact ⟨rfl⟩

theorem desk_returnUpload (s : Switch) (u : Upload) : DeskFrame s (s.returnUpload u) := ⟨rfl⟩

theorem desk_pushByte (s : Switch) (u : Upload) (b : Byte) : DeskFrame s (pushByte (s, u) b).1 := by
  unfold pushByte
  dsimp only
  split
  · split <;> exact ⟨rfl⟩
  · exact ⟨rfl⟩

theorem desk_pushText (s : Switch) (u : Upload) (text : List Byte) : DeskFrame s (s.pushText u text).1 := by
  unfold pushText
  induction text generalizing s u with
  | nil => exact .refl s
  | cons b text ih => exact (s.desk_pushByte u b).trans (ih _ _)

theorem clearMark_frame (s : Switch) (u : Upload) : StoryFrame s (s.clearMark u) := by
  unfold clearMark
  split
  · exact .refl s
  · exact modifyVersions_frame _ _ _

theorem desk_failUpload (s : Switch) (p : PortId) : DeskFrame s (s.failUpload p) := by
  unfold failUpload
  split
  · exact .refl s
  · rename_i u _
    refine DeskFrame.trans ?_ ((DeskFrame.of_story (clearMark_frame _ u)).trans (desk_setUpload _ _ _))
    split
    · exact s.desk_returnUpload u
    · exact .refl s

theorem desk_abandonUpload (s : Switch) (p : PortId) : DeskFrame s (s.abandonUpload p) := by
  unfold abandonUpload
  split
  · exact .refl s
  · refine (s.desk_failUpload p).trans ?_
    split
    · exact .of_story (dropFile_frame _ _)
    · exact .refl _

theorem desk_makeVersion (s : Switch) (p : PortId) (u : Upload) (st : Story) : DeskFrame s (s.makeVersion p u st).1 :=
  (DeskFrame.foldl (f := fun s (v : Version) => (s.returnChain v.chain).markReleased) (fun _ _ => ⟨rfl⟩) _ s).trans
    (desk_setUpload _ _ _)

/-! ### The exchange -/

theorem desk_orphanSave (s : Switch) (p : PortId) : DeskFrame s (s.orphanSave p) := by
  unfold orphanSave
  split
  · exact .refl s
  · split
    · exact ⟨rfl⟩
    · exact .refl s

theorem desk_abandonCommand (s : Switch) (p : PortId) : DeskFrame s (s.abandonCommand p) :=
  ((s.desk_abandonUpload p).trans (desk_orphanSave _ p)).trans (desk_endStream _ p)

theorem desk_detach (s : Switch) (p : PortId) : DeskFrame s (s.detach p) := by
  unfold detach
  refine DeskFrame.trans ?_ (desk_post _ _ _)
  refine DeskFrame.trans ?_ (.of_story (expireOffersTo_frame _ p))
  refine DeskFrame.trans ?_ (desk_setInbox _ p _)
  refine DeskFrame.trans ?_ (desk_dropWatches _ _)
  exact ((desk_setPort s p _).trans (desk_abandonCommand _ p)).trans (desk_releaseLocks _ p)

theorem desk_countFault (s : Switch) (p : PortId) (k : Switch → Switch) (frame : DeskFrame s (k s)) :
    DeskFrame s (s.countFault p k) := by
  unfold countFault
  split
  · exact s.desk_detach p
  · exact frame.trans (desk_setPort _ _ _)

/-! ### The checks a command makes -/

theorem desk_onStory {s : Switch} {h : Head} {k : Handle} {f : Story → Switch} (frame : ∀ st, DeskFrame s (f st)) :
    DeskFrame s (s.onStory h k f) := by
  unfold onStory
  split
  · exact s.desk_refuse _ _
  · exact frame _

theorem desk_withRight {s t : Switch} {h : Head} {d : DeskId} (frame : DeskFrame s t) : DeskFrame s (s.withRight h d t) := by
  unfold withRight
  split
  · exact frame
  · exact s.desk_refuse _ _

theorem desk_unlessFilingOrSpiked {s t : Switch} {h : Head} {st : Story} (frame : DeskFrame s t) :
    DeskFrame s (s.unlessFilingOrSpiked h st t) := by
  unfold unlessFilingOrSpiked
  split
  iterate 2 exact s.desk_refuse _ _
  all_goals exact frame

theorem desk_asHolder {s : Switch} {h : Head} {screen : ScreenNo} {st : Story} {k : Lock → Switch}
    (frame : ∀ l, DeskFrame s (k l)) : DeskFrame s (s.asHolder h screen st k) := by
  unfold asHolder
  split
  · split
    · exact frame _
    · exact s.desk_refuse _ _
  all_goals exact s.desk_refuse _ _

theorem desk_onOffer {s : Switch} {h : Head} {st : Story} {d : DeskId} {k : Offer → Switch} (frame : ∀ o, DeskFrame s (k o)) :
    DeskFrame s (s.onOffer h st d k) := by
  unfold onOffer
  split
  · split
    · exact frame _
    · exact s.desk_refuse _ _
  all_goals exact s.desk_refuse _ _

theorem desk_servingDesk {s t : Switch} {h : Head} {d : DeskId} (frame : DeskFrame s t) : DeskFrame s (s.servingDesk h d t) := by
  unfold servingDesk
  split
  · exact frame
  · exact s.desk_refuse _ _

/-- A port's own answer is a desk's business. -/
theorem desk_takeCommand {s : Switch} {h : Head} {c : Cmd} {a : Option α} {body : α → Switch → Switch}
    (frame : ∀ x, DeskFrame s (body x s)) : DeskFrame s (s.takeCommand h c a body) := by
  obtain e | ⟨tag, code, -, e⟩ | ⟨x, -, -, e⟩ := s.takeCommand_cases h c a body <;> rw [e]
  · exact .refl s
  · exact s.desk_refuse _ _
  · exact frame x

/-! ### The directory -/

theorem desk_completeFile (s : Switch) (h : Head) (u : Upload) : DeskFrame s (s.completeFile h u) := by
  unfold completeFile
  split
  · exact .refl s
  · exact ((s.desk_makeVersion _ _ _).trans ((desk_setStory _ _ _).trans (desk_post _ _ _))).trans (desk_answer _ _ _ _)

theorem desk_openDataPhase (s : Switch) (h : Head) (c : Cmd) : DeskFrame s (s.openDataPhase h c) := ⟨rfl⟩

theorem desk_takeFile (s : Switch) (h : Head) (a : FileParams) (i : SlotId) : DeskFrame s (s.takeFile h a i) := by
  unfold takeFile
  dsimp only
  split
  · exact (((s.desk_setStory _ _).trans (desk_setUpload _ _ _)).trans (desk_reserve _ _)).trans (desk_completeFile _ _ _)
  · exact (((s.desk_setStory _ _).trans (desk_setUpload _ _ _)).trans (desk_reserve _ _)).trans (desk_openDataPhase _ _ _)

theorem desk_fileCommand (h : Head) (a : FileParams) (s : Switch) : DeskFrame s (fileCommand h a s) := by
  unfold fileCommand
  split
  · exact s.desk_refuse _ _
  · refine desk_withRight ?_
    split
    · exact s.desk_refuse _ _
    · split
      · exact s.desk_refuse _ _
      · split
        · exact s.desk_refuse _ _
        · split
          · exact s.desk_refuse _ _
          · exact s.desk_takeFile _ _ _

theorem desk_findCommand (h : Head) (slug : List Byte) (s : Switch) : DeskFrame s (findCommand h slug s) := by
  unfold findCommand
  split
  · exact s.desk_refuse _ _
  · exact s.desk_answer _ _ _

theorem desk_reclassifyCommand (h : Head) (a : ReclassifyParams) (s : Switch) : DeskFrame s (reclassifyCommand h a s) := by
  refine desk_onStory fun st => desk_withRight (desk_unlessFilingOrSpiked ?_)
  dsimp only
  split
  · exact (((s.desk_setStory _ _).trans (desk_post _ _ _)).trans (desk_postEach _ _)).trans (desk_answer _ _ _ _)
  · exact ((s.desk_setStory _ _).trans (desk_postEach _ _)).trans (desk_answer _ _ _ _)

theorem desk_routeCommand (h : Head) (a : Handle × List DeskId) (s : Switch) : DeskFrame s (routeCommand h a s) :=
  desk_onStory fun _ => desk_withRight (desk_unlessFilingOrSpiked ((s.desk_setStory _ _).trans (desk_answer _ _ _ _)))

theorem desk_spikeCommand (h : Head) (a : Handle) (s : Switch) : DeskFrame s (spikeCommand h a s) := by
  refine desk_onStory fun st => desk_withRight ?_
  dsimp only
  split
  · exact ((s.desk_setStory _ _).trans (desk_postEach _ _)).trans (desk_answer _ _ _ _)
  · exact s.desk_answer _ _ _
  · split
    · exact (((s.desk_setStory _ _).trans (desk_postEach _ _)).trans (desk_post _ _ _)).trans (desk_answer _ _ _ _)
    · exact s.desk_refuse _ _
  all_goals exact s.desk_refuse _ _

theorem desk_restoreCommand (h : Head) (a : Handle) (s : Switch) : DeskFrame s (restoreCommand h a s) := by
  refine desk_onStory fun st => desk_withRight ?_
  split
  · exact ((s.desk_setStory _ _).trans (desk_postEach _ _)).trans (desk_answer _ _ _ _)
  all_goals exact s.desk_refuse _ _

theorem desk_purgeCommand (h : Head) (a : Handle) (s : Switch) : DeskFrame s (purgeCommand h a s) := by
  refine desk_onStory fun st => ?_
  split
  · exact (DeskFrame.of_story (requestPurge_frame _ _)).trans (desk_answer _ _ _ _)
  all_goals exact s.desk_refuse _ _

/-! ### The copy store and custody -/

theorem desk_readCommand (h : Head) (a : Handle × Option Nat) (s : Switch) : DeskFrame s (readCommand h a s) := by
  refine desk_onStory fun st => ?_
  split
  · exact s.desk_refuse _ _
  · split
    · exact s.desk_refuse _ _
    · split
      · exact s.desk_refuse _ _
      · dsimp only
        split
        · exact s.desk_answer _ _ _
        · exact (DeskFrame.of_story (modifyVersions_frame _ _ _)).trans (desk_openStream _ _ _ _ _)

theorem desk_checkoutCommand (h : Head) (a : ScreenNo × Handle) (s : Switch) : DeskFrame s (checkoutCommand h a s) := by
  refine desk_onStory fun st => ?_
  split
  · exact s.desk_refuse _ _
  · refine desk_withRight ?_
    dsimp only
    split
    · exact (s.desk_setStory _ _).trans (desk_answer _ _ _ _)
    · split
      · exact (s.desk_setStory _ _).trans (desk_answer _ _ _ _)
      · exact s.desk_refuse _ _
    all_goals exact s.desk_refuse _ _

theorem desk_renewCommand (h : Head) (a : ScreenNo × Handle) (s : Switch) : DeskFrame s (renewCommand h a s) :=
  desk_onStory fun _ => desk_asHolder fun _ => (s.desk_setStory _ _).trans (desk_answer _ _ _ _)

theorem desk_abandonCommandFrame (h : Head) (a : ScreenNo × Handle) (s : Switch) : DeskFrame s (abandonCommandFrame h a s) :=
  desk_onStory fun _ => desk_asHolder fun _ => (s.desk_setStory _ _).trans (desk_answer _ _ _ _)

theorem desk_completeCheckin (s : Switch) (h : Head) (u : Upload) (keep : Bool) : DeskFrame s (s.completeCheckin h u keep) := by
  unfold completeCheckin
  split
  · exact .refl s
  · dsimp only
    split
    · exact (((s.desk_makeVersion _ _ _).trans (desk_setStory _ _ _)).trans (desk_postEach _ _)).trans (desk_answer _ _ _ _)
    · exact s.desk_makeVersion _ _ _

theorem desk_takeCheckin (s : Switch) (h : Head) (a : CheckinParams) (st : Story) (l : Lock) (victim : Option Version) :
    DeskFrame s (s.takeCheckin h a st l victim) := by
  unfold takeCheckin
  dsimp only
  split
  · exact (((s.desk_setStory _ _).trans (desk_setUpload _ _ _)).trans (desk_reserve _ _)).trans (desk_completeCheckin _ _ _ _)
  · exact (((s.desk_setStory _ _).trans (desk_setUpload _ _ _)).trans (desk_reserve _ _)).trans (desk_openDataPhase _ _ _)

theorem desk_checkinCommand (h : Head) (a : CheckinParams) (s : Switch) : DeskFrame s (checkinCommand h a s) := by
  refine desk_onStory fun st => desk_asHolder fun l => ?_
  split
  · exact s.desk_refuse _ _
  · split
    · exact s.desk_refuse _ _
    · split
      · split
        · exact s.desk_refuse _ _
        · exact s.desk_takeCheckin _ _ _ _ _
      · exact s.desk_takeCheckin _ _ _ _ _

theorem desk_drainUpload (s : Switch) (p : PortId) (a : Handle) : DeskFrame s (s.drainUpload p a) := by
  unfold drainUpload
  split
  · exact .refl s
  · split
    · split
      · exact (s.desk_returnUpload _).trans (desk_setUpload _ _ _)
      · exact .refl s
    · exact .refl s

theorem desk_breakCommand (h : Head) (a : Handle) (s : Switch) : DeskFrame s (breakCommand h a s) := by
  refine desk_onStory fun st => ?_
  split
  · exact ((DeskFrame.of_story (endLock_frame s _ _ _ _)).trans (desk_drainUpload _ _ _)).trans (desk_answer _ _ _ _)
  all_goals exact s.desk_refuse _ _

theorem desk_expireLease (i : SlotId) (s : Switch) : DeskFrame s (expireLease i s) := by
  unfold expireLease
  split
  · exact .refl s
  · split
    · split
      · exact .of_story (endLock_frame s _ _ _ _)
      · exact .refl s
    · exact .refl s

/-! ### Passing copy, and notices -/

theorem desk_offerCommand (h : Head) (a : OfferParams) (s : Switch) : DeskFrame s (offerCommand h a s) := by
  refine desk_onStory fun st => ?_
  split
  · exact s.desk_refuse _ _
  · refine desk_withRight ?_
    split
    · exact s.desk_refuse _ _
    · split
      · exact s.desk_refuse _ _
      · split
        · exact s.desk_refuse _ _
        · split
          · exact s.desk_refuse _ _
          · exact ((s.desk_setStory _ _).trans (desk_post _ _ _)).trans (desk_answer _ _ _ _)

theorem desk_acceptCommand (h : Head) (a : Handle × DeskId) (s : Switch) : DeskFrame s (acceptCommand h a s) :=
  desk_onStory fun _ => desk_servingDesk <| desk_onOffer fun _ =>
    ((s.desk_setStory _ _).trans (desk_post _ _ _)).trans (desk_answer _ _ _ _)

theorem desk_declineCommand (h : Head) (a : Handle × DeskId × Byte) (s : Switch) : DeskFrame s (declineCommand h a s) :=
  desk_onStory fun _ => desk_servingDesk <| desk_onOffer fun _ =>
    ((s.desk_setStory _ _).trans (desk_post _ _ _)).trans (desk_answer _ _ _ _)

theorem desk_withdrawCommand (h : Head) (a : Handle × DeskId) (s : Switch) : DeskFrame s (withdrawCommand h a s) :=
  desk_onStory fun _ => desk_withRight <| desk_onOffer fun _ =>
    ((s.desk_setStory _ _).trans (desk_post _ _ _)).trans (desk_answer _ _ _ _)

theorem desk_lapseOffer (i : SlotId) (s : Switch) : DeskFrame s (lapseOffer i s) := by
  unfold lapseOffer
  split
  · exact .refl s
  · split
    · split
      · exact .of_story (expireOffer_frame _ s i)
      · exact .refl s
    · exact .refl s

theorem desk_collectCommand (h : Head) (count : Nat) (s : Switch) : DeskFrame s (collectCommand h count s) := by
  unfold collectCommand
  dsimp only
  split
  · exact (s.desk_setInbox _ _).trans (desk_answer _ _ _ _)
  · exact (s.desk_setInbox _ _).trans (desk_openStream _ _ _ _ _)

theorem desk_watchCommand (h : Head) (a : ScreenNo × Handle) (s : Switch) : DeskFrame s (watchCommand h a s) := by
  refine desk_onStory fun st => ?_
  dsimp only
  split
  · exact s.desk_answer _ _ _
  · split
    · exact s.desk_refuse _ _
    · exact DeskFrame.trans (t := { s with watches := s.watches ++ [{ handle := a.2, port := h.port, screen := a.1 }] }) ⟨rfl⟩
        (desk_answer _ _ _ _)

theorem desk_unwatchCommand (h : Head) (a : ScreenNo × Handle) (s : Switch) : DeskFrame s (unwatchCommand h a s) :=
  desk_onStory fun _ => (s.desk_dropWatches _).trans (desk_answer _ _ _ _)

/-! ### Ports -/

theorem desk_failDataPhase (p : PortId) (code : Code) (s : Switch) : DeskFrame s (failDataPhase p code s) := by
  unfold failDataPhase
  split
  · exact .refl s
  · exact (((s.desk_failUpload _).trans (.of_story (settleFailure_frame _ _))).trans (desk_toIdle _ _)).trans (desk_refuse _ _ _)

theorem desk_endUpload (s : Switch) (p : PortId) (u : Upload) : DeskFrame s (s.endUpload p u) := by
  unfold endUpload
  dsimp only
  split
  · exact ((s.desk_failUpload _).trans (desk_toIdle _ _)).trans (desk_refuse _ _ _)
  · exact (s.desk_completeFile _ _).trans (desk_toIdle _ _)
  · exact (s.desk_completeCheckin _ _ _).trans (desk_toIdle _ _)

theorem desk_handText (s : Switch) (u : Upload) (text : List Byte) : DeskFrame s (s.handText u text).1 := by
  unfold handText
  split
  · exact s.desk_pushText _ _
  · exact .refl s

theorem desk_takeText (s : Switch) (p : PortId) (u : Upload) (text : List Byte) : DeskFrame s (s.takeText p u text) := by
  unfold takeText
  dsimp only
  split
  · exact (((s.desk_handText _ _).trans (desk_setUpload _ _ _)).trans (desk_setPort _ _ _)).trans (desk_endUpload _ _ _)
  · exact ((s.desk_handText _ _).trans (desk_setUpload _ _ _)).trans (desk_setPort _ _ _)

theorem desk_dataFrame (p : PortId) (tag : Byte) (text : List Byte) (s : Switch) : DeskFrame s (dataFrame p tag text s) := by
  unfold dataFrame
  dsimp only
  split
  · split
    · exact .refl s
    · split
      · exact s.desk_countFault _ _ (desk_failDataPhase _ _ _)
      · exact s.desk_takeText _ _ _
  · exact .refl s

theorem desk_lapseDataWindow (p : PortId) (s : Switch) : DeskFrame s (lapseDataWindow p s) := by
  unfold lapseDataWindow
  split
  · exact s.desk_countFault _ _ (desk_failDataPhase _ _ _)
  · exact .refl s

theorem desk_sendText (s : Switch) (p : PortId) (a : Handle) (n sent : Nat) : DeskFrame s (s.sendText p a n sent) := by
  unfold sendText
  split
  · exact s.desk_endStream _
  · dsimp only
    split
    · exact (s.desk_emit _).trans (desk_endStream _ _)
    · exact (s.desk_emit _).trans (desk_setPort _ _ _)

theorem desk_sendNotice (s : Switch) (p : PortId) (owed : Nat) : DeskFrame s (s.sendNotice p owed) := by
  unfold sendNotice
  dsimp only
  split
  · exact s.desk_endStream _
  · split
    · exact ((s.desk_emit _).trans (desk_setInbox _ _ _)).trans (desk_endStream _ _)
    · exact ((s.desk_emit _).trans (desk_setInbox _ _ _)).trans (desk_setPort _ _ _)

theorem desk_sendReport (s : Switch) (p : PortId) (frames : List (List Byte)) : DeskFrame s (s.sendReport p frames) := by
  unfold sendReport
  split
  · exact s.desk_endStream _
  · dsimp only
    split
    · exact (s.desk_emit _).trans (desk_endStream _ _)
    · exact (s.desk_emit _).trans (desk_setPort _ _ _)

theorem desk_sendNext (p : PortId) (s : Switch) : DeskFrame s (sendNext p s) := by
  unfold sendNext
  dsimp only
  split
  · split
    · exact s.desk_endStream _
    · exact s.desk_sendText _ _ _ _
    · exact s.desk_sendNotice _ _
    · exact s.desk_sendReport _ _
  · exact .refl s

theorem desk_lapseResultWindow (p : PortId) (s : Switch) : DeskFrame s (lapseResultWindow p s) := by
  unfold lapseResultWindow
  split
  · exact s.desk_countFault _ _ (s.desk_endStream _)
  · exact .refl s

theorem desk_faultyFrame (p : PortId) (s : Switch) : DeskFrame s (faultyFrame p s) := by
  unfold faultyFrame
  dsimp only
  split
  · exact .refl s
  · split
    · exact s.desk_setPort _ _
    · exact s.desk_countFault _ _ (s.desk_emit _)

theorem desk_unknownFrame (h : Head) (s : Switch) : DeskFrame s (unknownFrame h s) := by
  obtain e | ⟨tag, code, -, e⟩ := s.unknownFrame_cases h <;> rw [e]
  · exact .refl s
  · exact s.desk_refuse _ _

theorem desk_attachCommand (h : Head) (a : Unit) (s : Switch) : DeskFrame s (attachCommand h a s) := by
  unfold attachCommand
  split
  · split
    · exact (s.desk_setPort _ _).trans (desk_answer _ _ _ _)
    · exact s.desk_refuse _ _
  · exact s.desk_refuse _ _

theorem desk_reattachCommand (h : Head) (p : PortId) (s : Switch) : DeskFrame s (reattachCommand h p s) := by
  unfold reattachCommand
  split
  · exact (s.desk_setPort _ _).trans (desk_answer _ _ _ _)
  · exact s.desk_refuse _ _

theorem desk_clearPort (p : PortId) (s : Switch) : DeskFrame s (clearPort p s) :=
  (((s.desk_setPort p _).trans (desk_abandonCommand _ _)).trans (desk_releaseLocks _ _)).trans (desk_dropWatches _ _)

theorem desk_saveCommand (h : Head) (a : Unit) (s : Switch) : DeskFrame s (saveCommand h a s) := by
  unfold saveCommand
  split
  · exact s.desk_refuse _ _
  · exact ⟨rfl⟩

theorem desk_endSave (s : Switch) : DeskFrame s s.endSave := by
  unfold endSave
  split
  · exact .refl s
  · rename_i x _
    dsimp only
    split
    · exact ⟨rfl⟩
    · exact DeskFrame.trans (t := { s with saving := none, image := some x.copy.image }) ⟨rfl⟩
        ((desk_toIdle _ _).trans (desk_answer _ _ _ _))

end Sys2Proof.Machine.Switch
end

section
/-! SUPPORT. The release queue in its three parts, each over the records it reads: the page table with the queue, the links with the
page in flight, and start-up; and what each operation on pages and links does to them (spec/07, spec/08). -/

namespace Sys2Proof.Machine

/-! ### The order of the queue (R125) -/

/-- The standing of a page record in the queue, with its release order. -/
def Page.standing (x : Page) : (Nat × Nat) × Nat :=
  match x.job with
  | none => ((4, 0), 0)
  | some j => (j.rank, j.order)

/-- One standing is before another, equal ones told apart by their release order. -/
def earlier (x y : (Nat × Nat) × Nat) : Prop := rankBefore x.1 y.1 = true ∨ x.1 = y.1 ∧ x.2 < y.2

theorem rankBefore_iff (x y : Nat × Nat) : rankBefore x y = true ↔ x.1 < y.1 ∨ x.1 = y.1 ∧ x.2 < y.2 := by simp [rankBefore]

theorem earlier_iff (x y : (Nat × Nat) × Nat) :
    earlier x y ↔ x.1.1 < y.1.1 ∨ x.1.1 = y.1.1 ∧ (x.1.2 < y.1.2 ∨ x.1.2 = y.1.2 ∧ x.2 < y.2) := by
  rw [earlier, rankBefore_iff, Prod.ext_iff]
  omega

theorem Job.rank_of_returned {j : Job} (h : j.returned = true) : j.rank = (0, 0) := by simp [rank, h]

theorem Job.rank_of_not_returned {j : Job} (h : j.returned = false) : 1 ≤ j.rank.1 := by
  unfold rank
  split
  · simp_all
  · split
    · exact le_rfl
    · split <;> simp

namespace Switch

theorem queueRank_eq (s : Switch) (q : PageId) : s.queueRank q = (s.pages.get q).standing.1 := by
  unfold queueRank Page.standing
  rw [page_def]
  cases (s.pages.get q).job <;> rfl

theorem standsBefore_iff (s : Switch) (q k : PageId) :
    s.standsBefore q k ↔ earlier (s.pages.get q).standing (s.pages.get k).standing := Iff.rfl

/-- A page placed in an ordered queue stands after every page it does not precede and before every page it precedes. -/
theorem enqueue_splits (s : Switch) (q : PageId) {l : List PageId}
    (ordered : l.Pairwise fun a b => earlier (s.pages.get a).standing (s.pages.get b).standing) :
    ∃ before after, l = before ++ after ∧ s.enqueue q l = before ++ q :: after ∧
      (∀ x ∈ before, rankBefore (s.pages.get q).standing.1 (s.pages.get x).standing.1 = false) ∧
      ∀ x ∈ after, rankBefore (s.pages.get q).standing.1 (s.pages.get x).standing.1 = true := by
  induction l with
  | nil => exact ⟨[], [], rfl, rfl, by simp, by simp⟩
  | cons x l ih =>
    obtain ⟨first, rest⟩ := List.pairwise_cons.1 ordered
    by_cases precedes : rankBefore (s.pages.get q).standing.1 (s.pages.get x).standing.1 = true
    · refine ⟨[], x :: l, rfl, by simp [enqueue, queueRank_eq, precedes], by simp, ?_⟩
      refine List.forall_mem_cons.2 ⟨precedes, fun y hy => ?_⟩
      have follows := (earlier_iff _ _).1 (first y hy)
      rw [rankBefore_iff] at precedes ⊢
      omega
    · obtain ⟨before, after, rfl, inserted, higher, lower⟩ := ih rest
      exact ⟨x :: before, after, rfl, by simp [enqueue, queueRank_eq, precedes, inserted],
        List.forall_mem_cons.2 ⟨by simpa using precedes, higher⟩, lower⟩

theorem enqueue_perm (s : Switch) (q : PageId) : ∀ l : List PageId, (s.enqueue q l).Perm (q :: l)
  | [] => .refl _
  | x :: l => by
    unfold enqueue
    split
    · exact .refl _
    · exact ((enqueue_perm s q l).cons x).trans (.swap q x l)

end Switch

/-! ### The page table and the queue -/

/-- The part of `QueueInOrder` about the page records and the queue. -/
structure PageTable (defs : Bank 128 (Option PageDef)) (pages : Bank 128 Page) (queue : List PageId) (sending : Option PageId)
    (releases : Nat) : Prop where
  queued : ∀ q, q ∈ queue ↔ (pages.get q).state = .queued
  inFlight : ∀ q, sending = some q ↔ (pages.get q).state = .sending
  jobs : ∀ q, (pages.get q).job ≠ none ↔ (pages.get q).state = .queued ∨ (pages.get q).state = .sending
  nodup : queue.Nodup
  places : queue.length + (if sending = none then 0 else 1) ≤ 32
  order : queue.Pairwise fun a b => earlier (pages.get a).standing (pages.get b).standing
  bounded : ∀ q j, (pages.get q).job = some j → j.order ≤ releases
  returned : ∀ q j, (pages.get q).job = some j → j.returned = true → queue.head? = some q ∧ sending = none
  sizes : ∀ q, (pages.get q).layout.length ≤ 16 ∧ ∀ j, (pages.get q).job = some j → j.entries.length ≤ 16
  undefined : ∀ q, defs.get q = none → pages.get q = Page.fresh

namespace PageTable

variable {defs : Bank 128 (Option PageDef)} {pages : Bank 128 Page} {queue : List PageId} {sending : Option PageId} {releases : Nat}

/-- A page with a job is defined: an undefined record is empty. -/
theorem defined_of_state (ok : PageTable defs pages queue sending releases) {q : PageId}
    (h : (pages.get q).state ≠ .making) : defs.get q ≠ none := fun undefined => h (by rw [ok.undefined q undefined]; rfl)

theorem job_of_queued (ok : PageTable defs pages queue sending releases) {q : PageId} (h : q ∈ queue) :
    ∃ j, (pages.get q).job = some j :=
  Option.ne_none_iff_exists'.1 ((ok.jobs q).2 (.inl ((ok.queued q).1 h)))

/-- One page's record replaced, with the queue and the SENDING page that go with it. -/
theorem replace (ok : PageTable defs pages queue sending releases) {q : PageId} {x : Page} {queue' : List PageId}
    {sending' : Option PageId} {releases' : Nat} (defined : defs.get q ≠ none)
    (queued : ∀ k, k ≠ q → (k ∈ queue' ↔ k ∈ queue)) (ownQueued : q ∈ queue' ↔ x.state = .queued)
    (inFlight : ∀ k, k ≠ q → (sending' = some k ↔ sending = some k)) (ownFlight : sending' = some q ↔ x.state = .sending)
    (job : x.job ≠ none ↔ x.state = .queued ∨ x.state = .sending) (nodup : queue'.Nodup)
    (places : queue'.length + (if sending' = none then 0 else 1) ≤ 32)
    (order : queue'.Pairwise fun a b => earlier ((pages.set q x).get a).standing ((pages.set q x).get b).standing)
    (more : releases ≤ releases') (ownBounded : ∀ j, x.job = some j → j.order ≤ releases')
    (returned : ∀ k, k ≠ q → queue.head? = some k → sending = none → queue'.head? = some k ∧ sending' = none ∨
      ∀ j, (pages.get k).job = some j → j.returned = false)
    (ownReturned : ∀ j, x.job = some j → j.returned = true → queue'.head? = some q ∧ sending' = none)
    (sizes : x.layout.length ≤ 16 ∧ ∀ j, x.job = some j → j.entries.length ≤ 16) :
    PageTable defs (pages.set q x) queue' sending' releases' := by
  have cases : ∀ {p : PageId → Page → Prop}, p q x → (∀ k, k ≠ q → p k (pages.get k)) → ∀ k, p k ((pages.set q x).get k) := by
    intro p own others k
    rw [Bank.get_set]
    split
    · rename_i same
      exact same ▸ own
    · rename_i other
      exact others k (Ne.symm other)
  refine ⟨?_, ?_, ?_, nodup, places, order, ?_, ?_, ?_, ?_⟩
  · exact cases (p := fun k y => k ∈ queue' ↔ y.state = .queued) ownQueued fun k hk => (queued k hk).trans (ok.queued k)
  · exact cases (p := fun k y => sending' = some k ↔ y.state = .sending) ownFlight fun k hk =>
      (inFlight k hk).trans (ok.inFlight k)
  · exact cases (p := fun _ y => y.job ≠ none ↔ y.state = .queued ∨ y.state = .sending) job fun k _ => ok.jobs k
  · exact cases (p := fun _ y => ∀ j, y.job = some j → j.order ≤ releases') ownBounded fun k _ j hj =>
      (ok.bounded k j hj).trans more
  · refine cases (p := fun k y => ∀ j, y.job = some j → j.returned = true → queue'.head? = some k ∧ sending' = none) ownReturned
      fun k hk j hj hr => ?_
    obtain ⟨first, idle⟩ := ok.returned k j hj hr
    refine (returned k hk first idle).resolve_right fun no => ?_
    rw [no j hj] at hr
    cases hr
  · exact cases (p := fun _ y => y.layout.length ≤ 16 ∧ ∀ j, y.job = some j → j.entries.length ≤ 16) sizes fun k _ => ok.sizes k
  · exact cases (p := fun k y => defs.get k = none → y = Page.fresh) (fun h => absurd h defined) fun k _ => ok.undefined k

/-- The order of a queue that a replaced page does not stand in. -/
theorem order_of_not_mem {q : PageId} {x : Page} {l : List PageId} (absent : q ∉ l)
    (order : l.Pairwise fun a b => earlier (pages.get a).standing (pages.get b).standing) :
    l.Pairwise fun a b => earlier ((pages.set q x).get a).standing ((pages.set q x).get b).standing := by
  refine order.imp_of_mem fun {a b} ha hb h => ?_
  rwa [Bank.get_set_ne _ _ (ne_of_mem_of_not_mem ha absent).symm, Bank.get_set_ne _ _ (ne_of_mem_of_not_mem hb absent).symm]

/-- The order of a queue in which a replaced page keeps its standing. -/
theorem order_of_standing {q : PageId} {x : Page} {l : List PageId} (same : x.standing = (pages.get q).standing)
    (order : l.Pairwise fun a b => earlier (pages.get a).standing (pages.get b).standing) :
    l.Pairwise fun a b => earlier ((pages.set q x).get a).standing ((pages.set q x).get b).standing := by
  have kept : ∀ k, ((pages.set q x).get k).standing = (pages.get k).standing := by
    intro k
    rw [Bank.get_set]
    split
    · rename_i e
      rw [same, e]
    · rfl
  simpa only [kept] using order

/-! ### What each operation on a page does -/

/-- A page that holds no place is released to one of its own (R122 to R125). -/
theorem release (ok : PageTable defs pages queue sending releases) {s : Switch} {q : PageId} {j : Job}
    (record : s.pages = pages.set q { pages.get q with state := .queued, job := some j }) (defined : defs.get q ≠ none)
    (notQueued : (pages.get q).state ≠ .queued) (notSending : (pages.get q).state ≠ .sending)
    (room : queue.length + (if sending = none then 0 else 1) < 32) (last : j.order = releases + 1) (fresh : j.returned = false)
    (size : j.entries.length ≤ 16) : PageTable defs s.pages (s.enqueue q queue) sending (releases + 1) := by
  have absent : q ∉ queue := fun h => notQueued ((ok.queued q).1 h)
  have perm := s.enqueue_perm q queue
  have ordered : queue.Pairwise fun a b => earlier (s.pages.get a).standing (s.pages.get b).standing := by
    rw [record]
    exact order_of_not_mem absent ok.order
  have own : (s.pages.get q).standing = (j.rank, releases + 1) := by simp [record, Page.standing, last]
  obtain ⟨before, after, split, inserted, higher, lower⟩ := s.enqueue_splits q ordered
  have sorted : (s.enqueue q queue).Pairwise fun a b => earlier (s.pages.get a).standing (s.pages.get b).standing := by
    rw [split] at ordered
    obtain ⟨hbefore, hafter, across⟩ := List.pairwise_append.1 ordered
    rw [inserted]
    refine List.pairwise_append.2 ⟨hbefore, List.pairwise_cons.2 ⟨fun y hy => .inl (lower y hy), hafter⟩, fun y hy z hz => ?_⟩
    rcases List.mem_cons.1 hz with rfl | hz
    · have hyq : y ∈ queue := split ▸ List.mem_append_left _ hy
      obtain ⟨i, hi⟩ := ok.job_of_queued hyq
      have bound := ok.bounded y i hi
      have standing : (s.pages.get y).standing = (i.rank, i.order) := by
        rw [record, Bank.get_set_ne _ _ (ne_of_mem_of_not_mem hyq absent).symm, Page.standing, hi]
      have notBefore := higher y hy
      rw [← Bool.not_eq_true, rankBefore_iff] at notBefore
      rw [own, standing] at *
      rw [earlier_iff]
      dsimp only at *
      omega
    · exact across y hy z hz
  have headKept : ∀ k, queue.head? = some k → (∃ i, (pages.get k).job = some i ∧ i.returned = true) →
      (s.enqueue q queue).head? = some k := by
    rintro k hk ⟨i, hi, hr⟩
    obtain ⟨rest, rfl⟩ := List.head?_eq_some_iff.1 hk
    have standing : (s.pages.get k).standing = ((0, 0), i.order) := by
      rw [record, Bank.get_set_ne _ _ fun e => absent (by simp [e]), Page.standing, hi]
      simp [Job.rank_of_returned hr]
    have : rankBefore (s.queueRank q) (s.queueRank k) = false := by
      rw [Switch.queueRank_eq, Switch.queueRank_eq, own, standing, ← Bool.not_eq_true, rankBefore_iff]
      simp
    simp [Switch.enqueue, this]
  rw [record] at sorted ⊢
  refine ok.replace defined (fun k hk => by simp [perm.mem_iff, hk]) (by simp [perm.mem_iff]) (fun _ _ => Iff.rfl)
    ⟨fun h => absurd ((ok.inFlight q).1 h) notSending, nofun⟩ (by simp) (perm.nodup_iff.2 (List.nodup_cons.2 ⟨absent, ok.nodup⟩))
    ?_ sorted (Nat.le_succ _) ?_ ?_ ?_ ?_
  · rw [perm.length_eq, List.length_cons]
    omega
  · rintro i ⟨⟩
    exact last.le
  · intro k _ first idle
    by_cases hr : ∃ i, (pages.get k).job = some i ∧ i.returned = true
    · exact .inl ⟨headKept k first hr, idle⟩
    · refine .inr fun i hi => ?_
      by_contra returned
      exact hr ⟨i, hi, by simpa using returned⟩
  · rintro i ⟨⟩ hr
    rw [fresh] at hr
    cases hr
  · refine ⟨(ok.sizes q).1, ?_⟩
    rintro i ⟨⟩
    exact size

/-- A page whose job ends gives up its place (R127, R129, R130). -/
theorem endJob (ok : PageTable defs pages queue sending releases) {q : PageId} {x : Page} (defined : defs.get q ≠ none)
    (idle : x.state ≠ .queued ∧ x.state ≠ .sending) (layout : x.layout = (pages.get q).layout) :
    PageTable defs (pages.set q { x with job := none }) (queue.filter fun y => y != q)
      (if sending = some q then none else sending) releases := by
  have left : (if (if sending = some q then none else sending) = none then 0 else 1) ≤ (if sending = none then 0 else 1) := by
    by_cases h : sending = some q <;> simp [h]
  refine ok.replace defined (fun k hk => by simp [hk]) (by simp [idle.1]) (fun k hk => ?_) ?_ (by simp [idle.1, idle.2])
    (ok.nodup.filter _) ?_ (order_of_not_mem (by simp) (ok.order.filter _)) le_rfl nofun (fun k hk first none => ?_) nofun
    ⟨layout ▸ (ok.sizes q).1, nofun⟩
  · by_cases h : sending = some q
    · simp [h, Ne.symm hk]
    · simp [h]
  · by_cases h : sending = some q <;> simp [h, idle.2]
  · have := List.length_filter_le (fun y => y != q) queue
    have := ok.places
    omega
  · obtain ⟨rest, rfl⟩ := List.head?_eq_some_iff.1 first
    exact .inl ⟨by simp [hk], by simp [none]⟩

/-- A QUEUED page's job replaced in place keeps its standing and its returned mark (R126). -/
theorem replaceJob (ok : PageTable defs pages queue sending releases) {q : PageId} {j i : Job}
    (old : (pages.get q).job = some j) (standing : i.rank = j.rank ∧ i.order = j.order) (returned : i.returned = j.returned)
    (size : i.entries.length ≤ 16) :
    PageTable defs (pages.set q { pages.get q with job := some i }) queue sending releases := by
  have held := (ok.jobs q).1 (by simp [old])
  have defined : defs.get q ≠ none := ok.defined_of_state (by rcases held with h | h <;> simp [h])
  refine ok.replace defined (fun _ _ => Iff.rfl) (ok.queued q) (fun _ _ => Iff.rfl) (ok.inFlight q) (by simpa using held) ok.nodup
    ok.places (order_of_standing (by simp [Page.standing, old, standing]) ok.order) le_rfl ?_ (fun k _ first idle => .inl ⟨first, idle⟩)
    ?_ ⟨(ok.sizes q).1, ?_⟩
  · rintro _ ⟨⟩
    exact standing.2 ▸ ok.bounded q j old
  · rintro _ ⟨⟩ hr
    exact ok.returned q j old (returned ▸ hr)
  · rintro _ ⟨⟩
    exact size

/-- The head of the queue goes out to be sent (R128, R141). -/
theorem start (ok : PageTable defs pages queue sending releases) {q : PageId} {rest : List PageId} {j i : Job}
    (head : queue = q :: rest) (none : sending = none) (old : (pages.get q).job = some j) (order : i.order = j.order)
    (returned : i.returned = false) (size : i.entries.length ≤ 16) :
    PageTable defs (pages.set q { pages.get q with state := .sending, job := some i }) rest (some q) releases := by
  subst head none
  have nodup := List.nodup_cons.1 ok.nodup
  have defined : defs.get q ≠ Option.none := ok.defined_of_state (by rw [(ok.queued q).1 (by simp)]; nofun)
  refine ok.replace defined (fun k hk => by simp [hk]) (by simp [nodup.1]) (fun k hk => by simp [Ne.symm hk]) (by simp) (by simp)
    nodup.2 ?_ (order_of_not_mem nodup.1 (List.pairwise_cons.1 ok.order).2) le_rfl ?_ (fun k hk first _ => ?_) ?_
    ⟨(ok.sizes q).1, ?_⟩
  · have := ok.places
    simp only [List.length_cons, if_true] at this
    simpa using this
  · rintro _ ⟨⟩
    exact order ▸ ok.bounded q j old
  · exact absurd (Option.some.inj first) (Ne.symm hk)
  · rintro _ ⟨⟩ hr
    rw [returned] at hr
    cases hr
  · rintro _ ⟨⟩
    exact size

/-- The SENDING page begins another attempt (R144, R145). -/
theorem restart (ok : PageTable defs pages queue sending releases) {q : PageId} {j i : Job} (flying : sending = some q)
    (old : (pages.get q).job = some j) (order : i.order = j.order) (returned : i.returned = false) (size : i.entries.length ≤ 16) :
    PageTable defs (pages.set q { pages.get q with state := .sending, job := some i }) queue sending releases := by
  have state := (ok.inFlight q).1 flying
  have absent : q ∉ queue := fun h => by
    rw [(ok.queued q).1 h] at state
    cases state
  refine ok.replace (ok.defined_of_state (by rw [state]; nofun)) (fun _ _ => Iff.rfl) (by simp [absent]) (fun _ _ => Iff.rfl)
    (by simp [flying]) (by simp) ok.nodup ok.places (order_of_not_mem absent ok.order) le_rfl ?_
    (fun k _ first idle => .inl ⟨first, idle⟩) ?_ ⟨(ok.sizes q).1, ?_⟩
  · rintro _ ⟨⟩
    exact order ▸ ok.bounded q j old
  · rintro _ ⟨⟩ hr
    rw [returned] at hr
    cases hr
  · rintro _ ⟨⟩
    exact size

/-- The SENDING page goes back to the head of the queue with its returned mark (R128, R145). -/
theorem comeBack (ok : PageTable defs pages queue sending releases) {q : PageId} {j i : Job} (flying : sending = some q)
    (old : (pages.get q).job = some j) (order : i.order = j.order) (returned : i.returned = true) (size : i.entries.length ≤ 16) :
    PageTable defs (pages.set q { pages.get q with state := .queued, job := some i }) (q :: queue) none releases := by
  have state := (ok.inFlight q).1 flying
  have absent : q ∉ queue := fun h => by
    rw [(ok.queued q).1 h] at state
    cases state
  refine ok.replace (ok.defined_of_state (by rw [state]; nofun)) (fun k hk => by simp [hk]) (by simp)
    (fun k hk => by simp [flying, Ne.symm hk]) (by simp) (by simp) (List.nodup_cons.2 ⟨absent, ok.nodup⟩) ?_
    (List.pairwise_cons.2 ⟨fun y hy => ?_, order_of_not_mem absent ok.order⟩) le_rfl ?_
    (fun _ _ _ idle => absurd (flying.symm.trans idle) nofun) (fun _ _ _ => ⟨rfl, rfl⟩) ⟨(ok.sizes q).1, ?_⟩
  · have := ok.places
    simp only [flying, reduceCtorEq, if_false] at this
    simpa using this
  · obtain ⟨k, hk⟩ := ok.job_of_queued hy
    have later : k.returned = false := by
      by_contra hr
      have := (ok.returned y k hk (by simpa using hr)).2
      rw [flying] at this
      cases this
    have rank := Job.rank_of_not_returned later
    refine .inl ?_
    rw [Bank.get_set_same, Bank.get_set_ne _ _ (ne_of_mem_of_not_mem hy absent).symm, rankBefore_iff]
    simp only [Page.standing, hk, Job.rank_of_returned returned]
    omega
  · rintro _ ⟨⟩
    exact order ▸ ok.bounded q j old
  · rintro _ ⟨⟩
    exact size

/-- A page's layout replaced (R120, R121). -/
theorem layOut (ok : PageTable defs pages queue sending releases) {q : PageId} {layout : List Placement}
    (defined : defs.get q ≠ none) (size : layout.length ≤ 16) :
    PageTable defs (pages.set q { pages.get q with layout := layout }) queue sending releases :=
  ok.replace defined (fun _ _ => Iff.rfl) (ok.queued q) (fun _ _ => Iff.rfl) (ok.inFlight q) (ok.jobs q) ok.nodup ok.places
    (order_of_standing rfl ok.order) le_rfl (ok.bounded q) (fun _ _ first idle => .inl ⟨first, idle⟩) (ok.returned q)
    ⟨size, (ok.sizes q).2⟩

end PageTable

end Sys2Proof.Machine
end

section
/-! SUPPORT. The release queue in order, as the page table, the page in flight and start-up together; and what the operations on pages,
links and channels do to it (spec/06 to spec/08). -/

namespace Sys2Proof.Machine

theorem LinkId.eq_or_other (l m : LinkId) : m = l ∨ m = l.other := by cases l <;> cases m <;> simp [LinkId.other]

theorem LinkId.other_ne (l : LinkId) : l.other ≠ l := by cases l <;> nofun

/-- The page in flight on the active link, whose engine alone may be busy (R137). -/
structure Flight (links : PerLink Link) (active : LinkId) (flying : Option PageId) : Prop where
  page : (links.get active).page = flying
  busy : (links.get active).page ≠ none ↔ (links.get active).engine = .presenting ∨ (links.get active).engine = .awaiting
  otherPage : (links.get active.other).page = none
  otherIdle : (links.get active.other).engine = .idle

namespace Flight

variable {links : PerLink Link} {active : LinkId} {flying : Option PageId}

theorem active_of_busy (ok : Flight links active flying) {l : LinkId} (h : (links.get l).engine ≠ .idle) : l = active :=
  (LinkId.eq_or_other active l).resolve_right fun e => h (e ▸ ok.otherIdle)

theorem active_of_page (ok : Flight links active flying) {l : LinkId} (h : (links.get l).page ≠ none) : l = active :=
  (LinkId.eq_or_other active l).resolve_right fun e => h (e ▸ ok.otherPage)

theorem none_of_not_busy (ok : Flight links active flying)
    (h : (links.get active).engine ≠ .presenting ∧ (links.get active).engine ≠ .awaiting) : flying = none := by
  by_contra flight
  rcases ok.busy.1 (ok.page ▸ flight) with e | e
  · exact h.1 e
  · exact h.2 e

/-- An IDLE engine on the active link leaves no page in flight, and either link may become the active one. -/
theorem activate (ok : Flight links active flying) (idle : (links.get active).engine = .idle) (l : LinkId) :
    Flight links l flying := by
  have none := ok.none_of_not_busy (by simp [idle])
  have allIdle : ∀ m, (links.get m).engine = .idle := fun m =>
    (LinkId.eq_or_other active m).elim (fun e => e ▸ idle) fun e => e ▸ ok.otherIdle
  have allNone : ∀ m, (links.get m).page = Option.none := fun m =>
    (LinkId.eq_or_other active m).elim (fun e => e ▸ ok.page.trans none) fun e => e ▸ ok.otherPage
  exact ⟨(allNone l).trans none.symm, by simp [allNone, allIdle], allNone _, allIdle _⟩

/-- A link's record replaced by one with the same page and engine. -/
theorem setLink (ok : Flight links active flying) (l : LinkId) {x : Link} (page : x.page = (links.get l).page)
    (engine : x.engine = (links.get l).engine) : Flight (links.set l x) active flying := by
  have samePage : ∀ m, ((links.set l x).get m).page = (links.get m).page := by
    intro m
    rw [PerLink.get_set]
    split
    · rename_i e
      rw [page, e]
    · rfl
  have sameEngine : ∀ m, ((links.set l x).get m).engine = (links.get m).engine := by
    intro m
    rw [PerLink.get_set]
    split
    · rename_i e
      rw [engine, e]
    · rfl
  exact ⟨by rw [samePage, ok.page], by rw [samePage, sameEngine]; exact ok.busy, by rw [samePage, ok.otherPage],
    by rw [sameEngine, ok.otherIdle]⟩

/-- The active link's record replaced, with the page it then has in flight. -/
theorem setActive (ok : Flight links active flying) {x : Link} (busy : x.page ≠ none ↔ x.engine = .presenting ∨ x.engine = .awaiting) :
    Flight (links.set active x) active x.page :=
  ⟨by simp, by simpa using busy, by simpa using ok.otherPage, by simpa using ok.otherIdle⟩

end Flight

namespace Switch

/-- The queue in order, with a page in flight that the SENDING page may have left behind in the middle of an event. -/
structure QueueWith (s : Switch) (flying : Option PageId) : Prop where
  table : PageTable s.groups.clock.pages s.pages s.queue s.sending s.releases
  flight : Flight s.links s.active flying
  up : (s.links.get s.active).engine ≠ .idle → (s.links.get s.active).state = .up
  off : ∀ l, s.groups.feed.enable.get l = false → (s.links.get l).state = .off
  startUp : s.starting = true → s.clock.running = false ∧ s.queue = [] ∧ s.sending = none ∧
    ∀ l, (s.links.get l).state = .off ∧ (s.links.get l).engine = .idle

theorem queueInOrder_iff (s : Switch) : s.QueueInOrder ↔ s.QueueWith s.sending := by
  constructor
  · rintro ⟨queued, sending, jobs, ⟨nodup, places⟩, order, releases, returned, sizes, undefined, flight, engines, off, startUp⟩
    refine ⟨⟨queued, sending, jobs, nodup, places, order, releases, returned, sizes, undefined⟩, ⟨?_, (engines _).1, ?_, ?_⟩,
      fun h => ((engines _).2 h).2, off, startUp⟩
    · exact Option.ext fun q => (flight s.active q).trans (and_iff_left rfl)
    · exact Option.eq_none_iff_forall_ne_some.2 fun q h => LinkId.other_ne _ ((flight _ q).1 h).2
    · by_contra h
      exact LinkId.other_ne _ ((engines _).2 h).1
  · rintro ⟨⟨queued, sending, jobs, nodup, places, order, releases, returned, sizes, undefined⟩, ⟨page, busy, otherPage, otherIdle⟩,
      up, off, startUp⟩
    refine ⟨queued, sending, jobs, ⟨nodup, places⟩, order, releases, returned, sizes, undefined, fun l q => ?_, fun l => ?_, off, startUp⟩
    all_goals rcases LinkId.eq_or_other s.active l with rfl | rfl
    · rw [page]
      exact (and_iff_left rfl).symm
    · simp [otherPage, LinkId.other_ne]
    · exact ⟨busy, fun h => ⟨rfl, up h⟩⟩
    · simp [otherPage, otherIdle]

/-- What the order of the queue reads, as it was. -/
structure QueueFrame (s t : Switch) : Prop where
  defs : t.groups.clock.pages = s.groups.clock.pages
  pages : t.pages = s.pages
  queue : t.queue = s.queue
  sending : t.sending = s.sending
  releases : t.releases = s.releases
  links : t.links = s.links
  active : t.active = s.active
  enable : t.groups.feed.enable = s.groups.feed.enable
  starting : t.starting = s.starting
  running : t.clock.running = s.clock.running

theorem QueueFrame.of_desk {s t : Switch} (h : DeskFrame s t) : QueueFrame s t where
  defs := by rw [h.groups]
  pages := h.pages
  queue := h.queue
  sending := h.sending
  releases := h.releases
  links := h.links
  active := h.active
  enable := by rw [h.groups]
  starting := h.starting
  running := by rw [h.clock]

theorem QueueFrame.of_story {s t : Switch} (h : StoryFrame s t) : QueueFrame s t := .of_desk (.of_story h)

namespace QueueWith

variable {s t : Switch} {flying : Option PageId}

theorem frame (ok : s.QueueWith flying) (h : QueueFrame s t) : t.QueueWith flying := by
  obtain ⟨table, flight, up, off, startUp⟩ := ok
  refine ⟨?_, ?_, ?_, ?_, ?_⟩
  all_goals simp only [h.defs, h.pages, h.queue, h.sending, h.releases, h.links, h.active, h.enable, h.starting, h.running]
  all_goals assumption

theorem desk (ok : s.QueueWith flying) (h : DeskFrame s t) : t.QueueWith flying := ok.frame (.of_desk h)

theorem story (ok : s.QueueWith flying) (h : StoryFrame s t) : t.QueueWith flying := ok.frame (.of_story h)

theorem post (ok : s.QueueWith flying) (n : Notice) (who : PortId → Bool) : (s.post n who).QueueWith flying :=
  ok.story (post_frame _ _ _)

theorem answer (ok : s.QueueWith flying) (h : Head) (code : Code) (values : List Byte) :
    (s.answer h code values).QueueWith flying := ok.desk (desk_answer _ _ _ _)

/-- While start-up runs no link is on and no page waits (R98, R153). -/
theorem live_of_on (ok : s.QueueWith flying) {l : LinkId} (h : (s.links.get l).state ≠ .off) : s.starting = false := by
  by_contra on
  exact h (((ok.startUp (by simpa using on)).2.2.2 l).1)

theorem live_of_busy (ok : s.QueueWith flying) {l : LinkId} (h : (s.links.get l).engine ≠ .idle) : s.starting = false := by
  by_contra on
  exact h (((ok.startUp (by simpa using on)).2.2.2 l).2)

theorem live_of_running (ok : s.QueueWith flying) (h : s.clock.running = true) : s.starting = false := by
  by_contra on
  rw [(ok.startUp (by simpa using on)).1] at h
  cases h

theorem live_of_sending (ok : s.QueueWith flying) {q : PageId} (h : s.sending = some q) : s.starting = false := by
  by_contra on
  rw [(ok.startUp (by simpa using on)).2.2.1] at h
  cases h

/-- Outside start-up its clause asks nothing. -/
theorem of_live (live : t.starting = false) (table : PageTable t.groups.clock.pages t.pages t.queue t.sending t.releases)
    (flight : Flight t.links t.active flying) (up : (t.links.get t.active).engine ≠ .idle → (t.links.get t.active).state = .up)
    (off : ∀ l, t.groups.feed.enable.get l = false → (t.links.get l).state = .off) : t.QueueWith flying :=
  ⟨table, flight, up, off, fun starting => by rw [live] at starting; cases starting⟩

end QueueWith

/-! ### Pages released (R122 to R126, R131) -/

/-- The job that a release forms from a snapshot (R124). -/
def releaseJob (s : Switch) (d : PageDef) (rush : Bool) (entries : List Entry) : Job :=
  { entries := entries, edition := s.clock.edition, length := jobLength entries, rush := rush, key := s.queueKey d,
    order := s.releases + 1, attempts := 0, stamp := s.wall, returned := false, label := d.label, owner := d.owner,
    binding := d.binding }

/-- The switch with a page's record as a release leaves it, and the queue as it was. -/
def releasing (s : Switch) (q : PageId) (d : PageDef) (rush : Bool) : Switch :=
  { s with
    slots := (s.snapshot (s.page q).layout).1.slots
    releases := s.releases + 1
    pages := s.pages.set q
      { s.page q with state := .queued, job := some (s.releaseJob d rush (s.snapshot (s.page q).layout).2) } }

theorem snapshot_fst (s : Switch) (l : List Placement) : (s.snapshot l).1 = { s with slots := (s.snapshot l).1.slots } := by
  obtain ⟨slots, e⟩ := snapshot_eq l s
  rw [e]

/-- A snapshot has one entry for each placement (R123). -/
theorem snapshot_length (l : List Placement) : ∀ s : Switch, (s.snapshot l).2.length = l.length := by
  induction l with
  | nil => exact fun _ => rfl
  | cons pl l ih =>
    intro s
    simp only [snapshot, List.length_cons, ih]

theorem releasePage_eq_releasing (s : Switch) (q : PageId) (d : PageDef) (rush : Bool) :
    s.releasePage q d rush = { s.releasing q d rush with queue := (s.releasing q d rush).enqueue q s.queue } := by
  have e := s.snapshot_fst (s.page q).layout
  unfold releasePage releasing
  rcases hs : s.snapshot (s.page q).layout with ⟨w, entries⟩
  rw [hs] at e
  dsimp only at e ⊢
  rw [e]
  rfl

theorem releasing_page_ne (s : Switch) {q k : PageId} (d : PageDef) (rush : Bool) (h : k ≠ q) :
    (s.releasePage q d rush).pages.get k = s.pages.get k := by
  rw [releasePage_eq_releasing]
  exact Bank.get_set_ne _ _ (Ne.symm h)

namespace QueueWith

variable {s t : Switch} {flying : Option PageId}

theorem releasePage (ok : s.QueueWith flying) {q : PageId} {d : PageDef} (rush : Bool) (live : s.starting = false)
    (defined : s.pageDef q = some d) (notQueued : (s.page q).state ≠ .queued) (notSending : (s.page q).state ≠ .sending)
    (room : s.placesHeld < Config.queuePlaces) : (s.releasePage q d rush).QueueWith flying := by
  rw [releasePage_eq_releasing]
  refine of_live live ?_ ok.flight ok.up ok.off
  refine ok.table.release (s := s.releasing q d rush) rfl (by rw [← pageDef_def, defined]; nofun) notQueued notSending ?_ rfl rfl ?_
  · unfold placesHeld at room
    cases hs : s.sending <;> simpa [hs] using room
  · rw [releaseJob, snapshot_length]
    exact (ok.table.sizes q).1

theorem autoReleasePage (ok : s.QueueWith flying) (c : ChannelId) {q : PageId} (live : s.starting = false)
    (notQueued : (s.page q).state ≠ .queued) (notSending : (s.page q).state ≠ .sending) :
    (autoReleasePage c s q).QueueWith flying := by
  unfold Switch.autoReleasePage
  split
  · exact ok
  · rename_i d hd
    split
    · rename_i room
      exact ok.releasePage false live hd notQueued notSending room
    · exact ok.post _ _

end QueueWith

theorem autoReleasePage_page_ne (c : ChannelId) (s : Switch) {q k : PageId} (h : k ≠ q) :
    (autoReleasePage c s q).pages.get k = s.pages.get k := by
  unfold autoReleasePage
  split
  · rfl
  · split
    · exact releasing_page_ne _ _ _ h
    · rfl

/-- An automatic release selects no page twice. -/
theorem autoSelected_nodup (s : Switch) (c : ChannelId) (reference : Nat) : (s.autoSelected c reference).Nodup :=
  (((Bank.indices_pairwise_lt _ _).imp fun h => Fin.ne_of_lt h).filter _).filter _

theorem state_of_mem_autoSelected {s : Switch} {c : ChannelId} {reference : Nat} {q : PageId} (h : q ∈ s.autoSelected c reference) :
    (s.page q).state = .making ∨ (s.page q).state = .faulted := by
  have := (List.mem_filter.1 h).2
  simp only [Bool.and_eq_true, Bool.or_eq_true, beq_iff_eq] at this
  exact this.1

namespace QueueWith

variable {s t : Switch} {flying : Option PageId}

theorem autoRelease (ok : s.QueueWith flying) (c : ChannelId) (reference : Nat) (live : s.starting = false) :
    (s.autoRelease c reference).QueueWith flying := by
  have free : ∀ q ∈ s.autoSelected c reference, (s.page q).state ≠ .queued ∧ (s.page q).state ≠ .sending := fun q hq => by
    rcases state_of_mem_autoSelected hq with h | h <;> simp [h]
  have nodup := s.autoSelected_nodup c reference
  unfold Switch.autoRelease
  generalize s.autoSelected c reference = l at free nodup
  induction l generalizing s with
  | nil => exact ok
  | cons q l ih =>
    obtain ⟨absent, nodup⟩ := List.nodup_cons.1 nodup
    obtain ⟨slots, boxes, pages, queue, releases, e⟩ := autoReleasePage_eq c s q
    have own := free q List.mem_cons_self
    refine ih (ok.autoReleasePage c live own.1 own.2) (by rw [e]; exact live) (fun k hk => ?_) nodup
    rw [page_def, autoReleasePage_page_ne c s (ne_of_mem_of_not_mem hk absent)]
    exact free k (List.mem_cons_of_mem _ hk)

theorem setChannel (ok : s.QueueWith flying) (c : ChannelId) (x : Channel) : (s.setChannel c x).QueueWith flying :=
  ok.frame (by constructor <;> rfl)

theorem takeMatch (ok : s.QueueWith flying) (c : ChannelId) (live : s.starting = false) :
    (takeMatch c s).QueueWith flying := by
  unfold Switch.takeMatch
  dsimp only
  split
  · split
    · exact ok.setChannel _ _
    · split
      · exact ((ok.setChannel _ _).post _ _).autoRelease c _ live
      · exact (ok.setChannel _ _).post _ _
  · exact ok

theorem matchIfDue (ok : s.QueueWith flying) (c : ChannelId) : (matchIfDue c s).QueueWith flying := by
  unfold Switch.matchIfDue
  split
  · rename_i due
    simp only [matchDue, Bool.and_eq_true] at due
    exact ok.takeMatch c (ok.live_of_running due.1.1)
  · exact ok

theorem setActive (ok : s.QueueWith flying) (c : ChannelId) (deadline : Nat) : (s.setActive c deadline).QueueWith flying := by
  unfold Switch.setActive
  dsimp only
  split
  · exact ok
  · exact (ok.setChannel _ _).matchIfDue c

theorem foldl {f : Switch → α → Switch} (h : ∀ s, s.QueueWith flying → ∀ a, (f s a).QueueWith flying) (l : List α)
    (ok : s.QueueWith flying) : (l.foldl f s).QueueWith flying := by
  induction l generalizing s with
  | nil => exact ok
  | cons a l ih => exact ih (h s ok a)

/-- A page re-released in place keeps its place, rush flag, queue key, release order and returned mark (R126). -/
theorem reRelease (ok : s.QueueWith flying) {q : PageId} {d : PageDef} {old : Job} (held : (s.page q).job = some old) :
    (s.reRelease q d old).QueueWith flying := by
  unfold Switch.reRelease
  dsimp only
  have released : (s.releasePins old.entries).QueueWith flying := ok.story (releasePins_frame s old.entries)
  have pages := (releasePins_frame s old.entries).pages
  generalize s.releasePins old.entries = w at released pages
  have shape := w.snapshot_fst (w.page q).layout
  have snapped : ((w.snapshot (w.page q).layout).1).QueueWith flying := by
    rw [shape]
    exact released.frame (by constructor <;> rfl)
  have length := w.snapshot_length (w.page q).layout
  have pages' : (w.snapshot (w.page q).layout).1.pages = s.pages := by
    rw [shape]
    exact pages
  have size := (released.table.sizes q).1
  generalize w.snapshot (w.page q).layout = snap at snapped length pages'
  obtain ⟨v, entries⟩ := snap
  dsimp only at snapped length pages' ⊢
  refine { snapped with table := ?_ }
  refine snapped.table.replaceJob (j := old) ?_ ⟨rfl, rfl⟩ rfl (length.trans_le size)
  rw [pages']
  exact held

/-! ### Jobs that end (R127, R129, R130) -/

theorem endJob (ok : s.QueueWith flying) {q : PageId} {x : Page} (defined : s.groups.clock.pages.get q ≠ none)
    (idle : x.state ≠ .queued ∧ x.state ≠ .sending) (layout : x.layout = (s.pages.get q).layout) :
    (s.endJob q x).QueueWith flying := by
  unfold Switch.endJob
  refine QueueWith.story ?_ (releasePins_frame _ _)
  refine ⟨ok.table.endJob defined idle layout, ok.flight, ok.up, ok.off, fun starting => ?_⟩
  obtain ⟨stopped, empty, none, links⟩ := ok.startUp starting
  exact ⟨stopped, by simp [setPage, empty], by simp [setPage, none], links⟩

theorem faultPage (ok : s.QueueWith flying) {q : PageId} (r : Reason) (defined : s.groups.clock.pages.get q ≠ none) :
    (s.faultPage q r).QueueWith flying :=
  (ok.endJob (x := { s.page q with state := .faulted }) defined ⟨by nofun, by nofun⟩ rfl).post _ _

theorem judgeGroups (ok : s.QueueWith flying) (before : Switch) : (s.judgeGroups before).QueueWith flying :=
  ok.frame (by constructor <;> rfl)

theorem completePage (ok : s.QueueWith flying) {q : PageId} (defined : s.groups.clock.pages.get q ≠ none) :
    (s.completePage q).QueueWith flying := by
  refine QueueWith.judgeGroups (QueueWith.post (ok.endJob defined ?_ (by rfl)) _ _) s
  dsimp only
  split <;> simp

/-! ### Links -/

/-- A link's record replaced by one with the same page and engine, its state kept within R135. -/
theorem setLink (ok : s.QueueWith flying) (l : LinkId) {x : Link} (page : x.page = (s.links.get l).page)
    (engine : x.engine = (s.links.get l).engine) (up : x.engine ≠ .idle → x.state = .up)
    (off : s.groups.feed.enable.get l = false → x.state = .off) (startUp : s.starting = true → x.state = .off) :
    (s.setLink l x).QueueWith flying := by
  refine ⟨ok.table, ok.flight.setLink l page engine, ?_, fun m hm => ?_, fun starting => ?_⟩
  · simp only [setLink_fields, PerLink.get_set]
    split
    · exact up
    · exact ok.up
  · simp only [setLink_fields, PerLink.get_set]
    split
    · rename_i e
      exact off (e ▸ hm)
    · exact ok.off m hm
  · obtain ⟨stopped, empty, none, links⟩ := ok.startUp starting
    refine ⟨stopped, empty, none, fun m => ?_⟩
    simp only [setLink_fields, PerLink.get_set]
    split
    · rename_i e
      exact ⟨startUp starting, engine ▸ (links l).2⟩
    · exact links m

/-- The active link's record replaced while it is UP, or by one with its engine IDLE. -/
theorem setActiveLink (ok : s.QueueWith flying) {x : Link} (live : s.starting = false)
    (busy : x.page ≠ none ↔ x.engine = .presenting ∨ x.engine = .awaiting) (up : x.engine ≠ .idle → x.state = .up)
    (off : s.groups.feed.enable.get s.active = false → x.state = .off) : (s.setLink s.active x).QueueWith x.page := by
  refine of_live live ok.table (ok.flight.setActive busy) (by simpa using up) fun m hm => ?_
  simp only [setLink_fields, PerLink.get_set]
  split
  · rename_i e
    exact off (e ▸ hm)
  · exact ok.off m hm

theorem activate (ok : s.QueueWith flying) (idle : (s.link s.active).engine = .idle) (l : LinkId) :
    (s.activate l).QueueWith flying := by
  have flight := ok.flight.activate idle l
  have allIdle : ∀ m, (s.links.get m).engine = .idle := fun m =>
    (LinkId.eq_or_other s.active m).elim (fun e => e ▸ idle) fun e => e ▸ ok.flight.otherIdle
  exact ⟨ok.table, flight, fun h => absurd (allIdle l) h, ok.off, ok.startUp⟩

theorem postLink (ok : s.QueueWith flying) (k : NoticeKind) (u : Urgency) (l : LinkId) (q : Option PageId) :
    (s.postLink k u l q).QueueWith flying := ok.post _ _

theorem failOver (ok : s.QueueWith flying) (idle : (s.link s.active).engine = .idle) (l : LinkId) (q : Option PageId) :
    (s.failOver l q).QueueWith flying := by
  unfold Switch.failOver
  split
  · exact (ok.activate idle _).postLink _ _ _ _
  · exact ok.postLink _ _ _ _

theorem takeOver (ok : s.QueueWith flying) (l : LinkId) : (s.takeOver l).QueueWith flying := by
  unfold Switch.takeOver
  split
  · rename_i h
    have idle : (s.link s.active).engine = .idle := by
      by_contra busy
      exact h.2 (ok.up busy)
    dsimp only
    split
    all_goals exact (ok.activate idle _).postLink _ _ _ _
  · exact ok

theorem returnHome (ok : s.QueueWith flying) : s.returnHome.QueueWith flying := by
  unfold Switch.returnHome
  dsimp only
  split
  · rename_i h
    exact (ok.activate h.2.2 _).postLink _ _ _ _
  · exact ok

/-- An engine runs on an UP link alone (R135, R137). -/
theorem up_of_busy (ok : s.QueueWith flying) {l : LinkId} (busy : (s.links.get l).engine ≠ .idle) : (s.links.get l).state = .up := by
  have active := ok.flight.active_of_busy busy
  subst active
  exact ok.up busy

theorem idle_of_not_up (ok : s.QueueWith flying) {l : LinkId} (h : (s.links.get l).state ≠ .up) : (s.links.get l).engine = .idle := by
  by_contra busy
  exact h (ok.up_of_busy busy)

/-- A link that is on and has its engine IDLE is turned DOWN (R136). -/
theorem lowerLink (ok : s.QueueWith flying) {l : LinkId} (idle : (s.link l).engine = .idle) (on : (s.link l).state ≠ .off) :
    (s.setLink l { s.link l with state := .down }).QueueWith flying :=
  ok.setLink l rfl rfl (up := fun h => absurd idle h) (off := fun h => absurd (ok.off l h) on)
    (startUp := fun h => by rw [ok.live_of_on on] at h; cases h)

/-- A link that is on and has its engine IDLE goes DOWN (R136, R138). -/
theorem dropLink (ok : s.QueueWith flying) {l : LinkId} (idle : (s.link l).engine = .idle) (on : (s.link l).state ≠ .off) :
    (s.dropLink l).QueueWith flying := by
  have dropped := ok.lowerLink idle on
  unfold Switch.dropLink
  dsimp only
  split
  · rename_i e
    refine dropped.failOver ?_ _ _
    have active : s.active = l := e
    simp [link_def, active]
    exact idle
  · exact dropped

theorem engineIdled (ok : s.QueueWith flying) {l : LinkId} (idle : (s.link l).engine = .idle) :
    (s.engineIdled l).QueueWith flying := by
  unfold Switch.engineIdled
  refine QueueWith.returnHome ?_
  split
  · rename_i h
    exact ok.dropLink idle (by rw [h.2]; nofun)
  · exact ok

end QueueWith

end Switch
end Sys2Proof.Machine
end

section
/-! SUPPORT. The order of the release queue under the clock's turns and the page commands (spec/06, spec/07). -/

namespace Sys2Proof.Machine

namespace PageTable

variable {defs : Bank 128 (Option PageDef)} {pages : Bank 128 Page} {queue : List PageId} {sending : Option PageId} {releases : Nat}

/-- No page waits and no page has a job. -/
theorem empty (idle : ∀ q, (pages.get q).state ≠ .queued ∧ (pages.get q).state ≠ .sending ∧ (pages.get q).job = none)
    (sizes : ∀ q, (pages.get q).layout.length ≤ 16) (undefined : ∀ q, defs.get q = none → pages.get q = Page.fresh) :
    PageTable defs pages [] none releases where
  queued q := by simp [(idle q).1]
  inFlight q := by simp [(idle q).2.1]
  jobs q := by simp [idle q]
  nodup := .nil
  places := by simp
  order := .nil
  bounded q j h := by simp [(idle q).2.2] at h
  returned q j h := by simp [(idle q).2.2] at h
  sizes q := ⟨sizes q, fun j h => by simp [(idle q).2.2] at h⟩
  undefined := undefined

/-- Other definitions that leave no record behind. -/
theorem redefine (ok : PageTable defs pages queue sending releases) {defs' : Bank 128 (Option PageDef)}
    (undefined : ∀ q, defs'.get q = none → pages.get q = Page.fresh) : PageTable defs' pages queue sending releases :=
  { ok with undefined := undefined }

/-- Records that change at most between the states of a page with no job. -/
theorem restate (ok : PageTable defs pages queue sending releases) {pages' : Bank 128 Page}
    (job : ∀ q, (pages'.get q).job = (pages.get q).job) (layout : ∀ q, (pages'.get q).layout = (pages.get q).layout)
    (queued : ∀ q, (pages'.get q).state = .queued ↔ (pages.get q).state = .queued)
    (inFlight : ∀ q, (pages'.get q).state = .sending ↔ (pages.get q).state = .sending)
    (fresh : ∀ q, pages.get q = Page.fresh → pages'.get q = Page.fresh) : PageTable defs pages' queue sending releases where
  queued q := (ok.queued q).trans (queued q).symm
  inFlight q := (ok.inFlight q).trans (inFlight q).symm
  jobs q := by rw [job, queued, inFlight]; exact ok.jobs q
  nodup := ok.nodup
  places := ok.places
  order := by simpa only [Page.standing, job] using ok.order
  bounded q j h := ok.bounded q j (job q ▸ h)
  returned q j h := ok.returned q j (job q ▸ h)
  sizes q := ⟨layout q ▸ (ok.sizes q).1, fun j h => (ok.sizes q).2 j (job q ▸ h)⟩
  undefined q h := fresh q (ok.undefined q h)

/-- A page in MAKING is undefined: its record starts anew. -/
theorem clear (ok : PageTable defs pages queue sending releases) {q : PageId} (making : (pages.get q).state = .making) :
    PageTable (defs.set q none) (pages.set q Page.fresh) queue sending releases := by
  have free : ∀ k, k ≠ q → (pages.set q Page.fresh).get k = pages.get k := fun k hk => Bank.get_set_ne _ _ (Ne.symm hk)
  have absent : q ∉ queue := fun h => by
    rw [(ok.queued q).1 h] at making
    cases making
  have idle : sending ≠ some q := fun h => by
    rw [(ok.inFlight q).1 h] at making
    cases making
  by_cases defined : defs.get q = none
  · have same : pages.set q Page.fresh = pages := by rw [← ok.undefined q defined, Bank.set_get]
    rw [same]
    refine ok.redefine fun k hk => ?_
    by_cases e : q = k
    · exact e ▸ ok.undefined q defined
    · exact ok.undefined k (by rwa [Bank.get_set_ne _ _ e] at hk)
  · refine (ok.replace defined (x := Page.fresh) (fun _ _ => Iff.rfl) (by simp [absent, Page.fresh]) (fun _ _ => Iff.rfl)
      (by simp [idle, Page.fresh]) (by simp [Page.fresh]) ok.nodup ok.places (order_of_not_mem absent ok.order) le_rfl nofun
      (fun _ _ first none => .inl ⟨first, none⟩) nofun ⟨Nat.zero_le _, nofun⟩).redefine fun k hk => ?_
    by_cases e : q = k
    · rw [← e, Bank.get_set_same]
    · rw [Bank.get_set_ne _ _ e] at hk ⊢
      exact ok.undefined k hk

end PageTable

namespace Switch

/-! ### The page in flight and start-up, kept by what releases pages -/

/-- The update leaves the SENDING page as it was, and starts or ends no start-up. -/
structure Going (s t : Switch) : Prop where
  sending : t.sending = s.sending
  starting : t.starting = s.starting

namespace Going

theorem refl (s : Switch) : Going s s := ⟨rfl, rfl⟩

theorem trans {s t u : Switch} (a : Going s t) (b : Going t u) : Going s u := ⟨b.1.trans a.1, b.2.trans a.2⟩

theorem foldl {f : Switch → α → Switch} (h : ∀ s a, Going s (f s a)) (l : List α) (s : Switch) : Going s (l.foldl f s) := by
  induction l generalizing s with
  | nil => exact refl s
  | cons a l ih => exact (h s a).trans (ih _)

theorem of_desk {s t : Switch} (h : DeskFrame s t) : Going s t := ⟨h.sending, h.starting⟩

theorem of_story {s t : Switch} (h : StoryFrame s t) : Going s t := of_desk (.of_story h)

end Going

theorem going_autoRelease (s : Switch) (c : ChannelId) (reference : Nat) : Going s (s.autoRelease c reference) := by
  obtain ⟨_, _, _, _, _, e⟩ := autoRelease_eq s c reference
  rw [e]
  exact ⟨rfl, rfl⟩

theorem going_matchIfDue (c : ChannelId) (s : Switch) : Going s (matchIfDue c s) := by
  unfold matchIfDue
  split
  · obtain ⟨_, _, _, _, _, e⟩ := takeMatch_eq c s
    rw [e]
    exact ⟨rfl, rfl⟩
  · exact .refl s

theorem going_setActive (s : Switch) (c : ChannelId) (deadline : Nat) : Going s (s.setActive c deadline) := by
  unfold setActive
  dsimp only
  split
  · exact .refl s
  · exact Going.trans (t := s.setChannel c _) ⟨rfl, rfl⟩ (going_matchIfDue c _)

theorem going_turnChannel (ended : Nat) (s : Switch) (c : ChannelId) : Going s (turnChannel ended s c) := by
  unfold turnChannel
  dsimp only
  split
  · exact Going.trans (t := s.setChannel c _) ⟨rfl, rfl⟩ (going_autoRelease _ c ended)
  · exact ⟨rfl, rfl⟩

/-- The turn's first part: the clock's, and EDITION_TURNED (R100). -/
def beginTurn (s : Switch) : Switch :=
  let w : Switch := { s with
    clock := { s.clock with ticks := 0, edition := editionAfter s.clock.edition, activeLength := s.groups.clock.editionLength } }
  w.post { w.notice .editionTurned .priority with edition := some w.clock.edition } fun p => !w.isDetached p

/-- Its third part, the directory's: every SPIKED story is to be purged (R18). -/
def purgeSpiked (s : Switch) : Switch := (s.slots.indices spikedSlot).foldl requestPurge s

/-- Its last part, the page table's: SENT becomes MAKING (R132). -/
def forgetSent (s : Switch) : Switch :=
  { s with pages := s.pages.map fun x => if x.state = .sent then { x with state := .making } else x }

/-- The turn in its parts; the second is that of the channels (R113). -/
theorem turnEdition_eq (s : Switch) :
    s.turnEdition = ((allBelow 16).foldl (turnChannel s.clock.edition) s.beginTurn).purgeSpiked.forgetSent := rfl

theorem going_turnEdition (s : Switch) : Going s s.turnEdition := by
  rw [turnEdition_eq]
  have begun : Going s s.beginTurn := ⟨rfl, rfl⟩
  have purged (w : Switch) : Going w w.purgeSpiked := Going.foldl (fun s i => .of_story (requestPurge_frame s i)) _ w
  have forgot (w : Switch) : Going w w.forgetSent := ⟨rfl, rfl⟩
  exact begun.trans ((Going.foldl (going_turnChannel _) _ _).trans ((purged _).trans (forgot _)))

theorem reRelease_sending (s : Switch) (q : PageId) (d : PageDef) (old : Job) : (s.reRelease q d old).sending = s.sending := by
  unfold reRelease
  dsimp only
  have shape := (s.releasePins old.entries).snapshot_fst ((s.releasePins old.entries).page q).layout
  simp only [setPage_fields]
  rw [shape]
  exact (releasePins_frame s old.entries).sending

namespace QueueInOrder

variable {s t : Switch}

theorem queue (ok : s.QueueInOrder) : s.QueueWith s.sending := s.queueInOrder_iff.1 ok

theorem of_queue {flying : Option PageId} (ok : t.QueueWith flying) (sending : t.sending = flying) : t.QueueInOrder :=
  t.queueInOrder_iff.2 (sending ▸ ok)

theorem of_going (ok : t.QueueWith s.sending) (going : Going s t) : t.QueueInOrder := of_queue ok going.sending

theorem frame (ok : s.QueueInOrder) (h : QueueFrame s t) : t.QueueInOrder := of_queue (ok.queue.frame h) h.sending

theorem desk (ok : s.QueueInOrder) (h : DeskFrame s t) : t.QueueInOrder := ok.frame (.of_desk h)

theorem answer (ok : s.QueueInOrder) (h : Head) (code : Code) (values : List Byte) : (s.answer h code values).QueueInOrder :=
  ok.desk (desk_answer _ _ _ _)

theorem refuse (ok : s.QueueInOrder) (h : Head) (code : Code) : (s.refuse h code).QueueInOrder := ok.desk (desk_refuse _ _ _)

theorem report (ok : s.QueueInOrder) (h : Head) (c : Cmd) (data : List Byte) : (s.report h c data).QueueInOrder :=
  ok.desk (desk_report _ _ _ _)

/-- The groups replaced, but not the definitions of the pages nor the enables of the links. -/
theorem setGroups (ok : s.QueueInOrder) {g : Groups} (defs : g.clock.pages = s.groups.clock.pages)
    (enable : g.feed.enable = s.groups.feed.enable) : (s.setGroups g).QueueInOrder :=
  ok.frame ⟨defs, rfl, rfl, rfl, rfl, rfl, rfl, enable, rfl, rfl⟩

/-! ### The clock (spec/06) -/

end QueueInOrder

namespace QueueWith

variable {s : Switch} {flying : Option PageId}

theorem turnChannels (ok : s.QueueWith flying) (live : s.starting = false) (ended : Nat) (l : List ChannelId) :
    (l.foldl (turnChannel ended) s).QueueWith flying := by
  induction l generalizing s with
  | nil => exact ok
  | cons c l ih =>
    refine ih ?_ ((going_turnChannel _ s c).starting.trans live)
    unfold turnChannel
    dsimp only
    split
    · exact (ok.setChannel c _).autoRelease c _ live
    · exact ok.setChannel c _

theorem forgetSent (ok : s.QueueWith flying) : s.forgetSent.QueueWith flying := by
  refine ⟨ok.table.restate ?_ ?_ ?_ ?_ ?_, ok.flight, ok.up, ok.off, ok.startUp⟩
  all_goals
    intro q
    simp only [Switch.forgetSent, Bank.get_map]
    split
  all_goals simp_all [Page.fresh]

end QueueWith

namespace QueueInOrder

variable {s t : Switch}

theorem turnEdition (ok : s.QueueInOrder) (live : s.starting = false) : s.turnEdition.QueueInOrder := by
  refine of_going (s := s) ?_ s.going_turnEdition
  rw [turnEdition_eq]
  have begun : s.beginTurn.QueueWith s.sending := ok.queue.frame (by constructor <;> rfl)
  exact QueueWith.forgetSent
    ((begun.turnChannels live _ _).foldl (fun _ h i => h.story (requestPurge_frame _ i)) _)

theorem tick (ok : s.QueueInOrder) : s.tick.QueueInOrder := by
  have raised : s.raiseWall.QueueInOrder := ok.frame (by constructor <;> rfl)
  unfold Switch.tick
  split
  · rename_i turns
    simp only [turnsAtTick, Bool.and_eq_true] at turns
    exact raised.turnEdition (ok.queue.live_of_running turns.1)
  · split
    · exact raised.frame (by constructor <;> rfl)
    · exact raised

theorem turnTick (ok : s.QueueInOrder) : s.turnTick.QueueInOrder := by
  unfold Switch.turnTick
  split
  · rename_i turns
    simp only [turnsAtTick, Bool.and_eq_true] at turns
    exact QueueInOrder.turnEdition (ok.frame (by constructor <;> rfl)) (ok.queue.live_of_running turns.1)
  · exact ok

theorem setRunning (ok : s.QueueInOrder) (live : s.starting = false) (running : Bool) :
    ({ s with clock := { s.clock with running := running } } : Switch).QueueInOrder :=
  of_queue (flying := s.sending) (.of_live live ok.queue.table ok.queue.flight ok.queue.up ok.queue.off) rfl

theorem clockStartCommand (ok : s.QueueInOrder) (live : s.starting = false) (h : Head) (a : Unit) :
    (clockStartCommand h a s).QueueInOrder := by
  unfold Switch.clockStartCommand
  split
  · exact ok.answer _ _ _
  · have started := ok.setRunning live true
    exact QueueInOrder.answer (of_going (started.queue.foldl (fun _ h c => h.matchIfDue c) _)
      (Going.foldl (fun w c => going_matchIfDue c w) _ _)) _ _ _

theorem clockStopCommand (ok : s.QueueInOrder) (live : s.starting = false) (h : Head) (a : Unit) :
    (clockStopCommand h a s).QueueInOrder := by
  unfold Switch.clockStopCommand
  split
  · exact (ok.setRunning live false).answer _ _ _
  · exact ok.answer _ _ _

theorem turnCommand (ok : s.QueueInOrder) (live : s.starting = false) (h : Head) (a : Option Nat) :
    (turnCommand h a s).QueueInOrder := by
  unfold Switch.turnCommand
  split
  · exact (ok.turnEdition live).answer _ _ _
  · exact ok.refuse _ _

theorem editionLengthCommand (ok : s.QueueInOrder) (h : Head) (length : Nat) : (editionLengthCommand h length s).QueueInOrder := by
  unfold Switch.editionLengthCommand
  dsimp only
  exact QueueInOrder.answer (ok.frame (by constructor <;> rfl)) _ _ _

theorem setChannelSettings (ok : s.QueueInOrder) (c : ChannelId) (x : ChannelSettings) : (s.setChannelSettings c x).QueueInOrder :=
  ok.setGroups rfl rfl

theorem setActive (ok : s.QueueInOrder) (c : ChannelId) (deadline : Nat) : (s.setActive c deadline).QueueInOrder :=
  of_going (ok.queue.setActive c deadline) (going_setActive s c deadline)

theorem deadlineCommand (ok : s.QueueInOrder) (h : Head) (a : ChannelId × Nat) : (deadlineCommand h a s).QueueInOrder := by
  unfold Switch.deadlineCommand
  dsimp only
  split
  · exact ((ok.setChannelSettings _ _).setActive _ _).answer _ _ _
  · exact (ok.setChannelSettings _ _).answer _ _ _

theorem setChannel (ok : s.QueueInOrder) (c : ChannelId) (x : Channel) : (s.setChannel c x).QueueInOrder :=
  ok.frame (by constructor <;> rfl)

theorem channelCommand (ok : s.QueueInOrder) (h : Head) (a : ChannelParams) : (channelCommand h a s).QueueInOrder := by
  unfold Switch.channelCommand
  dsimp only
  split
  · exact (((ok.setChannelSettings _ _).setChannel _ _).setActive _ _).answer _ _ _
  · exact ((ok.setChannelSettings _ _).setChannel _ _).answer _ _ _

theorem matchIfDue (ok : s.QueueInOrder) (c : ChannelId) : (matchIfDue c s).QueueInOrder :=
  of_going (ok.queue.matchIfDue c) (going_matchIfDue c s)

theorem takeWarning (ok : s.QueueInOrder) (c : ChannelId) : (takeWarning c s).QueueInOrder := by
  unfold Switch.takeWarning
  dsimp only
  split
  · split
    · exact (ok.setChannel c _).desk (desk_post _ _ _)
    · exact ok.setChannel c _
  · exact ok

theorem takeLateTick (ok : s.QueueInOrder) (c : ChannelId) : (takeLateTick c s).QueueInOrder := by
  unfold Switch.takeLateTick
  dsimp only
  split
  · split
    · split
      · exact (ok.setChannel c _).desk (desk_post _ _ _)
      · exact ok.setChannel c _
    · exact ok
  · exact ok

/-! ### The page commands (spec/07) -/

theorem onPage (ok : s.QueueInOrder) {h : Head} {q : PageId} {k : PageDef → Switch}
    (body : ∀ d, s.pageDef q = some d → (k d).QueueInOrder) : (s.onPage h q k).QueueInOrder := by
  unfold Switch.onPage
  split
  · exact ok.refuse _ _
  · rename_i d hd
    unfold withRight
    split
    · exact body d hd
    · exact ok.refuse _ _

theorem onStory (ok : s.QueueInOrder) {h : Head} {k : Handle} {f : Story → Switch} (body : ∀ st, (f st).QueueInOrder) :
    (s.onStory h k f).QueueInOrder := by
  unfold Switch.onStory
  split
  · exact ok.refuse _ _
  · exact body _

/-- The page table replaced. -/
theorem withTable (ok : s.QueueInOrder) {defs : Bank 128 (Option PageDef)} {pages : Bank 128 Page}
    (table : PageTable defs pages s.queue s.sending s.releases) :
    (({ s with pages := pages }).setGroups { s.groups with clock := { s.groups.clock with pages := defs } }).QueueInOrder :=
  of_queue (flying := s.sending) { ok.queue with table := table } rfl

theorem definePage (ok : s.QueueInOrder) (h : Head) (q : PageId) (d : PageDef) : (definePage h q d s).QueueInOrder := by
  unfold Switch.definePage
  split
  · exact ok.refuse _ _
  · have table := ok.queue.table.redefine (defs' := s.groups.clock.pages.set q (some d)) fun k hk => by
      rw [Bank.get_set] at hk
      split at hk
      · cases hk
      · exact ok.queue.table.undefined k hk
    have same : (if (s.pageDef q).isNone then s.setPage q Page.fresh else s) = s := by
      split
      · rename_i undefined
        have fresh := ok.queue.table.undefined q (Option.isNone_iff_eq_none.1 undefined)
        unfold setPage
        rw [← fresh, Bank.set_get]
      · rfl
    dsimp only
    rw [same]
    exact QueueInOrder.answer ((ok.withTable table).frame (by constructor <;> rfl)) _ _ _

theorem undefinePage (ok : s.QueueInOrder) (h : Head) (q : PageId) : (undefinePage h q s).QueueInOrder := by
  unfold Switch.undefinePage
  split
  · exact ok.answer _ _ _
  · split
    · rename_i making
      exact QueueInOrder.answer ((ok.withTable (ok.queue.table.clear making)).frame (by constructor <;> rfl)) _ _ _
    · exact ok.refuse _ _

theorem pageCommand (ok : s.QueueInOrder) (h : Head) (a : PageId × Option PageDef) : (pageCommand h a s).QueueInOrder := by
  unfold Switch.pageCommand
  split
  · exact ok.definePage _ _ _
  · exact ok.undefinePage _ _

theorem layOut (ok : s.QueueInOrder) (h : Head) {q : PageId} {layout : List Placement} {d : PageDef} (defined : s.pageDef q = some d)
    (size : layout.length ≤ 16) : (s.layOut h q layout).QueueInOrder := by
  have table := ok.queue.table.layOut (q := q) (by rw [← pageDef_def, defined]; nofun) size
  exact QueueInOrder.answer ((ok.withTable table).frame (by constructor <;> rfl)) _ _ _

theorem placeCommand (ok : s.QueueInOrder) (h : Head) (a : PlaceParams) : (placeCommand h a s).QueueInOrder := by
  unfold Switch.placeCommand
  dsimp only
  split
  · exact ok.refuse _ _
  · refine ok.onPage fun d defined => ok.onStory fun st => ?_
    split
    · exact ok.refuse _ _
    · rename_i room
      refine ok.layOut h defined ?_
      have limit : Config.placementLimit = 16 := rfl
      exact List.length_insertIdx_le_succ.trans (by omega)

theorem unplaceCommand (ok : s.QueueInOrder) (h : Head) (a : PageId × Nat) : (unplaceCommand h a s).QueueInOrder := by
  unfold Switch.unplaceCommand
  dsimp only
  split
  · exact ok.refuse _ _
  · exact ok.onPage fun d defined => ok.layOut h defined ((List.length_eraseIdx_le _ _).trans (ok.queue.table.sizes a.1).1)

theorem releaseCommand (ok : s.QueueInOrder) (live : s.starting = false) (h : Head) (a : PageId × Bool) :
    (releaseCommand h a s).QueueInOrder := by
  refine ok.onPage fun d defined => ?_
  dsimp only
  split
  · exact ok.refuse _ _
  · rename_i notSending
    split
    · exact ok.refuse _ _
    · split
      · rename_i old _ held
        exact QueueInOrder.answer (of_queue (ok.queue.reRelease (d := d) held) (s.reRelease_sending a.1 d old)) _ _ _
      · rename_i notHeld
        unfold releaseNew
        split
        · rename_i room
          refine QueueInOrder.answer (of_queue (ok.queue.releasePage a.2 live defined (fun queued => ?_) notSending room) ?_) _ _ _
          · obtain ⟨j, hj⟩ := ok.queue.table.job_of_queued ((ok.queue.table.queued a.1).2 queued)
            exact notHeld j queued hj
          · rw [releasePage_eq_releasing]
            rfl
        · exact ok.refuse _ _

end QueueInOrder

end Switch
end Sys2Proof.Machine
end

section
/-! SUPPORT. The order of the release queue under RECALL, the feed and start-up (spec/07, spec/08, spec/10). -/

namespace Sys2Proof.Machine

/-- No page is in flight where both engines are IDLE. -/
theorem Flight.idle {links : PerLink Link} (idle : ∀ l, (links.get l).page = none ∧ (links.get l).engine = .idle) (active : LinkId) :
    Flight links active none :=
  ⟨(idle active).1, by simp [idle], (idle _).1, (idle _).2⟩

namespace Switch

/-! ### What the ends of jobs and the links leave as it was -/

/-- The update leaves the links, the settings and start-up as they were. -/
structure LinksFrame (s t : Switch) : Prop where
  links : t.links = s.links
  active : t.active = s.active
  groups : t.groups = s.groups
  starting : t.starting = s.starting

theorem endJob_links (s : Switch) (q : PageId) (x : Page) : LinksFrame s (s.endJob q x) := by
  constructor <;> simp only [endJob_fields]

theorem faultPage_links (s : Switch) (q : PageId) (r : Reason) : LinksFrame s (s.faultPage q r) :=
  have ended := s.endJob_links q { s.page q with state := .faulted }
  ⟨ended.links, ended.active, ended.groups, ended.starting⟩

theorem faultPage_sending (s : Switch) (q : PageId) (r : Reason) :
    (s.faultPage q r).sending = if s.sending = some q then none else s.sending :=
  (s.endJob_pages q { s.page q with state := .faulted }).2.2

theorem completePage_links (s : Switch) (q : PageId) : LinksFrame s (s.completePage q) :=
  have ended := s.endJob_links q { s.page q with
    lastSent := ((s.page q).job.map Job.edition).getD 0
    state := if ((s.page q).job.map Job.edition).getD 0 = s.clock.edition then .sent else .making }
  ⟨ended.links, ended.active, ended.groups, ended.starting⟩

theorem completePage_sending (s : Switch) (q : PageId) :
    (s.completePage q).sending = if s.sending = some q then none else s.sending :=
  (s.endJob_pages q { s.page q with
    lastSent := ((s.page q).job.map Job.edition).getD 0
    state := if ((s.page q).job.map Job.edition).getD 0 = s.clock.edition then .sent else .making }).2.2

theorem going_failOver (s : Switch) (l : LinkId) (q : Option PageId) : Going s (s.failOver l q) := by
  unfold failOver
  split <;> exact ⟨rfl, rfl⟩

theorem going_takeOver (s : Switch) (l : LinkId) : Going s (s.takeOver l) := by
  unfold takeOver
  dsimp only
  split
  · split <;> exact ⟨rfl, rfl⟩
  · exact .refl s

theorem going_returnHome (s : Switch) : Going s s.returnHome := by
  unfold returnHome
  dsimp only
  split
  · exact ⟨rfl, rfl⟩
  · exact .refl s

theorem going_setLink (s : Switch) (l : LinkId) (x : Link) : Going s (s.setLink l x) := ⟨rfl, rfl⟩

theorem going_dropLink (s : Switch) (l : LinkId) : Going s (s.dropLink l) := by
  unfold dropLink
  dsimp only
  split
  · exact (s.going_setLink l _).trans (going_failOver _ _ _)
  · exact s.going_setLink l _

theorem going_engineIdled (s : Switch) (l : LinkId) : Going s (s.engineIdled l) := by
  unfold engineIdled
  refine Going.trans ?_ (going_returnHome _)
  dsimp only
  split
  · exact s.going_dropLink l
  · exact .refl s

/-! ### Attempts -/

/-- The record of a page whose attempt begins (R128). -/
def startedPage (s : Switch) (q : PageId) (j : Job) : Page :=
  { s.pages.get q with state := .sending, job := some { j with attempts := j.attempts + 1, returned := false } }

/-- The record of a page that comes back to the queue (R128, R145). -/
def returnedPage (s : Switch) (q : PageId) (j : Job) : Page :=
  { s.pages.get q with state := .queued, job := some { j with returned := true } }

/-- A link's record as an attempt begins (R141). -/
def presentingLink (s : Switch) (l : LinkId) (q : PageId) : Link :=
  { s.link l with engine := .presenting, page := some q, taken := 0, progress := s.wall }

/-- The active link's record as its page is voided (R147). -/
def voidingLink (s : Switch) (q : PageId) (edition : Nat) : Link :=
  { s.link s.active with
    engine := .voiding, page := none, taken := 0, trailerTaken := 0, voided := some (q, edition), progress := s.wall }

theorem beginAttempt_eq {s : Switch} {q : PageId} {j : Job} (held : (s.pages.get q).job = some j) (l : LinkId) :
    s.beginAttempt l q =
      { s with
        pages := s.pages.set q (s.startedPage q j), sending := some q, links := s.links.set l (s.presentingLink l q)
        pace := { s.pace with window := some { start := s.wall, length := s.groups.feed.paceWindow, count := 0 } } } := by
  unfold beginAttempt changeJob
  rw [page_def, held]
  simp only [setPage, setLink, openWindow, page, link, Bank.set_set, Bank.get_set_same]
  rfl

theorem returnPage_eq {s : Switch} {q : PageId} {j : Job} (held : (s.pages.get q).job = some j) :
    s.returnPage q = { s with pages := s.pages.set q (s.returnedPage q j), sending := none, queue := q :: s.queue } := by
  unfold returnPage changeJob
  rw [page_def, held]
  simp only [setPage, page, Bank.set_set, Bank.get_set_same]
  rfl

/-! ### LINKS (R150) -/

/-- LINKS' first two steps: the enables written, and each link enabled or disabled. -/
def switched (s : Switch) (enable : PerLink Bool) : Switch :=
  { s.setGroups { s.groups with feed := { s.groups.feed with enable := enable } } with
    links := ⟨s.switchLink s.groups.feed.enable.a enable.a s.links.a, s.switchLink s.groups.feed.enable.b enable.b s.links.b⟩ }

/-- LINKS up to its second step: the active link, just disabled, is settled. -/
def settled (s : Switch) (enable : PerLink Bool) : Switch :=
  if s.groups.feed.enable.get s.active && !enable.get s.active then (s.switched enable).settleDisabled (s.link s.active)
  else s.switched enable

/-- LINKS' third step: the home link written, and a pending return taken. -/
def homed (s : Switch) (home : LinkId) : Switch :=
  (s.setGroups { s.groups with feed := { s.groups.feed with home := home } }).returnHome

theorem linksCommand_eq (h : Head) (a : PerLink Bool × LinkId) (s : Switch) :
    linksCommand h a s = ((s.settled a.1).homed a.2).answer h .ok ((s.settled a.1).homed a.2).linksReport := rfl

theorem switched_link (s : Switch) (enable : PerLink Bool) (l : LinkId) :
    (s.switched enable).links.get l = s.switchLink (s.groups.feed.enable.get l) (enable.get l) (s.links.get l) := by
  cases l <;> rfl

/-- A link that is switched keeps its engine and its page. -/
theorem switchLink_engine (s : Switch) (old new : Bool) (x : Link) :
    (s.switchLink old new x).engine = x.engine ∧ (s.switchLink old new x).page = x.page := by
  unfold switchLink Link.enabled
  repeat' split
  all_goals exact ⟨rfl, rfl⟩

theorem switchLink_off (s : Switch) {old : Bool} {x : Link} (off : old = false → x.state = .off) :
    (s.switchLink old false x).state = .off := by
  cases old
  · exact off rfl
  · rfl

namespace QueueWith

variable {s : Switch} {flying : Option PageId}

/-- An attempt begins on the active link, which is UP (R141). -/
theorem beginAttempt {q : PageId} {j : Job} (held : (s.pages.get q).job = some j)
    (table : PageTable s.groups.clock.pages (s.pages.set q (s.startedPage q j)) s.queue (some q) s.releases)
    (flight : Flight s.links s.active flying) (up : (s.links.get s.active).state = .up)
    (off : ∀ l, s.groups.feed.enable.get l = false → (s.links.get l).state = .off) (live : s.starting = false) :
    (s.beginAttempt s.active q).QueueInOrder := by
  rw [beginAttempt_eq held]
  refine .of_queue (flying := some q) (.of_live live table (flight.setActive (by simp [presentingLink])) ?_ fun l hl => ?_) rfl
  · intro _
    simp only [PerLink.get_set_same]
    exact up
  · dsimp only
    rw [PerLink.get_set]
    split
    · rename_i e
      exact (congrArg (fun m => (s.links.get m).state) e).trans (off l hl)
    · exact off l hl

/-- The attempt in flight is abandoned, its link DOWN or OFF with its engine IDLE (R145). -/
theorem abandonAttempt (ok : s.QueueWith none) (live : s.starting = false) {q : PageId} (sending : s.sending = some q)
    (idle : (s.link s.active).engine = .idle) : (s.abandonAttempt s.active q).QueueInOrder := by
  have state := (ok.table.inFlight q).1 sending
  have defined := ok.table.defined_of_state (q := q) (by rw [state]; nofun)
  obtain ⟨j, held⟩ := Option.ne_none_iff_exists'.1 ((ok.table.jobs q).2 (.inr state))
  have size := (ok.table.sizes q).2 j held
  have discarded : s.discardWindow.QueueWith none := ok.frame (by constructor <;> rfl)
  unfold Switch.abandonAttempt
  dsimp only
  split
  · have same := s.discardWindow.faultPage_links q .stalled
    refine .of_queue ((discarded.faultPage .stalled defined).failOver ?_ _ _) ((going_failOver _ _ _).sending.trans ?_)
    · rw [link_def, same.links, same.active]
      exact idle
    · rw [faultPage_sending]
      exact if_pos sending
  · split
    · rename_i up
      have other := discarded.activate idle s.active.other
      refine QueueInOrder.desk (beginAttempt (s := s.discardWindow.activate s.active.other) held ?_ other.flight up other.off live)
        (desk_post _ _ _)
      have again := ok.table.restart sending held (i := { j with attempts := j.attempts + 1, returned := false }) rfl rfl size
      rw [sending] at again
      exact again
    · rw [returnPage_eq (s := s.discardWindow) held]
      refine QueueInOrder.desk (.of_queue (flying := none) ?_ rfl) (desk_post _ _ _)
      exact .of_live live (ok.table.comeBack sending held rfl rfl size) ok.flight ok.up ok.off

/-- The active link leaves UP with its engine busy (R145, R147); LINKS has already turned it OFF (R150). -/
theorem breakOff (table : PageTable s.groups.clock.pages s.pages s.queue s.sending s.releases)
    (flight : Flight s.links s.active s.sending) (off : ∀ l, s.groups.feed.enable.get l = false → (s.links.get l).state = .off)
    (live : s.starting = false) {state : LinkState} (own : s.groups.feed.enable.get s.active = false → state = .off) :
    (s.breakOff s.active state).QueueInOrder := by
  have broken : (s.setLink s.active { (s.link s.active).idled with state := state }).QueueWith none := by
    refine .of_live live table (flight.setActive (by simp [Link.idled])) (by simp [Link.idled]) fun l hl => ?_
    simp only [setLink_fields, PerLink.get_set]
    split
    · rename_i e
      exact own (e ▸ hl)
    · exact off l hl
  have idle : ((s.setLink s.active { (s.link s.active).idled with state := state }).link s.active).engine = .idle := by
    simp [link_def, Link.idled]
  have page : (s.link s.active).page = s.sending := flight.page
  unfold Switch.breakOff
  dsimp only
  split
  · rename_i _ _ q _ flying
    exact broken.abandonAttempt live (page.symm.trans flying) idle
  · rename_i _ _ q _ flying
    exact broken.abandonAttempt live (page.symm.trans flying) idle
  · rename_i notPresenting notAwaiting
    refine .of_queue (broken.failOver idle _ _) ((going_failOver _ _ _).sending.trans ?_)
    change s.sending = none
    by_contra busy
    obtain ⟨q, hq⟩ := Option.ne_none_iff_exists'.1 busy
    rcases flight.busy.1 (by rw [flight.page]; exact busy) with e | e
    · exact notPresenting q e (page.trans hq)
    · exact notAwaiting q e (page.trans hq)

end QueueWith

namespace QueueInOrder

variable {s : Switch}

theorem recallCommand (ok : s.QueueInOrder) (live : s.starting = false) (h : Head) (q : PageId) :
    (recallCommand h q s).QueueInOrder := by
  refine ok.onPage fun d defined => ?_
  have defined : s.groups.clock.pages.get q ≠ none := by rw [← pageDef_def, defined]; nofun
  have ended := ok.queue.endJob (x := { s.page q with state := .making }) defined ⟨nofun, nofun⟩ rfl
  have sending := (s.endJob_pages q { s.page q with state := .making }).2.2
  have links := s.endJob_links q { s.page q with state := .making }
  dsimp only
  split
  · rename_i queued
    refine (QueueInOrder.of_queue ended (sending.trans (if_neg fun flying => ?_))).answer _ _ _
    have := (ok.queue.table.inFlight q).1 flying
    rw [← page_def, queued] at this
    cases this
  · rename_i flying
    have flying : s.sending = some q := (ok.queue.table.inFlight q).2 flying
    have page : (s.link s.active).page = some q := ok.queue.flight.page.trans flying
    have busy := ok.queue.flight.busy.1 (by rw [← link_def, page]; nofun)
    rw [if_pos flying] at sending
    refine QueueInOrder.answer ?_ _ _ _
    generalize s.endJob q _ = w at ended sending links
    have page' : (w.link w.active).page = some q := by rw [link_def, links.links, links.active]; exact page
    have busy' : (w.link w.active).engine = .presenting ∨ (w.link w.active).engine = .awaiting := by
      rw [link_def, links.links, links.active]
      exact busy
    unfold voidAttempt
    dsimp only
    rw [if_pos ⟨page', busy'⟩]
    have up := ended.up (by rcases busy' with e | e <;> rw [← link_def, e] <;> nofun)
    have voided := ended.setActiveLink (x := w.voidingLink q ((s.page q).job.map Job.edition |>.getD 0)) (links.starting.trans live)
      (by simp [voidingLink]) (fun _ => up) (ended.off w.active)
    exact (QueueInOrder.of_queue voided sending).frame (by constructor <;> rfl)
  all_goals exact ok.refuse _ _

theorem pageStatusCommand (ok : s.QueueInOrder) (h : Head) (a : Option PageId) : (pageStatusCommand h a s).QueueInOrder := by
  unfold Switch.pageStatusCommand
  split
  · exact ok.report _ _ _
  · dsimp only
    split
    · exact QueueInOrder.report (ok.frame (by constructor <;> rfl)) _ _ _
    · exact ok.report _ _ _

/-! ### The feed (spec/08) -/

theorem riseReady (ok : s.QueueInOrder) (l : LinkId) : (riseReady l s).QueueInOrder := by
  unfold Switch.riseReady
  dsimp only
  refine .of_queue (flying := s.sending) ?_ rfl
  split
  · rename_i down
    have shut := ok.queue.idle_of_not_up (l := l) (by rw [← link_def, down]; nofun)
    have on : (s.links.get l).state ≠ .off := by rw [← link_def, down]; nofun
    refine ok.queue.setLink l rfl rfl (fun busy => absurd shut busy) (fun disabled => absurd (ok.queue.off l disabled) on) fun starting => ?_
    rw [ok.queue.live_of_on on] at starting
    cases starting
  · exact ok.queue.setLink l rfl rfl ok.queue.up_of_busy
      (ok.queue.off l) fun starting => ((ok.queue.startUp starting).2.2.2 l).1

theorem fallReady (ok : s.QueueInOrder) (l : LinkId) : (fallReady l s).QueueInOrder := by
  unfold Switch.fallReady
  dsimp only
  have fallen : (s.setLink l { s.link l with ready := false }).QueueWith s.sending :=
    ok.queue.setLink l rfl rfl ok.queue.up_of_busy
      (ok.queue.off l) fun starting => ((ok.queue.startUp starting).2.2.2 l).1
  have going := s.going_setLink l { s.link l with ready := false }
  generalize s.setLink l _ = w at fallen going
  have fallen : w.QueueInOrder := of_going fallen going
  split
  · rename_i settling
    exact of_queue (fallen.queue.lowerLink (fallen.queue.idle_of_not_up (by rw [← link_def, settling]; nofun)) (by rw [settling]; nofun)) rfl
  · rename_i up
    split
    · rename_i idle
      exact of_going (fallen.queue.dropLink idle (by rw [up]; nofun)) (going_dropLink _ _)
    · exact fallen
  · exact fallen
  · exact fallen

theorem settleLink (ok : s.QueueInOrder) (l : LinkId) : (settleLink l s).QueueInOrder := by
  unfold Switch.settleLink
  split
  · rename_i due
    simp only [settleDue, Bool.and_eq_true, beq_iff_eq] at due
    have settling : (s.links.get l).state = .settling := due.1.1
    have on : (s.links.get l).state ≠ .off := by rw [settling]; nofun
    have risen : (s.setLink l { s.link l with state := .up }).QueueWith s.sending :=
      ok.queue.setLink l rfl rfl (fun _ => rfl) (fun disabled => absurd (ok.queue.off l disabled) on) fun starting => by
        rw [ok.queue.live_of_on on] at starting
        cases starting
    exact of_going (s := s) ((risen.takeOver l).returnHome)
      ((s.going_setLink _ _).trans ((going_takeOver _ _).trans (going_returnHome _)))
  · exact ok

theorem stallLink (ok : s.QueueInOrder) (l : LinkId) : (stallLink l s).QueueInOrder := by
  unfold Switch.stallLink
  split
  · rename_i due
    have busy : (s.links.get l).engine ≠ .idle := fun idle => by
      rw [Link.stallDue, link_def, idle] at due
      cases due
    have on : (s.links.get l).state ≠ .off := by rw [ok.queue.up_of_busy busy]; nofun
    have active := ok.queue.flight.active_of_busy busy
    subst active
    exact QueueWith.breakOff ok.queue.table ok.queue.flight ok.queue.off (ok.queue.live_of_busy busy) fun disabled =>
      absurd (ok.queue.off _ disabled) on
  · exact ok

theorem startPage (ok : s.QueueInOrder) : s.startPage.QueueInOrder := by
  unfold Switch.startPage
  split
  · exact ok
  · rename_i q start
    unfold startable at start
    split at start
    · rename_i ready
      obtain ⟨up, idle, none⟩ := ready
      obtain ⟨rest, queue⟩ := List.head?_eq_some_iff.1 start
      have waits : q ∈ s.queue := by rw [queue]; exact List.mem_cons_self
      obtain ⟨j, held⟩ := ok.queue.table.job_of_queued waits
      split
      · have table := ok.queue.table.start queue none held (i := { j with attempts := j.attempts + 1, returned := false }) rfl rfl
          ((ok.queue.table.sizes q).2 j held)
        refine QueueWith.beginAttempt (s := { s with queue := s.queue.tail }) held ?_ ok.queue.flight up ok.queue.off
          (ok.queue.live_of_on (l := s.active) (by rw [← link_def, up]; nofun))
        dsimp only
        rw [queue]
        exact table
      · have defined := ok.queue.table.defined_of_state (q := q) (by rw [(ok.queue.table.queued q).1 waits]; nofun)
        refine of_queue (ok.queue.faultPage .stalled defined) ?_
        rw [faultPage_sending, none]
        rfl
    · cases start

theorem emitPresented (ok : s.QueueInOrder) (l : LinkId) : (s.emitPresented l).QueueInOrder := by
  unfold Switch.emitPresented
  split
  · exact ok
  · exact ok.desk (desk_emit _ _)

theorem takePageByte (ok : s.QueueInOrder) {l : LinkId} (presenting : (s.link l).engine = .presenting) (length : Nat) :
    (s.takePageByte l length).QueueInOrder := by
  have shown := ok.emitPresented l
  have presenting : ((s.emitPresented l).link l).engine = .presenting := by
    unfold Switch.emitPresented
    split <;> exact presenting
  unfold Switch.takePageByte
  generalize s.emitPresented l = w at shown presenting
  have busy : (w.links.get l).engine ≠ .idle := by rw [← link_def, presenting]; nofun
  have live := shown.queue.live_of_busy busy
  have up := shown.queue.up_of_busy busy
  have active := shown.queue.flight.active_of_busy busy
  subst active
  have flying : (w.links.get w.active).page ≠ none := shown.queue.flight.busy.2 (.inl presenting)
  dsimp only
  split
  · have taken := shown.queue.setActiveLink (x := { w.link w.active with
      taken := (w.link w.active).taken + 1, progress := w.wall, engine := .awaiting, waitStart := w.wall }) live
      (by simpa [link_def] using flying) (fun _ => up) (shown.queue.off _)
    exact (QueueInOrder.of_queue taken shown.queue.flight.page.symm).frame (by constructor <;> rfl)
  · have taken := shown.queue.setActiveLink (x := { w.link w.active with
      taken := (w.link w.active).taken + 1, progress := w.wall }) live shown.queue.flight.busy (fun _ => up) (shown.queue.off _)
    exact (QueueInOrder.of_queue taken shown.queue.flight.page.symm).frame (by constructor <;> rfl)

/-- An engine goes IDLE, with no page in flight left (R143, R144, R147). -/
theorem settleEngine {flying : Option PageId} (ok : s.QueueWith flying) (live : s.starting = false) (none : s.sending = none)
    {l : LinkId} (active : s.active = l) {x : Link} (idle : x.engine = .idle) (page : x.page = Option.none)
    (state : x.state = (s.link l).state) : ((s.setLink l x).engineIdled l).QueueInOrder := by
  subst active
  have idled := ok.setActiveLink live (by simp [idle, page]) (fun busy => absurd idle busy) fun disabled =>
    state.trans (ok.off s.active disabled)
  rw [page] at idled
  refine of_queue (idled.engineIdled ?_) (((s.going_setLink _ _).trans (going_engineIdled _ _)).sending.trans none)
  simpa [link_def] using idle

theorem takeVoidByte (ok : s.QueueInOrder) {l : LinkId} (voiding : (s.link l).engine = .voiding) : (s.takeVoidByte l).QueueInOrder := by
  have shown := ok.emitPresented l
  have voiding : ((s.emitPresented l).link l).engine = .voiding := by
    unfold Switch.emitPresented
    split <;> exact voiding
  unfold Switch.takeVoidByte
  generalize s.emitPresented l = w at shown voiding
  have busy : (w.links.get l).engine ≠ .idle := by rw [← link_def, voiding]; nofun
  have live := shown.queue.live_of_busy busy
  have up := shown.queue.up_of_busy busy
  have active := shown.queue.flight.active_of_busy busy
  subst active
  have none : w.sending = none := shown.queue.flight.none_of_not_busy (by rw [← link_def, voiding]; exact ⟨nofun, nofun⟩)
  dsimp only
  split
  · exact settleEngine shown.queue live none rfl rfl rfl rfl
  · have taken := shown.queue.setActiveLink (x := { w.link w.active with
      trailerTaken := (w.link w.active).trailerTaken + 1, progress := w.wall }) live shown.queue.flight.busy (fun _ => up)
      (shown.queue.off _)
    exact of_queue taken shown.queue.flight.page.symm

theorem takeStrobe (ok : s.QueueInOrder) (l : LinkId) : (takeStrobe l s).QueueInOrder := by
  unfold Switch.takeStrobe
  split
  · rename_i presenting _
    exact ok.takePageByte presenting _
  · rename_i voiding
    exact ok.takeVoidByte voiding
  · exact ok

/-- The page a status reaches is the SENDING page, on the active link (R137). -/
theorem awaited_iff (ok : s.QueueInOrder) {l : LinkId} {q : PageId} (h : s.awaited l = some q) :
    l = s.active ∧ s.sending = some q ∧ (s.link s.active).engine = .awaiting := by
  unfold awaited at h
  split at h
  · rename_i awaiting
    have active := ok.queue.flight.active_of_busy (l := l) (by rw [← link_def, awaiting]; nofun)
    subst active
    exact ⟨rfl, ok.queue.flight.page.symm.trans h, awaiting⟩
  · cases h

theorem acceptPage (ok : s.QueueInOrder) (l : LinkId) : (acceptPage l s).QueueInOrder := by
  unfold Switch.acceptPage
  split
  · exact ok
  · rename_i q h
    obtain ⟨rfl, flying, awaiting⟩ := ok.awaited_iff h
    have live := ok.queue.live_of_sending flying
    have defined := ok.queue.table.defined_of_state (q := q) (by rw [(ok.queue.table.inFlight q).1 flying]; nofun)
    have same := s.completePage_links q
    exact settleEngine (ok.queue.completePage defined) (same.starting.trans live) (by rw [completePage_sending, if_pos flying])
      same.active rfl rfl (congrArg (fun links => (links.get s.active).state) same.links.symm)

theorem rejectPage (ok : s.QueueInOrder) (l : LinkId) : (rejectPage l s).QueueInOrder := by
  unfold Switch.rejectPage
  split
  · exact ok
  · rename_i q h
    obtain ⟨rfl, flying, awaiting⟩ := ok.awaited_iff h
    have live := ok.queue.live_of_sending flying
    have sending := (ok.queue.table.inFlight q).1 flying
    split
    · obtain ⟨j, held⟩ := Option.ne_none_iff_exists'.1 ((ok.queue.table.jobs q).2 (.inr sending))
      have again := ok.queue.table.restart flying held (i := { j with attempts := j.attempts + 1, returned := false }) rfl rfl
        ((ok.queue.table.sizes q).2 j held)
      rw [flying] at again
      exact QueueWith.beginAttempt held again ok.queue.flight (ok.queue.up (by rw [← link_def, awaiting]; nofun)) ok.queue.off live
    · have defined := ok.queue.table.defined_of_state (q := q) (by rw [sending]; nofun)
      have same := s.faultPage_links q .rejected
      exact settleEngine (ok.queue.faultPage .rejected defined) (same.starting.trans live)
        (by rw [faultPage_sending, if_pos flying]) same.active rfl rfl
        (congrArg (fun links => (links.get s.active).state) same.links.symm)

theorem foldl {f : Switch → α → Switch} (h : ∀ s, s.QueueInOrder → ∀ a, (f s a).QueueInOrder) (l : List α) (ok : s.QueueInOrder) :
    (l.foldl f s).QueueInOrder := by
  induction l generalizing s with
  | nil => exact ok
  | cons a l ih => exact ih (h s ok a)

theorem testRisk (ok : s.QueueInOrder) (c : ChannelId) : (s.testRisk c).QueueInOrder := by
  unfold Switch.testRisk
  split
  · exact QueueInOrder.setChannel (ok.desk (desk_post _ _ _)) _ _
  · exact ok

theorem closeWindow (ok : s.QueueInOrder) : s.closeWindow.QueueInOrder := by
  unfold Switch.closeWindow
  split
  · exact ok
  · exact foldl (fun _ h c => h.testRisk c) _ (ok.frame (by constructor <;> rfl))

/-! ### LINKS (R150) -/

theorem failOver (ok : s.QueueInOrder) (idle : (s.link s.active).engine = .idle) (l : LinkId) (q : Option PageId) :
    (s.failOver l q).QueueInOrder := of_going (ok.queue.failOver idle l q) (going_failOver s l q)

theorem switched_flight (ok : s.QueueInOrder) (enable : PerLink Bool) :
    Flight (s.switched enable).links (s.switched enable).active (s.switched enable).sending := by
  obtain ⟨page, busy, otherPage, otherIdle⟩ := ok.queue.flight
  constructor
  all_goals simp only [switched_link, switchLink_engine]
  all_goals assumption

theorem switched_off (ok : s.QueueInOrder) (enable : PerLink Bool) (l : LinkId)
    (disabled : (s.switched enable).groups.feed.enable.get l = false) : ((s.switched enable).links.get l).state = .off := by
  rw [switched_link, show enable.get l = false from disabled]
  exact switchLink_off s (ok.queue.off l)

/-- Where the active link is not disabled, its state is the engine's as before (R150). -/
theorem switched_up (ok : s.QueueInOrder) {enable : PerLink Bool}
    (kept : (s.groups.feed.enable.get s.active && !enable.get s.active) = false)
    (busy : ((s.switched enable).links.get s.active).engine ≠ .idle) : ((s.switched enable).links.get s.active).state = .up := by
  rw [switched_link] at busy ⊢
  rw [(switchLink_engine _ _ _ _).1] at busy
  have up := ok.queue.up busy
  have on : s.groups.feed.enable.get s.active = true := by
    by_contra off
    rw [ok.queue.off s.active (by simpa using off)] at up
    cases up
  have same : enable.get s.active = true := by simpa [on] using kept
  rw [on, same]
  exact up

theorem switched_inOrder (ok : s.QueueInOrder) (live : s.starting = false) {enable : PerLink Bool}
    (up : ((s.switched enable).links.get s.active).engine ≠ .idle → ((s.switched enable).links.get s.active).state = .up) :
    (s.switched enable).QueueInOrder :=
  of_queue (.of_live live ok.queue.table (ok.switched_flight enable) up (ok.switched_off enable)) rfl

theorem settleDisabled (ok : s.QueueInOrder) (live : s.starting = false) {enable : PerLink Bool} (was : Link) :
    ((s.switched enable).settleDisabled was).QueueInOrder := by
  unfold Switch.settleDisabled
  split
  · rename_i idle
    have settled := ok.switched_inOrder live (enable := enable) fun busy => absurd idle busy
    split
    · exact settled.failOver idle _ _
    · exact settled
  · exact QueueWith.breakOff (s := s.switched enable) ok.queue.table (ok.switched_flight enable) (ok.switched_off enable) live fun _ => rfl

theorem returnHome (ok : s.QueueInOrder) : s.returnHome.QueueInOrder := of_going ok.queue.returnHome s.going_returnHome

theorem linksCommand (ok : s.QueueInOrder) (live : s.starting = false) (h : Head) (a : PerLink Bool × LinkId) :
    (linksCommand h a s).QueueInOrder := by
  have settled : (s.settled a.1).QueueInOrder := by
    unfold Switch.settled
    split
    · exact ok.settleDisabled live _
    · rename_i kept
      exact ok.switched_inOrder live (ok.switched_up (by simpa using kept))
  have homed : ((s.settled a.1).homed a.2).QueueInOrder :=
    QueueInOrder.returnHome (settled.setGroups (by rfl) (by rfl))
  rw [linksCommand_eq]
  exact homed.answer _ _ _

end QueueInOrder

end Switch
end Sys2Proof.Machine
end

section
/-! SUPPORT. The order of the release queue through start-up, and every row at once (spec/10). -/

namespace Sys2Proof.Machine

namespace Switch

/-! ### The beginning of a restart (R133, R153, R171) -/

theorem desk_restartStore (s : Switch) : DeskFrame s s.restartStore :=
  (DeskFrame.foldl (fun s l => s.desk_returnChain l) _ s).trans (desk_setStore _ _)

theorem beginRestart_queue (s : Switch) (cause : StartCause) : (s.beginRestart cause).queue = [] ∧
    (s.beginRestart cause).sending = none ∧ (s.beginRestart cause).starting = true ∧
    (s.beginRestart cause).clock.running = false := ⟨rfl, rfl, rfl, rfl⟩

theorem beginRestart_pages (s : Switch) (cause : StartCause) : (s.beginRestart cause).pages = s.pages.map restartPage := by
  change (s.restartStore.pages.map restartPage) = _
  rw [s.desk_restartStore.pages]

theorem beginRestart_links (s : Switch) (cause : StartCause) : (s.beginRestart cause).links = s.links.map restartLink := by
  change (s.restartStore.links.map restartLink) = _
  rw [s.desk_restartStore.links]

theorem beginRestart_groups (s : Switch) (cause : StartCause) : (s.beginRestart cause).groups = s.groups :=
  s.desk_restartStore.groups

/-- A load writes the groups and the DEFAULTED flag alone (R172). -/
theorem loadSettings_eq (s : Switch) : ∃ g defaulted, s.loadSettings = { s.setGroups g with defaulted := defaulted } := by
  unfold loadSettings
  split <;> exact ⟨_, _, rfl⟩

theorem going_emptyBeforeEnd (s : Switch) : Going s s.emptyBeforeEnd := by
  unfold emptyBeforeEnd
  split <;> exact ⟨rfl, rfl⟩

theorem going_judgeTight (s : Switch) : Going s s.judgeTight := by
  unfold judgeTight
  split <;> exact ⟨rfl, rfl⟩

namespace QueueInOrder

variable {s t : Switch}

/-- While start-up runs: no page waits, every link is OFF with its engine IDLE, and the clock is stopped. -/
theorem of_shut (pages : ∀ q, (s.pages.get q).state ≠ .queued ∧ (s.pages.get q).state ≠ .sending ∧ (s.pages.get q).job = none)
    (sizes : ∀ q, (s.pages.get q).layout.length ≤ 16)
    (undefined : ∀ q, s.groups.clock.pages.get q = none → s.pages.get q = Page.fresh) (queue : s.queue = []) (sending : s.sending = none)
    (links : ∀ l, (s.links.get l).state = .off ∧ (s.links.get l).engine = .idle ∧ (s.links.get l).page = none)
    (stopped : s.clock.running = false) : s.QueueInOrder := by
  refine of_queue (flying := none) ⟨?_, .idle (fun l => ⟨(links l).2.2, (links l).2.1⟩) _, fun busy => absurd (links _).2.1 busy,
    fun l _ => (links l).1, fun _ => ⟨stopped, queue, sending, fun l => ⟨(links l).1, (links l).2.1⟩⟩⟩ sending
  rw [queue, sending]
  exact .empty pages sizes undefined

theorem beginRestart (ok : s.QueueInOrder) (cause : StartCause) : (beginRestart cause s).QueueInOrder := by
  obtain ⟨queue, sending, -, stopped⟩ := s.beginRestart_queue cause
  have pages (q : PageId) : ((s.beginRestart cause).pages.get q) = restartPage (s.pages.get q) := by
    rw [beginRestart_pages, Bank.get_map]
  have links (l : LinkId) : ((s.beginRestart cause).links.get l) = restartLink (s.links.get l) := by
    rw [beginRestart_links, PerLink.get_map]
  refine of_shut (fun q => ?_) (fun q => ?_) (fun q undefined => ?_) queue sending (fun l => ?_) stopped
  · rw [pages]
    unfold restartPage
    refine ⟨?_, ?_, rfl⟩
    all_goals
      dsimp only
      split
    all_goals simp_all
  · rw [pages]
    exact (ok.queue.table.sizes q).1
  · rw [beginRestart_groups] at undefined
    rw [pages, ok.queue.table.undefined q undefined]
    rfl
  · rw [links]
    exact ⟨rfl, rfl, rfl⟩

theorem powerOn (s : Switch) : s.powerOn.QueueInOrder := by
  have pages (q : PageId) : s.powerOn.pages.get q = Page.fresh := Bank.get_replicate _ q
  have links (l : LinkId) : s.powerOn.links.get l = { Link.fresh with ready := (s.links.get l).ready } := PerLink.get_map _ _ l
  refine of_shut (fun q => ?_) (fun q => ?_) (fun q _ => pages q) rfl rfl (fun l => ?_) rfl
  · rw [pages]
    exact ⟨nofun, nofun, rfl⟩
  · rw [pages]
    exact Nat.zero_le _
  · rw [links]
    exact ⟨rfl, rfl, rfl⟩

/-! ### The end of start-up (R133, R135, R172) -/

theorem idle_of_starting (ok : s.QueueInOrder) (starting : s.starting = true) (q : PageId) :
    (s.pages.get q).state ≠ .queued ∧ (s.pages.get q).state ≠ .sending ∧ (s.pages.get q).job = none := by
  obtain ⟨-, queue, sending, -⟩ := ok.queue.startUp starting
  have notQueued : (s.pages.get q).state ≠ .queued := fun h => by
    have := (ok.queue.table.queued q).2 h
    rw [queue] at this
    cases this
  have notSending : (s.pages.get q).state ≠ .sending := fun h => by
    have := (ok.queue.table.inFlight q).2 h
    rw [sending] at this
    cases this
  exact ⟨notQueued, notSending, by_contra fun held => ((ok.queue.table.jobs q).1 held).elim notQueued notSending⟩

theorem shut_of_starting (ok : s.QueueInOrder) (starting : s.starting = true) (l : LinkId) :
    (s.links.get l).state = .off ∧ (s.links.get l).engine = .idle ∧ (s.links.get l).page = none := by
  obtain ⟨-, -, -, off⟩ := ok.queue.startUp starting
  refine ⟨(off l).1, (off l).2, ?_⟩
  by_contra flying
  have busy := ok.queue.flight.busy.1 (ok.queue.flight.active_of_page flying ▸ flying)
  rw [(off s.active).2] at busy
  rcases busy with e | e <;> cases e

/-- The definitions loaded, with the records that go with them (R133, R172). -/
theorem takeDefinitions (ok : s.QueueInOrder) (starting : s.starting = true) {w : Switch} (pages : w.pages = s.pages)
    (queue : w.queue = s.queue) (sending : w.sending = s.sending) (links : w.links = s.links) (stopped : w.clock.running = false) :
    (takeDefinitions s w).QueueInOrder := by
  obtain ⟨-, empty, none, -⟩ := ok.queue.startUp starting
  have records (q : PageId) : (Switch.takeDefinitions s w).pages.get q =
      if (s.pageDef q).isSome && (w.pageDef q).isSome then s.pages.get q else Page.fresh := by
    unfold Switch.takeDefinitions
    rw [Bank.get_mapIdx, pages]
  refine of_shut (fun q => ?_) (fun q => ?_) (fun q undefined => ?_) (queue.trans empty) (sending.trans none) (fun l => ?_) stopped
  · rw [records]
    split
    · exact ok.idle_of_starting starting q
    · exact ⟨nofun, nofun, rfl⟩
  · rw [records]
    split
    · exact (ok.queue.table.sizes q).1
    · exact Nat.zero_le _
  · have undefined : w.pageDef q = Option.none := undefined
    rw [records, undefined]
    simp
  · change (w.links.get l).state = .off ∧ _
    rw [show (Switch.takeDefinitions s w).links = w.links from rfl, links]
    exact ok.shut_of_starting starting l

theorem takeFeed (ok : s.QueueInOrder) (starting : s.starting = true) : ({ s.takeFeed with starting := false } : Switch).QueueInOrder := by
  obtain ⟨-, empty, none, -⟩ := ok.queue.startUp starting
  have links (l : LinkId) : s.takeFeed.links.get l = s.startLink (s.groups.feed.enable.get l) (s.links.get l) := by
    cases l <;> rfl
  have same (enable : Bool) (x : Link) : (s.startLink enable x).engine = x.engine ∧ (s.startLink enable x).page = x.page := by
    unfold startLink Link.enabled
    repeat' split
    all_goals exact ⟨rfl, rfl⟩
  have idle (l : LinkId) : (s.takeFeed.links.get l).page = Option.none ∧ (s.takeFeed.links.get l).engine = .idle := by
    rw [links, (same _ _).1, (same _ _).2]
    exact ⟨(ok.shut_of_starting starting l).2.2, (ok.shut_of_starting starting l).2.1⟩
  refine of_queue (.of_live rfl ok.queue.table (Flight.idle idle s.groups.feed.home) (fun busy => absurd (idle _).2 busy) fun l disabled => ?_) none
  exact (congrArg Link.state (links l)).trans (by rw [show s.groups.feed.enable.get l = false from disabled]; rfl)

theorem taken (ok : s.QueueInOrder) {h : Head} {c : Cmd} {a : Option α} {body : α → Switch → Switch}
    (body_ok : ∀ x, s.starting = false → (body x s).QueueInOrder) : (s.takeCommand h c a body).QueueInOrder := by
  obtain e | ⟨tag, code, -, e⟩ | ⟨x, -, takes, e⟩ := takeCommand_cases s h c a body
  all_goals rw [e]
  · exact ok
  · exact ok.refuse _ _
  · exact body_ok x takes.2.1

theorem filterCommand (ok : s.QueueInOrder) (h : Head) (a : Fin 24 × Filter) : (filterCommand h a s).QueueInOrder := by
  unfold Switch.filterCommand
  dsimp only
  exact (ok.setGroups (by rfl) (by rfl)).answer _ _ _

theorem maskCommand (ok : s.QueueInOrder) (h : Head) (a : Fin 4 × Mask) : (maskCommand h a s).QueueInOrder := by
  unfold Switch.maskCommand
  dsimp only
  exact (ok.setGroups (by rfl) (by rfl)).answer _ _ _

theorem settingsCommand (ok : s.QueueInOrder) (h : Head) (a : SettingsParams) : (settingsCommand h a s).QueueInOrder := by
  unfold Switch.settingsCommand
  split
  · split
    · exact QueueInOrder.answer (ok.setGroups (by rfl) (by rfl)) _ _ _
    · exact ok.refuse _ _
  · exact QueueInOrder.answer (ok.setGroups (by rfl) (by rfl)) _ _ _
  · exact QueueInOrder.answer (ok.setGroups (by rfl) (by rfl)) _ _ _

theorem judgeTight (ok : s.QueueInOrder) : s.judgeTight.QueueInOrder := by
  unfold Switch.judgeTight
  split
  all_goals exact ok.frame (by constructor <;> rfl)

theorem emptyBeforeEnd (ok : s.QueueInOrder) : s.emptyBeforeEnd.QueueInOrder := by
  unfold Switch.emptyBeforeEnd
  split
  · exact ok
  · exact ok.frame (by constructor <;> rfl)

theorem takeDeadlines (ok : s.QueueInOrder) : s.takeDeadlines.QueueInOrder := foldl (fun _ h c => h.setActive c _) _ ok

theorem endStartUp (ok : s.QueueInOrder) : s.endStartUp.QueueInOrder := by
  unfold Switch.endStartUp
  split
  · rename_i starting
    obtain ⟨g, defaulted, loaded⟩ := s.loadSettings_eq
    have defined : (Switch.takeDefinitions s s.loadSettings.takeLength).QueueInOrder := by
      rw [loaded]
      exact ok.takeDefinitions starting rfl rfl rfl rfl (ok.queue.startUp starting).1
    have still : (Switch.takeDefinitions s s.loadSettings.takeLength).starting = true := by
      rw [loaded]
      exact starting
    dsimp only
    generalize Switch.takeDefinitions s s.loadSettings.takeLength = w at defined still
    have deadlines := defined.takeDeadlines
    have still : w.takeDeadlines.starting = true :=
      (Going.foldl (fun w c => going_setActive w c _) (allBelow 16) w).starting.trans still
    generalize w.takeDeadlines = w at deadlines still
    have judged : (w.judgeGroups s).QueueInOrder := deadlines.frame (by constructor <;> rfl)
    have still : (w.judgeGroups s).starting = true := still
    generalize w.judgeGroups s = w at judged still
    exact judged.emptyBeforeEnd.judgeTight.takeFeed
      (((going_emptyBeforeEnd w).trans (going_judgeTight _)).starting.trans still)
  · exact ok

end QueueInOrder

end Switch

/-! ### Every row -/

open Switch in
/-- The work of every row keeps the queue in order. -/
theorem queue_work (i : Instr) (s : Switch) (ok : s.QueueInOrder) : (work i s).QueueInOrder := by
  refine ?row
  cases i
  case file => exact ok.desk (desk_takeCommand fun _ => desk_fileCommand _ _ _)
  case find => exact ok.desk (desk_takeCommand fun _ => desk_findCommand _ _ _)
  case describe => exact ok.desk (desk_takeCommand fun _ => desk_onStory fun _ => s.desk_report _ _ _)
  case reclassify => exact ok.desk (desk_takeCommand fun _ => desk_reclassifyCommand _ _ _)
  case route => exact ok.desk (desk_takeCommand fun _ => desk_routeCommand _ _ _)
  case spike => exact ok.desk (desk_takeCommand fun _ => desk_spikeCommand _ _ _)
  case restore => exact ok.desk (desk_takeCommand fun _ => desk_restoreCommand _ _ _)
  case purge => exact ok.desk (desk_takeCommand fun _ => desk_purgeCommand _ _ _)
  case read => exact ok.desk (desk_takeCommand fun _ => desk_readCommand _ _ _)
  case storeStatus => exact ok.desk (desk_takeCommand fun _ => s.desk_answer _ _ _)
  case checkout => exact ok.desk (desk_takeCommand fun _ => desk_checkoutCommand _ _ _)
  case renew => exact ok.desk (desk_takeCommand fun _ => desk_renewCommand _ _ _)
  case abandon => exact ok.desk (desk_takeCommand fun _ => desk_abandonCommandFrame _ _ _)
  case checkin => exact ok.desk (desk_takeCommand fun _ => desk_checkinCommand _ _ _)
  case leaseExpiry => exact ok.desk (desk_expireLease _ _)
  case breakLock => exact ok.desk (desk_takeCommand fun _ => desk_breakCommand _ _ _)
  case offer => exact ok.desk (desk_takeCommand fun _ => desk_offerCommand _ _ _)
  case accept => exact ok.desk (desk_takeCommand fun _ => desk_acceptCommand _ _ _)
  case decline => exact ok.desk (desk_takeCommand fun _ => desk_declineCommand _ _ _)
  case withdraw => exact ok.desk (desk_takeCommand fun _ => desk_withdrawCommand _ _ _)
  case offerExpiry => exact ok.desk (desk_lapseOffer _ _)
  case collect => exact ok.desk (desk_takeCommand fun _ => desk_collectCommand _ _ _)
  case filter => exact ok.taken fun _ _ => ok.filterCommand _ _
  case mask => exact ok.taken fun _ _ => ok.maskCommand _ _
  case watch => exact ok.desk (desk_takeCommand fun _ => desk_watchCommand _ _ _)
  case unwatch => exact ok.desk (desk_takeCommand fun _ => desk_unwatchCommand _ _ _)
  case tick => exact ok.tick
  case editionTurn => exact ok.turnTick
  case clockStart => exact ok.taken fun _ live => ok.clockStartCommand live _ _
  case clockStop => exact ok.taken fun _ live => ok.clockStopCommand live _ _
  case turn => exact ok.taken fun _ live => ok.turnCommand live _ _
  case editionLength => exact ok.taken fun _ _ => ok.editionLengthCommand _ _
  case deadline => exact ok.taken fun _ _ => ok.deadlineCommand _ _
  case channel => exact ok.taken fun _ _ => ok.channelCommand _ _
  case warningPoint => exact ok.takeWarning _
  case deadlineMatch => exact ok.matchIfDue _
  case lateTick => exact ok.takeLateTick _
  case clockStatus => exact ok.taken fun _ _ => ok.report _ _ _
  case page => exact ok.taken fun _ _ => ok.pageCommand _ _
  case place => exact ok.taken fun _ _ => ok.placeCommand _ _
  case unplace => exact ok.taken fun _ _ => ok.unplaceCommand _ _
  case release => exact ok.taken fun _ live => ok.releaseCommand live _ _
  case row.recall => exact ok.taken fun _ live => ok.recallCommand live _ _
  case pageStatus => exact ok.taken fun _ _ => ok.pageStatusCommand _ _
  case readyLineRise => exact ok.riseReady _
  case readyLineFall => exact ok.fallReady _
  case linkSettled => exact ok.settleLink _
  case linkStall => exact ok.stallLink _
  case pageStart => exact ok.startPage
  case takeStrobe => exact ok.takeStrobe _
  case typesetterAccept => exact ok.acceptPage _
  case typesetterReject => exact ok.rejectPage _
  case paceWindowClose => exact ok.closeWindow
  case links => exact ok.taken fun _ live => ok.linksCommand live _ _
  case feedStatus => exact ok.taken fun _ _ => ok.report _ _ _
  case dataFrame => exact ok.desk (desk_dataFrame _ _ _ _)
  case dataWindowLapse => exact ok.desk (desk_lapseDataWindow _ _)
  case resultDataFrameSent => exact ok.desk (desk_sendNext _ _)
  case holdLineRise => exact ok.desk (s.desk_setPort _ _)
  case holdLineFall => exact ok.desk (s.desk_setPort _ _)
  case resultWindowLapse => exact ok.desk (desk_lapseResultWindow _ _)
  case frameFault => exact ok.desk (desk_faultyFrame _ _)
  case frameGapTimeout => exact ok.desk (desk_faultyFrame _ _)
  case unexpectedFrame => exact ok
  case unknownCommand => exact ok.desk (desk_unknownFrame _ _)
  case attach => exact ok.desk (desk_takeCommand fun _ => desk_attachCommand _ _ _)
  case reattach => exact ok.desk (desk_takeCommand fun _ => desk_reattachCommand _ _ _)
  case portResetLineRise => exact ok.desk (desk_clearPort _ _)
  case portResetLineFall => exact ok.desk (s.desk_setPort _ _)
  case portStatus => exact ok.desk (desk_takeCommand fun _ => s.desk_answer _ _ _)
  case settings => exact ok.taken fun _ _ => ok.settingsCommand _ _
  case save => exact ok.desk (desk_takeCommand fun _ => desk_saveCommand _ _ _)
  case saveWriteEnd => exact ok.desk s.desk_endSave
  case dump => exact ok.desk (desk_takeCommand fun _ => s.desk_report _ _ _)
  case hold => exact ok.taken fun _ _ => QueueInOrder.answer (ok.frame (by constructor <;> rfl)) _ _ _
  case unhold => exact ok.taken fun _ _ => QueueInOrder.answer (ok.frame (by constructor <;> rfl)) _ _ _
  case restart => exact ok.taken fun _ _ => (ok.answer _ _ _).beginRestart _
  case identify => exact ok.desk (desk_takeCommand fun _ => s.desk_answer _ _ _)
  case powerOn => exact .powerOn s
  case resetLineRise => exact ok.beginRestart _
  case startUpEnd => exact ok.endStartUp

open Switch in
/-- Settles O58: each row keeps the page table, the page in flight and start-up's clause together. -/
theorem stepsKeepTheQueueInOrder : Obligations.StepsKeepTheQueueInOrder :=
  step_keeps (fun s h => h.desk s.desk_quietly) queue_work (fun s h => h.desk s.desk_easedTest)
    fun s p h => h.desk (s.desk_setInbox p _)

end Sys2Proof.Machine
end

section
/-! SUPPORT. The accounts of the store (R21), the version lists (R27, R28) and the upload records (R24) as they follow from the slots, the
upload records and the ports' phases, and what a change of one slot or one record does to them. -/

namespace Sys2Proof.Machine

/-! ### Sums over a bank -/

/-- The sum of a count over the members of a bank. -/
def Bank.total (f : α → Nat) (b : Bank n α) : Nat := (b.cells.map f).sum

theorem Bank.total_eq_sum (f : α → Nat) (b : Bank n α) : b.total f = ∑ i, f (b.get i) := by
  have cells : b.cells = List.ofFn b.get := by
    refine List.ext_getElem (by simp [b.size]) fun k hk _ => ?_
    simp [Bank.get]
  unfold Bank.total
  rw [cells, List.map_ofFn, List.sum_ofFn]
  rfl

theorem Bank.total_congr {f : α → Nat} {g : β → Nat} {b : Bank n α} {c : Bank n β} (h : ∀ i, f (b.get i) = g (c.get i)) :
    b.total f = c.total g := by
  rw [Bank.total_eq_sum, Bank.total_eq_sum]
  exact Finset.sum_congr rfl fun i _ => h i

/-- One member replaced: its count leaves the sum and the new one's enters it. -/
theorem Bank.total_set (f : α → Nat) (b : Bank n α) (i : Fin n) (a : α) : (b.set i a).total f + f (b.get i) = b.total f + f a := by
  simp only [Bank.total_eq_sum]
  rw [← Finset.add_sum_erase _ _ (Finset.mem_univ i), ← Finset.add_sum_erase (a := i) _ (fun j => f (b.get j)) (Finset.mem_univ i)]
  have others : ∑ j ∈ Finset.univ.erase i, f ((b.set i a).get j) = ∑ j ∈ Finset.univ.erase i, f (b.get j) :=
    Finset.sum_congr rfl fun j hj => by rw [Bank.get_set_ne _ _ (Finset.ne_of_mem_erase hj).symm]
  rw [others, Bank.get_set_same]
  omega

theorem Bank.le_total (f : α → Nat) (b : Bank n α) (i : Fin n) : f (b.get i) ≤ b.total f := by
  rw [Bank.total_eq_sum]
  exact Finset.single_le_sum (f := fun j => f (b.get j)) (fun _ _ => Nat.zero_le _) (Finset.mem_univ i)

/-- The members of the lists of a bank, counted. -/
theorem Bank.count_flatMap [BEq γ] (f : α → List γ) (b : Bank n α) (c : γ) :
    (b.cells.flatMap f).count c = b.total fun x => (f x).count c := by
  rw [List.count_flatMap]
  rfl

/-! ### The accounts (R21) -/

/-- The blocks of a slot's version chains. -/
def Slot.blocks (x : Slot) : List Nat := x.chains.flatten

def stagingOf (u : Option Upload) : List Nat := (u.map Upload.staging).getD []

def remainingOf (u : Option Upload) : Nat := (u.map Upload.remaining).getD 0

/-- How often a block stands in the three places. -/
def copies (pool : List Nat) (slots : Bank 1024 Slot) (uploads : Bank 6 (Option Upload)) (b : Nat) : Nat :=
  pool.count b + slots.total (fun x => x.blocks.count b) + uploads.total fun u => (stagingOf u).count b

theorem count_heldBlocks (s : Switch) (b : Nat) : s.heldBlocks.count b = copies s.store.freePool s.slots s.uploads b := by
  unfold Switch.heldBlocks copies
  have chains : (s.slots.cells.flatMap Slot.chains).flatten = s.slots.cells.flatMap Slot.blocks := by
    simp only [List.flatMap_def, List.flatten_flatten, List.map_map]
    rfl
  rw [List.count_append, List.count_append, chains, Bank.count_flatMap, ← Bank.count_flatMap stagingOf]
  rfl

/-- Each block stands once in one place, and the counts agree with the places. -/
structure Accounts (pool : List Nat) (free held : Nat) (slots : Bank 1024 Slot) (uploads : Bank 6 (Option Upload)) : Prop where
  blocks : ∀ b, copies pool slots uploads b = (List.range 8192).count b
  freeCount : free = pool.length
  reserved : held = uploads.total remainingOf
  covered : held ≤ free

/-! ### The records (R24, R28) -/

/-- What the accounts and the version list's order read of a version. -/
def Version.shape (v : Version) : Nat × Nat × List Nat := (v.number, v.length, v.chain)

/-- A story's version list, in order and empty exactly while FILING. -/
def Story.listed (st : Story) : Prop := versionsInOrder st.versions ∧ (st.versions = [] ↔ st.status = .filing)

/-- An upload record that agrees with itself (R24). -/
structure Upload.Counted (u : Upload) : Prop where
  taken : u.taken ≤ u.declared ∧ u.declared ≤ 65535
  filling : u.mode = .filling →
    u.staging.length = (u.taken + 511) / 512 ∧ u.remaining + u.staging.length = (u.declared + 511) / 512
  draining : u.mode = .draining → u.staging = [] ∧ u.remaining = 0
  file : u.kind = .file → u.mode = .filling ∧ u.victim = none

/-- The lock of a CHECKIN's story, and the room its list has for the new version (R28, R46). -/
def Upload.lockedBy (u : Upload) (p : PortId) (st : Story) (l : Lock) : Prop :=
  st.status = .opened l ∧ l.holder.port = p ∧ l.suspended = true ∧
    (u.victim = none → st.versions.length ≤ 3) ∧ ∀ n, u.victim = some n → ∃ v ∈ st.versions, v.number = n

/-- The story an upload is for, by what its handle finds. -/
structure Upload.For (u : Upload) (p : PortId) (found : Option Story) : Prop where
  file : u.kind = .file → ∃ st, found = some st ∧ st.status = .filing
  checkin : ∀ keep, u.kind = .checkin keep → u.mode = .filling → ∃ st l, found = some st ∧ u.lockedBy p st l

/-- The story a handle names among the slots (R2). -/
def storyIn (slots : Bank 1024 Slot) (h : Handle) : Option Story :=
  if (slots.get h.slot).gen = h.gen then (slots.get h.slot).story else none

theorem story_eq_storyIn (s : Switch) (h : Handle) : s.story h = storyIn s.slots h := rfl

theorem storyIn_eq_some {slots : Bank 1024 Slot} {h : Handle} {st : Story} :
    storyIn slots h = some st ↔ (slots.get h.slot).gen = h.gen ∧ (slots.get h.slot).story = some st := by
  unfold storyIn
  split <;> simp_all

/-- The records of the slots and the uploads in accord. -/
structure Records (slots : Bank 1024 Slot) (uploads : Bank 6 (Option Upload)) : Prop where
  listed : ∀ i st, (slots.get i).story = some st → st.listed
  counted : ∀ p u, uploads.get p = some u → u.Counted
  stories : ∀ p u, uploads.get p = some u → u.For p (storyIn slots u.handle)
  files : ∀ p p' u u', uploads.get p = some u → uploads.get p' = some u' → u.kind = .file → u'.kind = .file →
    u.handle.slot = u'.handle.slot → p = p'

/-- The ports' phases in accord with their uploads and with the SAVE being written (R155, R169). -/
structure Phases (ports : Bank 6 Port) (uploads : Bank 6 (Option Upload)) (saving : Option Saving) : Prop where
  command : ∀ p, uploads.get p ≠ none → (ports.get p).phase = .command
  executing : ∀ x p, saving = some x → x.port = some p → (ports.get p).phase = .executing

theorem Switch.uploadInOrder_iff (s : Switch) (p : PortId) (u : Upload) :
    s.UploadInOrder p u ↔ (s.ports.get p).phase = .command ∧ u.Counted ∧ u.For p (storyIn s.slots u.handle) := by
  constructor
  · rintro ⟨phase, taken, filling, draining, file, checkin⟩
    refine ⟨phase, ⟨taken, filling, draining, fun h => ⟨(file h).1, (file h).2.1⟩⟩, fun h => (file h).2.2, fun keep kind mode => ?_⟩
    obtain ⟨st, l, found, rest⟩ := checkin keep kind mode
    exact ⟨st, l, found, rest⟩
  · rintro ⟨phase, ⟨taken, filling, draining, file⟩, story, lock⟩
    refine ⟨phase, taken, filling, draining, fun h => ⟨(file h).1, (file h).2, story h⟩, fun keep kind mode => ?_⟩
    obtain ⟨st, l, found, rest⟩ := lock keep kind mode
    exact ⟨st, l, found, rest⟩

theorem Switch.storeInOrder_iff (s : Switch) : s.StoreInOrder ↔
    Accounts s.store.freePool s.store.freeCount s.store.reserved s.slots s.uploads ∧ Records s.slots s.uploads ∧
      Phases s.ports s.uploads s.saving := by
  constructor
  · rintro ⟨blocks, freeCount, reserved, versions, uploads, files, saving⟩
    have inOrder (p : PortId) (u : Upload) (h : s.uploads.get p = some u) := (s.uploadInOrder_iff p u).1 (uploads p u h)
    refine ⟨⟨fun b => ?_, freeCount, reserved.1, reserved.2⟩, ⟨versions, fun p u h => (inOrder p u h).2.1,
      fun p u h => (inOrder p u h).2.2, files⟩, ⟨fun p h => ?_, saving⟩⟩
    · rw [← count_heldBlocks, blocks.count_eq]
    · obtain ⟨u, hu⟩ := Option.ne_none_iff_exists'.1 h
      exact (inOrder p u hu).1
  · rintro ⟨⟨blocks, freeCount, reserved, covered⟩, ⟨listed, counted, stories, files⟩, ⟨command, executing⟩⟩
    refine ⟨List.perm_iff_count.2 fun b => ?_, freeCount, ⟨reserved, covered⟩, listed, fun p u h => ?_, files, executing⟩
    · rw [count_heldBlocks, blocks]
    · exact (s.uploadInOrder_iff p u).2 ⟨command p (by simp [h]), counted p u h, stories p u h⟩

/-! ### Slots whose stories keep their lists -/

/-- The same generation, and a story with the same version list but for pins and marks, FILING exactly while the other is. -/
def Slot.Alike (x y : Slot) : Prop :=
  y.gen = x.gen ∧
    (x.story = none ∧ y.story = none ∨
      ∃ st st', x.story = some st ∧ y.story = some st' ∧ st'.versions.map Version.shape = st.versions.map Version.shape ∧
        (st'.status = .filing ↔ st.status = .filing))

theorem Slot.Alike.refl (x : Slot) : x.Alike x := by
  refine ⟨rfl, ?_⟩
  cases h : x.story with
  | none => exact .inl ⟨rfl, rfl⟩
  | some st => exact .inr ⟨st, st, rfl, rfl, rfl, Iff.rfl⟩

theorem Version.map_of_shape {l l' : List Version} (same : l'.map Version.shape = l.map Version.shape) (f : Nat × Nat × List Nat → α) :
    l'.map (fun v => f v.shape) = l.map fun v => f v.shape := by
  have := congrArg (List.map f) same
  rwa [List.map_map, List.map_map] at this

/-- The order of a version list reads the shapes alone. -/
theorem versionsInOrder_congr {l l' : List Version} (same : l'.map Version.shape = l.map Version.shape) :
    versionsInOrder l' ↔ versionsInOrder l := by
  have length : l'.length = l.length := by simpa using congrArg List.length same
  have numbers : l'.map Version.number = l.map Version.number := Version.map_of_shape same Prod.fst
  have each (k : List Version) : (∀ v ∈ k, 1 ≤ v.number ∧ v.number ≤ 65535 ∧ v.length ≤ 65535 ∧ v.chain.length = (v.length + 511) / 512) ↔
      ∀ x ∈ k.map Version.shape, 1 ≤ x.1 ∧ x.1 ≤ 65535 ∧ x.2.1 ≤ 65535 ∧ x.2.2.length = (x.2.1 + 511) / 512 := by
    simp [Version.shape]
  unfold versionsInOrder
  rw [length, numbers, each, each, same]

theorem Slot.Alike.blocks {x y : Slot} (h : x.Alike y) : y.blocks = x.blocks := by
  obtain ⟨-, ⟨hx, hy⟩ | ⟨st, st', hx, hy, same, -⟩⟩ := h
  · simp [Slot.blocks, Slot.chains, hx, hy]
  · have chains : st'.versions.map Version.chain = st.versions.map Version.chain := Version.map_of_shape same fun t => t.2.2
    simp [Slot.blocks, Slot.chains, hx, hy, chains]

theorem Slot.Alike.listed {x y : Slot} (h : x.Alike y) (hx : ∀ st, x.story = some st → st.listed) :
    ∀ st, y.story = some st → st.listed := by
  intro st hst
  obtain ⟨-, ⟨-, hy⟩ | ⟨old, new, own, hy, same, filing⟩⟩ := h
  · rw [hy] at hst
    cases hst
  · rw [hy] at hst
    cases hst
    obtain ⟨order, empty⟩ := hx old own
    refine ⟨(versionsInOrder_congr same).2 order, ?_⟩
    rw [filing, ← empty, ← List.map_eq_nil_iff (f := Version.shape), same, List.map_eq_nil_iff]

theorem Accounts.slots {pool : List Nat} {freeCount reserved : Nat} {slots slots' : Bank 1024 Slot} {uploads : Bank 6 (Option Upload)}
    (ok : Accounts pool freeCount reserved slots uploads) (alike : ∀ i, (slots.get i).Alike (slots'.get i)) :
    Accounts pool freeCount reserved slots' uploads := by
  refine { ok with blocks := fun b => ?_ }
  rw [← ok.blocks b]
  unfold copies
  congr 2
  exact Bank.total_congr fun i => by rw [(alike i).blocks]

/-- An upload of a CHECKIN in FILLING finds its lock again. -/
def LocksKept (slots slots' : Bank 1024 Slot) (uploads : Bank 6 (Option Upload)) : Prop :=
  ∀ p u keep st st' l, uploads.get p = some u → u.kind = .checkin keep → u.mode = .filling → storyIn slots u.handle = some st →
    storyIn slots' u.handle = some st' → st.status = .opened l → l.holder.port = p → l.suspended = true →
      ∃ l', st'.status = .opened l' ∧ l'.holder.port = p ∧ l'.suspended = true

theorem Slot.Alike.storyIn {slots slots' : Bank 1024 Slot} (alike : ∀ i, (slots.get i).Alike (slots'.get i)) {h : Handle} {st : Story}
    (found : Machine.storyIn slots h = some st) : ∃ st', Machine.storyIn slots' h = some st' ∧
      st'.versions.map Version.shape = st.versions.map Version.shape ∧ (st'.status = .filing ↔ st.status = .filing) := by
  obtain ⟨gen, own⟩ := storyIn_eq_some.1 found
  obtain ⟨gen', ⟨none, -⟩ | ⟨old, new, old_eq, new_eq, rest⟩⟩ := alike h.slot
  · rw [none] at own
    cases own
  · rw [old_eq] at own
    cases own
    exact ⟨new, storyIn_eq_some.2 ⟨gen'.trans gen, new_eq⟩, rest⟩

theorem Records.slots {slots slots' : Bank 1024 Slot} {uploads : Bank 6 (Option Upload)} (ok : Records slots uploads)
    (alike : ∀ i, (slots.get i).Alike (slots'.get i)) (locks : LocksKept slots slots' uploads) : Records slots' uploads := by
  refine { ok with listed := fun i st => (alike i).listed (ok.listed i) st, stories := fun p u hu => ⟨fun kind => ?_, fun keep kind mode => ?_⟩ }
  · obtain ⟨st, found, filing⟩ := (ok.stories p u hu).file kind
    obtain ⟨st', found', -, same⟩ := Slot.Alike.storyIn alike found
    exact ⟨st', found', same.2 filing⟩
  · obtain ⟨st, l, found, opened, port, suspended, room, victim⟩ := (ok.stories p u hu).checkin keep kind mode
    obtain ⟨st', found', same, -⟩ := Slot.Alike.storyIn alike found
    obtain ⟨l', opened', port', suspended'⟩ := locks p u keep st st' l hu kind mode found found' opened port suspended
    have length : st'.versions.length = st.versions.length := by simpa using congrArg List.length same
    have numbers : st'.versions.map Version.number = st.versions.map Version.number := Version.map_of_shape same Prod.fst
    refine ⟨st', l', found', opened', port', suspended', fun none => length.trans_le (room none), fun n hn => ?_⟩
    have : n ∈ st'.versions.map Version.number := by
      rw [numbers]
      exact List.mem_map.2 (victim n hn)
    exact List.mem_map.1 this

namespace Switch

/-! ### What leaves the accounts alone -/

/-- What the order of the store reads, as it was. -/
structure StoreFrame (s t : Switch) : Prop where
  pool : t.store.freePool = s.store.freePool
  freeCount : t.store.freeCount = s.store.freeCount
  reserved : t.store.reserved = s.store.reserved
  slots : t.slots = s.slots
  uploads : t.uploads = s.uploads
  saving : t.saving = s.saving
  phase : ∀ p, (t.ports.get p).phase = (s.ports.get p).phase

theorem StoreFrame.refl (s : Switch) : StoreFrame s s := ⟨rfl, rfl, rfl, rfl, rfl, rfl, fun _ => rfl⟩

theorem StoreFrame.trans {s t u : Switch} (a : StoreFrame s t) (b : StoreFrame t u) : StoreFrame s u where
  pool := b.pool.trans a.pool
  freeCount := b.freeCount.trans a.freeCount
  reserved := b.reserved.trans a.reserved
  slots := b.slots.trans a.slots
  uploads := b.uploads.trans a.uploads
  saving := b.saving.trans a.saving
  phase p := (b.phase p).trans (a.phase p)

/-- A port's record replaced by one in the same phase. -/
theorem setPort_storeFrame (s : Switch) (p : PortId) {x : Port} (phase : x.phase = (s.ports.get p).phase) : StoreFrame s (s.setPort p x) :=
  ⟨rfl, rfl, rfl, rfl, rfl, rfl, fun k => by
    simp only [setPort_fields, Bank.get_set]
    split
    · rename_i e
      rw [phase, e]
    · rfl⟩

theorem answer_storeFrame (s : Switch) (h : Head) (code : Code) (values : List Byte) : StoreFrame s (s.answer h code values) := by
  unfold answer
  dsimp only
  have sent : StoreFrame s (s.sendResult h.port h.tag code values) := ⟨rfl, rfl, rfl, rfl, rfl, rfl, fun _ => rfl⟩
  split
  · refine sent.trans ?_
    unfold lowerFaults
    split
    · exact .refl _
    · exact setPort_storeFrame _ _ rfl
  · exact sent

namespace StoreInOrder

variable {s t : Switch}

theorem accounts (ok : s.StoreInOrder) : Accounts s.store.freePool s.store.freeCount s.store.reserved s.slots s.uploads :=
  (s.storeInOrder_iff.1 ok).1

theorem records (ok : s.StoreInOrder) : Records s.slots s.uploads := (s.storeInOrder_iff.1 ok).2.1

theorem phases (ok : s.StoreInOrder) : Phases s.ports s.uploads s.saving := (s.storeInOrder_iff.1 ok).2.2

theorem of_parts (accounts : Accounts t.store.freePool t.store.freeCount t.store.reserved t.slots t.uploads)
    (records : Records t.slots t.uploads) (phases : Phases t.ports t.uploads t.saving) : t.StoreInOrder :=
  t.storeInOrder_iff.2 ⟨accounts, records, phases⟩

theorem frame (ok : s.StoreInOrder) (h : StoreFrame s t) : t.StoreInOrder := by
  refine of_parts ?_ ?_ ⟨fun p hp => ?_, fun x p hx port => ?_⟩
  · rw [h.pool, h.freeCount, h.reserved, h.slots, h.uploads]
    exact ok.accounts
  · rw [h.slots, h.uploads]
    exact ok.records
  · rw [h.phase]
    exact ok.phases.command p (h.uploads ▸ hp)
  · rw [h.phase]
    exact ok.phases.executing x p (h.saving ▸ hx) port

theorem answer (ok : s.StoreInOrder) (h : Head) (code : Code) (values : List Byte) : (s.answer h code values).StoreInOrder :=
  ok.frame (s.answer_storeFrame h code values)

theorem refuse (ok : s.StoreInOrder) (h : Head) (code : Code) : (s.refuse h code).StoreInOrder := ok.answer h code []

theorem post (ok : s.StoreInOrder) (n : Notice) (who : PortId → Bool) : (s.post n who).StoreInOrder :=
  ok.frame ⟨rfl, rfl, rfl, rfl, rfl, rfl, fun _ => rfl⟩

theorem foldl {f : Switch → α → Switch} (h : ∀ s, s.StoreInOrder → ∀ a, (f s a).StoreInOrder) (l : List α) (ok : s.StoreInOrder) :
    (l.foldl f s).StoreInOrder := by
  induction l generalizing s with
  | nil => exact ok
  | cons a l ih => exact ih (h s ok a)

/-- The slots changed in nothing that the accounts read. -/
theorem withSlots (ok : s.StoreInOrder) {slots : Bank 1024 Slot} (alike : ∀ i, (s.slots.get i).Alike (slots.get i))
    (locks : LocksKept s.slots slots s.uploads) : ({ s with slots := slots } : Switch).StoreInOrder :=
  of_parts (ok.accounts.slots alike) (ok.records.slots alike locks) ok.phases

end StoreInOrder

end Switch
end Sys2Proof.Machine
end

section
/-! SUPPORT. The order of the store under the shared operations on stories, pins and purges (R9, R17, R19, R31, R51, R56, R68). -/

namespace Sys2Proof.Machine

/-! ### One slot's story replaced -/

/-- A CHECKIN upload in FILLING at a port, for the story of a handle. -/
def Switch.checksIn (s : Switch) (p : PortId) (h : Handle) : Prop :=
  ∃ u keep, s.uploads.get p = some u ∧ u.kind = .checkin keep ∧ u.mode = .filling ∧ u.handle = h

/-- A story for another with the same list and the same FILING: the lock that a CHECKIN stands on is kept. -/
structure Switch.Restory (s : Switch) (i : SlotId) (st st' : Story) : Prop where
  shape : st'.versions.map Version.shape = st.versions.map Version.shape
  filing : st'.status = .filing ↔ st.status = .filing
  lock : ∀ l, st.status = .opened l → l.suspended = true → s.checksIn l.holder.port (s.handleAt i) →
    ∃ l', st'.status = .opened l' ∧ l'.holder.port = l.holder.port ∧ l'.suspended = true

namespace Switch

/-- The same status serves. -/
theorem Restory.of_status {s : Switch} {i : SlotId} {st st' : Story} (shape : st'.versions.map Version.shape = st.versions.map Version.shape)
    (status : st'.status = st.status) : s.Restory i st st' :=
  ⟨shape, by rw [status], fun l opened suspended _ => ⟨l, status.trans opened, rfl, suspended⟩⟩

/-- A story that no CHECKIN stands on may take any other status but FILING. -/
theorem Restory.of_free {s : Switch} {i : SlotId} {st st' : Story} (shape : st'.versions.map Version.shape = st.versions.map Version.shape)
    (notFiling : st.status ≠ .filing) (notFiling' : st'.status ≠ .filing)
    (free : ∀ l, st.status = .opened l → l.suspended = true → ¬s.checksIn l.holder.port (s.handleAt i)) : s.Restory i st st' :=
  ⟨shape, by simp [notFiling, notFiling'], fun l opened suspended held => absurd held (free l opened suspended)⟩

/-- A list in which versions have changed in pins and marks alone. -/
theorem changeVersion_shape {f : Version → Version} (same : ∀ v, (f v).shape = v.shape) (n : Nat) (l : List Version) :
    (changeVersion n f l).map Version.shape = l.map Version.shape := by
  unfold changeVersion
  rw [List.map_map]
  refine List.map_congr_left fun v _ => ?_
  simp only [Function.comp_apply]
  split
  · exact same v
  · rfl

namespace StoreInOrder

variable {s t : Switch}

theorem setStory (ok : s.StoreInOrder) {i : SlotId} {st st' : Story} (found : (s.slots.get i).story = some st)
    (restory : s.Restory i st st') : (s.setStory i st').StoreInOrder := by
  refine ok.withSlots (fun j => ?_) fun p u keep old new l hu kind mode from_ to_ opened port suspended => ?_
  · rw [Bank.get_set]
    split
    · rename_i e
      subst e
      exact ⟨rfl, .inr ⟨st, st', found, rfl, restory.shape, restory.filing⟩⟩
    · exact .refl _
  · obtain ⟨gen, own⟩ := storyIn_eq_some.1 from_
    obtain ⟨-, own'⟩ := storyIn_eq_some.1 to_
    rw [Bank.get_set] at own'
    split at own'
    · rename_i e
      have at_ : s.handleAt i = u.handle := by
        rw [handleAt, e]
        exact congrArg (Handle.mk u.handle.slot) gen
      rw [e, own] at found
      cases found
      cases own'
      obtain ⟨l', opened', port', suspended'⟩ := restory.lock l opened suspended ⟨u, keep, port ▸ hu, kind, mode, at_.symm⟩
      exact ⟨l', opened', port'.trans port, suspended'⟩
    · rw [own] at own'
      cases own'
      exact ⟨l, opened, port, suspended⟩

/-- A story changed by its handle. -/
theorem setStory_of_handle (ok : s.StoreInOrder) {k : Handle} {st st' : Story} (found : s.story k = some st)
    (restory : s.Restory k.slot st st') : (s.setStory k.slot st').StoreInOrder :=
  ok.setStory (story_eq_some.1 found).2 restory

theorem modifyVersions (ok : s.StoreInOrder) (k : Handle) {f : List Version → List Version}
    (shape : ∀ l, (f l).map Version.shape = l.map Version.shape) : (s.modifyVersions k f).StoreInOrder := by
  unfold Switch.modifyVersions
  split
  · exact ok
  · rename_i st found
    exact ok.setStory_of_handle found (.of_status (shape _) rfl)

theorem pin (ok : s.StoreInOrder) (k : Handle) (n : Nat) : (s.pin k n).StoreInOrder :=
  ok.modifyVersions k (changeVersion_shape (by exact fun _ => rfl) n)

theorem clearMark (ok : s.StoreInOrder) (u : Upload) : (s.clearMark u).StoreInOrder := by
  unfold Switch.clearMark
  split
  · exact ok
  · exact ok.modifyVersions _ (changeVersion_shape (by exact fun _ => rfl) _)

/-! ### Purges (R17) -/

/-- The story an upload is for is FILING or OPEN. -/
theorem not_spiked_of_upload (ok : s.StoreInOrder) {p : PortId} {u : Upload} (hu : s.uploads.get p = some u)
    (busy : u.kind = .file ∨ u.mode = .filling) : ∃ st, storyIn s.slots u.handle = some st ∧ ∀ b, st.status ≠ .spiked b := by
  have story := ok.records.stories p u hu
  cases kind : u.kind with
  | file =>
    obtain ⟨st, found, filing⟩ := story.file kind
    exact ⟨st, found, fun b => by rw [filing]; nofun⟩
  | checkin keep =>
    have mode : u.mode = .filling := busy.resolve_left (by rw [kind]; nofun)
    obtain ⟨st, l, found, opened, -⟩ := story.checkin keep kind mode
    exact ⟨st, found, fun b => by rw [opened]; nofun⟩

theorem forgetVictim_eq {h : Handle} {x : Option Upload} {u : Upload} (hu : forgetVictim h x = some u) :
    ∃ old, x = some old ∧ u = if old.handle = h then { old with victim := none } else old := by
  unfold forgetVictim at hu
  obtain ⟨old, own, e⟩ := Option.map_eq_some_iff.1 hu
  exact ⟨old, own, e.symm⟩

/-- What forgetting a victim leaves of an upload. -/
theorem forgetVictim_cases {h : Handle} {x : Option Upload} {u : Upload} (hu : forgetVictim h x = some u) :
    ∃ old, x = some old ∧ u.kind = old.kind ∧ u.handle = old.handle ∧ u.mode = old.mode ∧ (old.Counted → u.Counted) ∧
      (old.handle ≠ h → u = old) := by
  obtain ⟨old, own, e⟩ := forgetVictim_eq hu
  refine ⟨old, own, ?_⟩
  split at e <;> subst e
  · rename_i same
    exact ⟨rfl, rfl, rfl, fun c => ⟨c.taken, c.filling, c.draining, fun kind => ⟨(c.file kind).1, rfl⟩⟩, fun ne => absurd same ne⟩
  · exact ⟨rfl, rfl, rfl, id, fun _ => rfl⟩

theorem completePurge (ok : s.StoreInOrder) {i : SlotId} {st : Story} {b : Bool} (found : (s.slots.get i).story = some st)
    (spiked : st.status = .spiked b) : (s.completePurge i).StoreInOrder := by
  rw [completePurge_eq s i st found]
  have elsewhere {p : PortId} {u : Upload} (hu : s.uploads.get p = some u) (busy : u.kind = .file ∨ u.mode = .filling) :
      i ≠ u.handle.slot := by
    rintro rfl
    obtain ⟨st', found', notSpiked⟩ := ok.not_spiked_of_upload hu busy
    rw [(storyIn_eq_some.1 found').2] at found
    cases found
    exact notSpiked b spiked
  have forgotten (p : PortId) : (s.uploads.map (forgetVictim (s.handleAt i))).get p = forgetVictim (s.handleAt i) (s.uploads.get p) :=
    Bank.get_map _ _ _
  refine of_parts ⟨fun b => ?_, ?_, ?_, ?_⟩ ⟨fun j x hx => ?_, fun p u hu => ?_, fun p u hu => ?_, ?_⟩ ⟨fun p hp => ?_, ok.phases.executing⟩
  · rw [← ok.accounts.blocks b]
    have slots := Bank.total_set (fun x => x.blocks.count b) s.slots i { gen := (s.slots.get i).gen + 1, story := none }
    have uploads : (s.uploads.map (forgetVictim (s.handleAt i))).total (fun u => (stagingOf u).count b) =
        s.uploads.total fun u => (stagingOf u).count b := Bank.total_congr fun p => by
      rw [forgotten]
      cases s.uploads.get p with
      | none => rfl
      | some u => simp only [forgetVictim, stagingOf, Option.map_some, Option.getD_some]; split <;> rfl
    have vacant : ({ gen := (s.slots.get i).gen + 1, story := none } : Slot).blocks = [] := rfl
    have own : (s.slots.get i).blocks = (st.versions.map Version.chain).flatten := by simp [Slot.blocks, Slot.chains, found]
    have reverse : (st.versions.map Version.chain).reverse.flatten.count b = (st.versions.map Version.chain).flatten.count b :=
      ((List.reverse_perm _).flatten).count_eq b
    rw [vacant, own] at slots
    simp only [copies, List.count_append, List.count_nil, uploads, reverse] at slots ⊢
    omega
  · have lengths : (st.versions.map Version.chain).reverse.flatten.length = (st.versions.map fun v => v.chain.length).sum := by
      simp [List.length_flatten, Function.comp_def, List.sum_reverse]
    rw [List.length_append, lengths, ok.accounts.freeCount, Nat.add_comm]
  · rw [ok.accounts.reserved]
    refine Bank.total_congr fun p => ?_
    rw [forgotten]
    cases s.uploads.get p with
    | none => rfl
    | some u => simp only [forgetVictim, remainingOf, Option.map_some, Option.getD_some]; split <;> rfl
  · exact ok.accounts.covered.trans (Nat.le_add_right _ _)
  · rw [Bank.get_set] at hx
    split at hx
    · cases hx
    · exact ok.records.listed j x hx
  · rw [forgotten] at hu
    obtain ⟨old, own, -, -, -, counted, -⟩ := forgetVictim_cases hu
    exact counted (ok.records.counted p old own)
  · rw [forgotten] at hu
    obtain ⟨old, own, kind, handle, mode, -, same⟩ := forgetVictim_cases hu
    have kept (busy : u.kind = .file ∨ u.mode = .filling) : u = old ∧ storyIn (s.slots.set i { gen := (s.slots.get i).gen + 1, story := none })
        u.handle = storyIn s.slots old.handle := by
      have ne := elsewhere own (by rwa [kind, mode] at busy)
      refine ⟨same fun e => ne (by rw [e]; rfl), ?_⟩
      unfold storyIn
      rw [handle, Bank.get_set_ne _ _ ne]
    refine ⟨fun file => ?_, fun keep checkin filling => ?_⟩
    · obtain ⟨rfl, found'⟩ := kept (.inl file)
      rw [found']
      exact (ok.records.stories p u own).file file
    · obtain ⟨rfl, found'⟩ := kept (.inr filling)
      rw [found']
      exact (ok.records.stories p u own).checkin keep checkin filling
  · intro p p' u u' hu hu' kind kind' slot
    rw [forgotten] at hu hu'
    obtain ⟨old, own, e, handle, -⟩ := forgetVictim_cases hu
    obtain ⟨old', own', e', handle', -⟩ := forgetVictim_cases hu'
    exact ok.records.files p p' old old' own own' (e ▸ kind) (e' ▸ kind') (by rw [← handle, ← handle', slot])
  · refine ok.phases.command p fun none => hp ?_
    change (s.uploads.map (forgetVictim (s.handleAt i))).get p = _
    rw [forgotten, none]
    rfl

theorem purgeIfUnpinned (ok : s.StoreInOrder) (i : SlotId) : (s.purgeIfUnpinned i).StoreInOrder := by
  unfold Switch.purgeIfUnpinned
  split
  · exact ok
  · rename_i st found
    split
    · rename_i due
      exact ok.completePurge found due.1
    · exact ok

theorem requestPurge (ok : s.StoreInOrder) {i : SlotId} (spiked : ∀ st, (s.slots.get i).story = some st → ∃ b, st.status = .spiked b) :
    (s.requestPurge i).StoreInOrder := by
  unfold Switch.requestPurge
  split
  · exact ok
  · rename_i st found
    obtain ⟨b, hb⟩ := spiked st found
    split
    · exact ok.completePurge found hb
    · exact ok.setStory found (.of_free rfl (by rw [hb]; nofun) nofun fun l opened => by rw [hb] at opened; cases opened)

theorem unpin (ok : s.StoreInOrder) (k : Handle) (n : Nat) : (s.unpin k n).StoreInOrder := by
  unfold Switch.unpin
  split
  · exact ok
  · exact (ok.modifyVersions k (changeVersion_shape (f := fun v => { v with pins := v.pins - 1 }) (fun _ => rfl) n)).purgeIfUnpinned _

theorem releasePins (ok : s.StoreInOrder) (l : List Entry) : (s.releasePins l).StoreInOrder := by
  refine ok.foldl (fun s ok e => ?_) l
  split
  · exact ok
  · exact ok.unpin _ _

theorem snapshot (ok : s.StoreInOrder) (l : List Placement) : (s.snapshot l).1.StoreInOrder := by
  induction l generalizing s with
  | nil => exact ok
  | cons pl l ih =>
    simp only [Switch.snapshot]
    refine ih ?_
    split
    · exact ok
    · exact ok.pin _ _

/-! ### Locks and offers -/

theorem endLock (ok : s.StoreInOrder) {i : SlotId} {st : Story} {l : Lock} (k : NoticeKind) (found : (s.slots.get i).story = some st)
    (opened : st.status = .opened l) (free : l.suspended = true → ¬s.checksIn l.holder.port (s.handleAt i)) :
    (s.endLock i st l k).StoreInOrder := by
  have freed : (s.setStory i { st with status := .filed }).StoreInOrder := by
    refine ok.setStory found (.of_free rfl (by rw [opened]; nofun) nofun fun l' opened' => ?_)
    rw [opened] at opened'
    cases opened'
    exact free
  exact freed.post _ _

theorem expireOffer (ok : s.StoreInOrder) (r : Reason) (i : SlotId) : (expireOffer r s i).StoreInOrder := by
  unfold Switch.expireOffer
  split
  · exact ok
  · rename_i st found
    split
    · rename_i o offered
      have filed : (s.setStory i { st with status := .filed }).StoreInOrder :=
        ok.setStory found (.of_free rfl (by rw [offered]; nofun) nofun fun l opened => by rw [offered] at opened; cases opened)
      exact filed.post _ _
    · exact ok

theorem expireOffersTo (ok : s.StoreInOrder) (p : PortId) : (s.expireOffersTo p).StoreInOrder :=
  ok.foldl (fun _ ok i => ok.expireOffer _ i) _

/-- The locks of a port go when no upload of the port is open (R56). -/
theorem releaseLocks (ok : s.StoreInOrder) {p : PortId} (closed : s.uploads.get p = none) : (s.releaseLocks p).StoreInOrder := by
  have alike (x : Slot) : x.Alike (releaseLockOf p x) := by
    unfold releaseLockOf
    split
    · exact .refl x
    · rename_i st own
      split
      · rename_i l opened
        split
        · exact ⟨rfl, .inr ⟨st, _, own, rfl, rfl, by simp [opened]⟩⟩
        · exact .refl x
      · exact .refl x
  refine ok.withSlots (fun i => by rw [Bank.get_map]; exact alike _) fun q u keep st st' l hu kind mode from_ to_ opened port suspended => ?_
  have apart : q ≠ p := by
    rintro rfl
    rw [closed] at hu
    cases hu
  refine ⟨l, ?_, port, suspended⟩
  obtain ⟨-, own⟩ := storyIn_eq_some.1 from_
  obtain ⟨-, own'⟩ := storyIn_eq_some.1 to_
  rw [Bank.get_map] at own'
  unfold releaseLockOf at own'
  simp only [own, opened, port, apart, if_false] at own'
  cases own'
  exact opened

end StoreInOrder

end Switch
end Sys2Proof.Machine
end

section
/-! SUPPORT. The number of a new version (R27), and the order of the store through an upload: opened, filled, drained, failed and completed
(R23 to R26). -/

namespace Sys2Proof.Machine

/-! ### Version numbers (R27) -/

/-- The number i places after the number a, going round at 65,535. -/
def numberFrom (a i : Nat) : Nat := (a + i) % 65535 + 1

theorem numberAfter_eq {a : Nat} (low : 1 ≤ a) (high : a ≤ 65535) : numberAfter a = numberFrom a 0 := by
  unfold numberAfter numberFrom Config.versionNumberMax
  split <;> omega

theorem numberAfter_numberFrom (a i : Nat) : numberAfter (numberFrom a i) = numberFrom a (i + 1) := by
  unfold numberAfter numberFrom Config.versionNumberMax
  split <;> omega

theorem numberFrom_range (a i : Nat) : 1 ≤ numberFrom a i ∧ numberFrom a i ≤ 65535 := by
  unfold numberFrom
  omega

theorem numberFrom_inj {a i j : Nat} (hi : i < 65535) (hj : j < 65535) (h : numberFrom a i = numberFrom a j) : i = j := by
  unfold numberFrom at h
  omega

/-- The search for a free number goes on from number to number while they are held, and ends at one that is not, or out of fuel. -/
theorem freeNumber_skips (a : Nat) (held : List Nat) : ∀ fuel i, ∃ j, i ≤ j ∧ freeNumber held fuel (numberFrom a i) = numberFrom a j ∧
    (∀ k, i ≤ k → k < j → numberFrom a k ∈ held) ∧ (numberFrom a j ∈ held → j = i + fuel) := by
  intro fuel
  induction fuel with
  | zero => exact fun i => ⟨i, le_rfl, rfl, fun k low high => absurd low (Nat.not_le_of_lt high), fun _ => rfl⟩
  | succ fuel ih =>
    intro i
    by_cases taken : numberFrom a i ∈ held
    · obtain ⟨j, low, found, skipped, ends⟩ := ih (i + 1)
      refine ⟨j, Nat.le_of_succ_le low, ?_, fun k lowk high => ?_, fun full => by have := ends full; omega⟩
      · rw [freeNumber, if_pos (by simpa using taken), numberAfter_numberFrom, found]
      · rcases Nat.eq_or_lt_of_le lowk with rfl | later
        · exact taken
        · exact skipped k later high
    · refine ⟨i, le_rfl, ?_, fun k low high => absurd low (Nat.not_le_of_lt high), fun full => absurd full taken⟩
      rw [freeNumber, if_neg (by simpa using taken)]

/-- With as many tries as numbers held, the number found is free. -/
theorem freeNumber_free {a : Nat} {held : List Nat} (few : held.length ≤ 4) : ∃ j,
    freeNumber held held.length (numberFrom a 0) = numberFrom a j ∧ (∀ k < j, numberFrom a k ∈ held) ∧ numberFrom a j ∉ held := by
  obtain ⟨j, -, found, skipped, ends⟩ := freeNumber_skips a held held.length 0
  refine ⟨j, found, fun k high => skipped k (Nat.zero_le k) high, fun full => ?_⟩
  have j_eq := ends full
  rw [Nat.zero_add] at j_eq
  have nodup : ((List.range (j + 1)).map (numberFrom a)).Nodup := by
    refine List.Nodup.map_on (fun x hx y hy e => ?_) List.nodup_range
    rw [List.mem_range] at hx hy
    exact numberFrom_inj (by omega) (by omega) e
  have subset : (List.range (j + 1)).map (numberFrom a) ⊆ held := by
    intro n hn
    obtain ⟨k, hk, rfl⟩ := List.mem_map.1 hn
    rw [List.mem_range] at hk
    rcases Nat.eq_or_lt_of_le (Nat.le_of_lt_succ hk) with rfl | lt
    · exact full
    · exact skipped k (Nat.zero_le k) lt
  have := (List.subperm_of_subset nodup subset).length_le
  rw [List.length_map, List.length_range] at this
  omega

theorem newNumber_of_empty {st : Story} (empty : st.versions = []) (kept : List Version) : newNumber st kept = 1 := by
  simp [newNumber, Story.current, empty]

/-- A new version's number is the next that no kept version holds. -/
theorem newNumber_next {st : Story} {v : Version} {kept : List Version} (current : st.versions.getLast? = some v) (low : 1 ≤ v.number)
    (high : v.number ≤ 65535) (few : kept.length ≤ 4) : ∃ j, newNumber st kept = numberFrom v.number j ∧
      (∀ k < j, ∃ x ∈ kept, x.number = numberFrom v.number k) ∧ ∀ x ∈ kept, x.number ≠ newNumber st kept := by
  obtain ⟨j, found, skipped, free⟩ := freeNumber_free (a := v.number) (held := kept.map Version.number) (by simpa using few)
  have number : newNumber st kept = numberFrom v.number j := by
    unfold newNumber Story.current
    simp only [current]
    rw [numberAfter_eq low high, ← found, List.length_map]
  refine ⟨j, number, fun k hk => List.mem_map.1 (skipped k hk), fun x hx e => free ?_⟩
  rw [← number, ← e]
  exact List.mem_map_of_mem hx

/-- The number of a new version is one of R27's that no kept version has. -/
theorem newNumber_fresh {st : Story} {kept : List Version} (order : versionsInOrder st.versions) (sub : kept.Sublist st.versions) :
    (1 ≤ newNumber st kept ∧ newNumber st kept ≤ 65535) ∧ ∀ x ∈ kept, x.number ≠ newNumber st kept := by
  obtain ⟨length, -, each⟩ := order
  cases current : st.versions.getLast? with
  | none =>
    have empty := List.getLast?_eq_none_iff.1 current
    rw [newNumber_of_empty empty]
    rw [empty, List.sublist_nil] at sub
    subst sub
    exact ⟨⟨le_rfl, by decide⟩, nofun⟩
  | some v =>
    obtain ⟨low, high, -⟩ := each v (List.mem_of_getLast? current)
    obtain ⟨j, number, -, free⟩ := newNumber_next current low high (sub.length_le.trans length)
    exact ⟨by rw [number]; exact numberFrom_range _ _, free⟩

/-! ### One upload record and one slot replaced -/

theorem blocksFor_eq (n : Nat) : blocksFor n = (n + 511) / 512 := rfl

/-- Blocks that move between the pool, one slot and one staging chain keep the accounts. -/
theorem Accounts.move {pool pool' : List Nat} {free held held' : Nat} {slots : Bank 1024 Slot} {uploads : Bank 6 (Option Upload)}
    (ok : Accounts pool free held slots uploads) {i : SlotId} {y : Slot} {p : PortId} {x : Option Upload}
    (blocks : ∀ b, pool'.count b + y.blocks.count b + (stagingOf x).count b =
      pool.count b + (slots.get i).blocks.count b + (stagingOf (uploads.get p)).count b)
    (reserved : held' + remainingOf (uploads.get p) = held + remainingOf x) (covered : held' ≤ pool'.length) :
    Accounts pool' pool'.length held' (slots.set i y) (uploads.set p x) := by
  refine ⟨fun b => ?_, rfl, ?_, covered⟩
  · rw [← ok.blocks b]
    have own := blocks b
    have slot := Bank.total_set (fun x => x.blocks.count b) slots i y
    have upload := Bank.total_set (fun u => (stagingOf u).count b) uploads p x
    simp only [copies] at slot upload ⊢
    omega
  · have upload := Bank.total_set remainingOf uploads p x
    have := ok.reserved
    omega

/-- Blocks that move between the pool and one staging chain keep the accounts. -/
theorem Accounts.update {pool pool' : List Nat} {free held held' : Nat} {slots : Bank 1024 Slot} {uploads : Bank 6 (Option Upload)}
    (ok : Accounts pool free held slots uploads) {p : PortId} {x : Option Upload}
    (blocks : ∀ b, pool'.count b + (stagingOf x).count b = pool.count b + (stagingOf (uploads.get p)).count b)
    (reserved : held' + remainingOf (uploads.get p) = held + remainingOf x) (covered : held' ≤ pool'.length) :
    Accounts pool' pool'.length held' slots (uploads.set p x) := by
  have moved := ok.move (i := ⟨0, by decide⟩) (y := slots.get ⟨0, by decide⟩) (fun b => by have := blocks b; omega) reserved covered
  rwa [Bank.set_get] at moved

/-- An upload's remaining reservation is a part of the outstanding one. -/
theorem Accounts.remaining_le {pool : List Nat} {free held : Nat} {slots : Bank 1024 Slot} {uploads : Bank 6 (Option Upload)}
    (ok : Accounts pool free held slots uploads) {p : PortId} {u : Upload} (hu : uploads.get p = some u) : u.remaining ≤ held := by
  have := Bank.le_total remainingOf uploads p
  rw [hu, ← ok.reserved] at this
  exact this

theorem Records.setUpload {slots : Bank 1024 Slot} {uploads : Bank 6 (Option Upload)} (ok : Records slots uploads) {p : PortId}
    {x : Option Upload} (own : ∀ u, x = some u → u.Counted ∧ u.For p (storyIn slots u.handle))
    (files : ∀ u, x = some u → u.kind = .file → ∀ q y, q ≠ p → uploads.get q = some y → y.kind = .file →
      y.handle.slot ≠ u.handle.slot) : Records slots (uploads.set p x) := by
  refine ⟨ok.listed, fun q u hu => ?_, fun q u hu => ?_, fun q q' u u' hu hu' kind kind' slot => ?_⟩
  · rw [Bank.get_set] at hu
    split at hu
    · exact (own u hu).1
    · exact ok.counted q u hu
  · rw [Bank.get_set] at hu
    split at hu
    · rename_i e
      exact e ▸ (own u hu).2
    · exact ok.stories q u hu
  · rw [Bank.get_set] at hu hu'
    split at hu <;> split at hu'
    · rename_i e e'
      exact e.symm.trans e'
    · rename_i e e'
      exact absurd slot.symm (files u hu kind q' u' (Ne.symm e') hu' kind')
    · rename_i e e'
      exact absurd slot (files u' hu' kind' q u (Ne.symm e) hu kind)
    · exact ok.files q q' u u' hu hu' kind kind' slot

/-- An upload that goes on for the same story, in the same mode or in DRAINING, with no other kind or victim. -/
theorem Records.continueUpload {slots : Bank 1024 Slot} {uploads : Bank 6 (Option Upload)} (ok : Records slots uploads) {p : PortId}
    {u v : Upload} (hu : uploads.get p = some u) (kind : v.kind = u.kind) (handle : v.handle = u.handle) (victim : v.victim = u.victim)
    (mode : v.mode = .filling → u.mode = .filling) (counted : v.Counted) : Records slots (uploads.set p (some v)) := by
  refine ok.setUpload ?_ ?_
  · rintro _ ⟨⟩
    refine ⟨counted, fun file => ?_, fun keep checkin filling => ?_⟩
    · rw [handle]
      exact (ok.stories p u hu).file (kind ▸ file)
    · rw [handle]
      obtain ⟨st, l, found, locked⟩ := (ok.stories p u hu).checkin keep (kind ▸ checkin) (mode filling)
      unfold Upload.lockedBy at locked ⊢
      rw [victim]
      exact ⟨st, l, found, locked⟩
  · rintro _ ⟨⟩ file q y ne hy file' slot
    exact ne (ok.files q p y u hy hu file' (kind ▸ file) (by rw [slot, handle]))

theorem Phases.setUpload {ports : Bank 6 Port} {uploads : Bank 6 (Option Upload)} {saving : Option Saving}
    (ok : Phases ports uploads saving) {p : PortId} {x : Option Upload} (own : x ≠ none → (ports.get p).phase = .command) :
    Phases ports (uploads.set p x) saving := by
  refine ⟨fun q hq => ?_, ok.executing⟩
  rw [Bank.get_set] at hq
  split at hq
  · rename_i e
    exact e ▸ own hq
  · exact ok.command q hq

namespace Switch

/-! ### A port's phase -/

/-- A port with no upload and no SAVE may go to any phase. -/
theorem Phases_setPort {s : Switch} (ok : Phases s.ports s.uploads s.saving) {p : PortId} {x : Port} (closed : s.uploads.get p = none)
    (notSaving : ∀ y, s.saving = some y → y.port ≠ some p) : Phases (s.ports.set p x) s.uploads s.saving := by
  refine ⟨fun q hq => ?_, fun y q hy port => ?_⟩
  · rw [Bank.get_set_ne _ _ (by rintro rfl; exact hq closed)]
    exact ok.command q hq
  · rw [Bank.get_set_ne _ _ (by rintro rfl; exact notSaving y hy port)]
    exact ok.executing y q hy port

namespace StoreInOrder

variable {s t : Switch}

theorem closed_of_phase (ok : s.StoreInOrder) {p : PortId} (phase : (s.ports.get p).phase ≠ .command) : s.uploads.get p = none := by
  by_contra h
  exact phase (ok.phases.command p h)

theorem notSaving_of_phase (ok : s.StoreInOrder) {p : PortId} (phase : (s.ports.get p).phase ≠ .executing) (y : Saving)
    (hy : s.saving = some y) : y.port ≠ some p := fun port => phase (ok.phases.executing y p hy port)

theorem setPort (ok : s.StoreInOrder) {p : PortId} {x : Port} (closed : s.uploads.get p = none)
    (notSaving : ∀ y, s.saving = some y → y.port ≠ some p) : (s.setPort p x).StoreInOrder :=
  of_parts ok.accounts ok.records (Phases_setPort ok.phases closed notSaving)

/-- A port in RESULT or IDLE has no upload and no SAVE. -/
theorem setPort_of_phase (ok : s.StoreInOrder) {p : PortId} {x : Port} (command : (s.ports.get p).phase ≠ .command)
    (executing : (s.ports.get p).phase ≠ .executing) : (s.setPort p x).StoreInOrder :=
  ok.setPort (ok.closed_of_phase command) (ok.notSaving_of_phase executing)

theorem endStream (ok : s.StoreInOrder) {p : PortId} (closed : s.uploads.get p = none)
    (notSaving : ∀ y, s.saving = some y → y.port ≠ some p) : (s.endStream p).StoreInOrder := by
  have idle : (s.toIdle p).StoreInOrder := ok.setPort closed notSaving
  unfold Switch.endStream
  dsimp only
  split
  · exact idle.unpin _ _
  all_goals exact idle

/-! ### An upload that ends without a version (R9, R26, R50) -/

/-- A slot with no version and no upload in FILLING may be emptied. -/
theorem emptySlot (ok : s.StoreInOrder) {i : SlotId} {y : Slot} (vacant : y.story = none) (blocks : (s.slots.get i).blocks = [])
    (free : ∀ p u, s.uploads.get p = some u → u.kind = .file ∨ u.mode = .filling → u.handle.slot ≠ i) :
    ({ s with slots := s.slots.set i y } : Switch).StoreInOrder := by
  have none : y.blocks = [] := by simp [Slot.blocks, Slot.chains, vacant]
  refine of_parts ⟨fun b => ?_, ok.accounts.freeCount, ok.accounts.reserved, ok.accounts.covered⟩
    ⟨fun j st hst => ?_, ok.records.counted, fun p u hu => ?_, ok.records.files⟩ ok.phases
  · rw [← ok.accounts.blocks b]
    have slot := Bank.total_set (fun x => x.blocks.count b) s.slots i y
    simp only [copies, none, blocks] at slot ⊢
    omega
  · rw [Bank.get_set] at hst
    split at hst
    · rw [vacant] at hst
      cases hst
    · exact ok.records.listed j st hst
  · have same (busy : u.kind = .file ∨ u.mode = .filling) : storyIn (s.slots.set i y) u.handle = storyIn s.slots u.handle := by
      unfold storyIn
      rw [Bank.get_set_ne _ _ (free p u hu busy).symm]
    refine ⟨fun file => ?_, fun keep checkin filling => ?_⟩
    · dsimp only
      rw [same (.inl file)]
      exact (ok.records.stories p u hu).file file
    · dsimp only
      rw [same (.inr filling)]
      exact (ok.records.stories p u hu).checkin keep checkin filling

/-- A FILING story goes, when no FILE upload is left for its slot (R9). -/
theorem dropFile (ok : s.StoreInOrder) (h : Handle)
    (filing : ∀ st, s.story h = some st → st.status = .filing)
    (free : ∀ p u, s.uploads.get p = some u → u.kind = .file → u.handle.slot ≠ h.slot) : (s.dropFile h).StoreInOrder := by
  unfold Switch.dropFile
  split
  · exact ok
  · rename_i st found
    obtain ⟨-, own⟩ := story_eq_some.1 found
    have empty : st.versions = [] := (ok.records.listed _ st own).2.2 (filing st found)
    refine StoreInOrder.frame (s := { s with slots := s.slots.set h.slot { gen := (s.slots.get h.slot).gen + 1, story := none } })
      (ok.emptySlot rfl ?_ ?_) ⟨rfl, rfl, rfl, rfl, rfl, rfl, fun _ => rfl⟩
    · simp [Slot.blocks, Slot.chains, own, empty]
    · rintro p u hu busy slot
      cases kind : u.kind with
      | file => exact free p u hu kind slot
      | checkin keep =>
        obtain ⟨st', l, found', opened, -⟩ :=
          (ok.records.stories p u hu).checkin keep kind (busy.resolve_left (by rw [kind]; nofun))
        have own' := (storyIn_eq_some.1 found').2
        rw [slot, own] at own'
        cases own'
        rw [filing st found] at opened
        cases opened

/-- A returned upload's record is closed: staging chain and reservation go back (R26). -/
theorem closeFilling (ok : s.StoreInOrder) {p : PortId} {u : Upload} (hu : s.uploads.get p = some u) {x : Option Upload}
    (staging : stagingOf x = []) (remaining : remainingOf x = 0) (records : Records s.slots (s.uploads.set p x)) :
    ((s.returnUpload u).setUpload p x).StoreInOrder := by
  have held := ok.accounts.remaining_le hu
  have count : s.store.freeCount + u.staging.length = (u.staging ++ s.store.freePool).length := by
    rw [List.length_append, ok.accounts.freeCount, Nat.add_comm]
  refine of_parts ?_ records (ok.phases.setUpload fun _ => ok.phases.command p (by rw [hu]; nofun))
  change Accounts (u.staging ++ s.store.freePool) (s.store.freeCount + u.staging.length) (s.store.reserved - u.remaining) s.slots _
  rw [count]
  refine ok.accounts.update (fun b => ?_) ?_ ?_
  · rw [staging, hu]
    simp [stagingOf, Nat.add_comm]
  · simp only [hu, remainingOf, Option.map_some, Option.getD_some] at *
    omega
  · have := ok.accounts.covered
    omega

theorem clearMark_setUpload (s : Switch) (u : Upload) (p : PortId) (x : Option Upload) :
    (s.clearMark u).setUpload p x = (s.setUpload p x).clearMark u := by
  unfold Switch.clearMark Switch.modifyVersions
  split
  · rfl
  · rw [show (s.setUpload p x).story u.handle = s.story u.handle from rfl]
    split <;> rfl

theorem failUpload (ok : s.StoreInOrder) (p : PortId) : (s.failUpload p).StoreInOrder := by
  unfold Switch.failUpload
  split
  · exact ok
  · rename_i u hu
    have hu : s.uploads.get p = some u := hu
    dsimp only
    rw [clearMark_setUpload]
    refine StoreInOrder.clearMark ?_ u
    have records : Records s.slots (s.uploads.set p none) := ok.records.setUpload nofun nofun
    split
    · exact ok.closeFilling hu rfl rfl records
    · rename_i notFilling
      have draining : u.mode = .draining := by cases mode : u.mode <;> simp_all
      obtain ⟨staging, remaining⟩ := (ok.records.counted p u hu).draining draining
      refine of_parts ?_ records (ok.phases.setUpload nofun)
      have := ok.accounts.update (p := p) (x := none) (pool' := s.store.freePool) (held' := s.store.reserved) (fun b => ?_) ?_ ?_
      · rwa [← ok.accounts.freeCount] at this
      · simp [hu, stagingOf, staging]
      · simp [hu, remainingOf, remaining]
      · rw [← ok.accounts.freeCount]
        exact ok.accounts.covered

theorem failUpload_uploads (s : Switch) (p : PortId) : (s.failUpload p).uploads = s.uploads.set p none := by
  unfold Switch.failUpload
  split
  · rename_i closed
    have same := Bank.set_get s.uploads p
    rw [show s.uploads.get p = none from closed] at same
    exact same.symm
  · rename_i u hu
    dsimp only
    rw [clearMark_setUpload]
    unfold Switch.clearMark Switch.modifyVersions
    repeat' split
    all_goals rfl

end StoreInOrder

end Switch
end Sys2Proof.Machine
end

section
/-! SUPPORT. The order of the store through the data phase, the abandoning of a port's command, and the opening of an upload (R7, R9, R24 to
R26, R46, R48, R50, R54, R56, R158, R162). -/

namespace Sys2Proof.Machine

/-! ### One upload alone on its story -/

/-- Two uploads that stand on a story do not stand on one story (R7, R39). -/
theorem Records.alone {slots : Bank 1024 Slot} {uploads : Bank 6 (Option Upload)} (ok : Records slots uploads) {p q : PortId}
    {u y : Upload} (hu : uploads.get p = some u) (hy : uploads.get q = some y) (busy : u.kind = .file ∨ u.mode = .filling)
    (busy' : y.kind = .file ∨ y.mode = .filling) (slot : y.handle.slot = u.handle.slot) : q = p := by
  have story {r : PortId} {v : Upload} (hv : uploads.get r = some v) (h : v.kind = .file ∨ v.mode = .filling) :
      ∃ st, (slots.get v.handle.slot).story = some st ∧
        (v.kind = .file ∧ st.status = .filing ∨ ∃ l, st.status = .opened l ∧ l.holder.port = r) := by
    cases kind : v.kind with
    | file =>
      obtain ⟨st, found, filing⟩ := (ok.stories r v hv).file kind
      exact ⟨st, (storyIn_eq_some.1 found).2, .inl ⟨rfl, filing⟩⟩
    | checkin keep =>
      obtain ⟨st, l, found, opened, port, -⟩ := (ok.stories r v hv).checkin keep kind (h.resolve_left (by rw [kind]; nofun))
      exact ⟨st, (storyIn_eq_some.1 found).2, .inr ⟨l, opened, port⟩⟩
  obtain ⟨st, own, st_case⟩ := story hu busy
  obtain ⟨st', own', st_case'⟩ := story hy busy'
  rw [slot, own] at own'
  cases own'
  rcases st_case with ⟨kind, filing⟩ | ⟨l, opened, port⟩ <;> rcases st_case' with ⟨kind', filing'⟩ | ⟨l', opened', port'⟩
  · exact ok.files q p y u hy hu kind' kind slot
  · rw [filing] at opened'
    cases opened'
  · rw [filing'] at opened
    cases opened
  · rw [opened] at opened'
    cases opened'
    exact port'.symm.trans port

namespace Switch

/-- The store in order, but for the phase of a port whose command is being taken. -/
structure StoreBut (s : Switch) (p : PortId) : Prop where
  accounts : Accounts s.store.freePool s.store.freeCount s.store.reserved s.slots s.uploads
  records : Records s.slots s.uploads
  phases : Phases s.ports (s.uploads.set p none) s.saving

theorem StoreInOrder.storeBut {s : Switch} (ok : s.StoreInOrder) (p : PortId) : s.StoreBut p :=
  ⟨ok.accounts, ok.records, ok.phases.setUpload nofun⟩

/-- The data phase opens on a port with no SAVE. -/
theorem StoreBut.openDataPhase {s : Switch} {h : Head} (ok : s.StoreBut h.port) (c : Cmd)
    (notSaving : ∀ y, s.saving = some y → y.port ≠ some h.port) : (s.openDataPhase h c).StoreInOrder := by
  refine .of_parts ok.accounts ok.records ⟨fun q hq => ?_, fun y q hy port => ?_⟩
  · change ((s.ports.set h.port _).get q).phase = .command
    rw [Bank.get_set]
    split
    · rfl
    · rename_i ne
      refine ok.phases.command q ?_
      rw [Bank.get_set_ne _ _ ne]
      exact hq
  · change ((s.ports.set h.port _).get q).phase = .executing
    rw [Bank.get_set_ne _ _ (by rintro rfl; exact notSaving y hy port)]
    exact ok.phases.executing y q hy port

/-! ### A completion (R25) -/

/-- The versions that a completion keeps: all but the victim. -/
def keptVersions (u : Upload) (st : Story) : List Version := st.versions.filter fun v => u.victim != some v.number

/-- The version a completion makes. -/
def madeVersion (s : Switch) (u : Upload) (st : Story) : Version :=
  { number := newNumber st (keptVersions u st), length := u.declared, chain := u.staging, pins := 0, stamp := s.wall, author := u.author,
    retiring := false }

/-- The chains of the versions that a completion retires, the last in front. -/
def leavingChains (u : Upload) (st : Story) : List (List Nat) :=
  ((st.versions.filter fun v => u.victim == some v.number).map Version.chain).reverse

theorem retireChains_eq (l : List Version) (s : Switch) : ∃ released, l.foldl (fun s v => (s.returnChain v.chain).markReleased) s =
    { s with
      store := { s.store with
        freePool := (l.map Version.chain).reverse.flatten ++ s.store.freePool
        freeCount := s.store.freeCount + ((l.map Version.chain).reverse.map List.length).sum }
      last := { s.last with released := released } } := by
  induction l generalizing s with
  | nil => exact ⟨s.last.released, by simp⟩
  | cons v l ih =>
    obtain ⟨released, e⟩ := ih (s.returnChain v.chain).markReleased
    refine ⟨released, ?_⟩
    rw [List.foldl_cons, e]
    simp [returnChain, markReleased, setStore, Nat.add_assoc, Nat.add_comm]

theorem makeVersion_eq (s : Switch) (p : PortId) (u : Upload) (st : Story) : ∃ released, s.makeVersion p u st =
    ({ s with
        store := { s.store with
          freePool := (leavingChains u st).flatten ++ s.store.freePool
          freeCount := s.store.freeCount + ((leavingChains u st).map List.length).sum }
        uploads := s.uploads.set p none
        last := { s.last with released := released } },
      { st with versions := keptVersions u st ++ [s.madeVersion u st] }, newNumber st (keptVersions u st)) := by
  obtain ⟨released, e⟩ := retireChains_eq (st.versions.filter fun v => u.victim == some v.number) s
  refine ⟨released, ?_⟩
  unfold makeVersion
  simp only [e]
  rfl

/-- A completed upload's list: the kept versions and the new one, in order (R25, R27, R28). -/
theorem versionsInOrder_made {s : Switch} {u : Upload} {st : Story} (order : versionsInOrder st.versions)
    (room : (keptVersions u st).length ≤ 3) (counted : u.Counted) (staging : u.staging.length = (u.declared + 511) / 512) :
    versionsInOrder (keptVersions u st ++ [s.madeVersion u st]) := by
  have sub : (keptVersions u st).Sublist st.versions := List.filter_sublist
  obtain ⟨range, fresh⟩ := newNumber_fresh order sub
  obtain ⟨-, nodup, each⟩ := order
  refine ⟨by rw [List.length_append, List.length_singleton]; omega, ?_, fun v hv => ?_⟩
  · rw [List.map_append, List.nodup_append]
    refine ⟨nodup.sublist (sub.map _), by simp, fun a ha b hb => ?_⟩
    obtain ⟨x, hx, rfl⟩ := List.mem_map.1 ha
    simp only [List.map_cons, List.map_nil, List.mem_singleton] at hb
    rw [hb]
    exact fresh x hx
  · rcases List.mem_append.1 hv with kept | made
    · exact each v (sub.subset kept)
    · rw [List.mem_singleton.1 made]
      exact ⟨range.1, range.2, counted.taken.2, staging⟩

theorem count_retired (u : Upload) (st : Story) (b : Nat) : (leavingChains u st).flatten.count b +
    ((keptVersions u st).map Version.chain).flatten.count b = (st.versions.map Version.chain).flatten.count b := by
  have perm := (List.filter_append_perm (fun v : Version => u.victim == some v.number) st.versions).map Version.chain
  rw [List.map_append] at perm
  have count := perm.flatten.count_eq b
  rw [List.flatten_append, List.count_append] at count
  rw [← count]
  exact congrArg (· + _) ((List.reverse_perm _).flatten.count_eq b)

/-- A completion keeps the store in order: the victim's chain goes back, the staging chain becomes the new version's (R25). -/
theorem StoreBut.complete {s : Switch} {p : PortId} {u : Upload} {st st' : Story} (ok : s.StoreBut p) (hu : s.uploads.get p = some u)
    (filling : u.mode = .filling) (filled : u.taken = u.declared) (found : s.story u.handle = some st)
    (room : (keptVersions u st).length ≤ 3) (versions : st'.versions = keptVersions u st ++ [s.madeVersion u st])
    (status : st'.status ≠ .filing) : ((s.makeVersion p u st).1.setStory u.handle.slot st').StoreInOrder := by
  obtain ⟨released, e⟩ := s.makeVersion_eq p u st
  rw [e]
  obtain ⟨-, own⟩ := story_eq_some.1 found
  have counted := ok.records.counted p u hu
  obtain ⟨staging, remaining⟩ := counted.filling filling
  rw [filled] at staging
  have none_left : u.remaining = 0 := by omega
  have length : ((leavingChains u st).flatten ++ s.store.freePool).length =
      s.store.freeCount + ((leavingChains u st).map List.length).sum := by
    rw [List.length_append, List.length_flatten, ok.accounts.freeCount, Nat.add_comm]
  have others {q : PortId} {y : Upload} (hy : (s.uploads.set p none).get q = some y) : q ≠ p ∧ s.uploads.get q = some y := by
    rw [Bank.get_set] at hy
    split at hy
    · cases hy
    · rename_i ne
      exact ⟨Ne.symm ne, hy⟩
  refine .of_parts ?_ ⟨fun j x hx => ?_, fun q y hy => ok.records.counted q y (others hy).2, fun q y hy => ?_,
    fun q q' y y' hy hy' => ok.records.files q q' y y' (others hy).2 (others hy').2⟩ ok.phases
  · change Accounts ((leavingChains u st).flatten ++ s.store.freePool)
      (s.store.freeCount + ((leavingChains u st).map List.length).sum) s.store.reserved
      (s.slots.set u.handle.slot { s.slot u.handle.slot with story := some st' }) (s.uploads.set p none)
    rw [← length]
    refine ok.accounts.move (y := { s.slot u.handle.slot with story := some st' }) (fun b => ?_) ?_ ?_
    · have retired := count_retired u st b
      have blocks : ({ s.slot u.handle.slot with story := some st' } : Slot).blocks =
          ((keptVersions u st).map Version.chain).flatten ++ u.staging := by simp [Slot.blocks, Slot.chains, versions, madeVersion]
      have blocks' : (s.slots.get u.handle.slot).blocks = (st.versions.map Version.chain).flatten := by
        simp [Slot.blocks, Slot.chains, own]
      rw [blocks, blocks', hu]
      simp only [List.count_append, stagingOf, Option.map_none, Option.getD_none, List.count_nil, Option.map_some, Option.getD_some]
      omega
    · rw [hu]
      exact congrArg (s.store.reserved + ·) none_left
    · rw [length]
      exact ok.accounts.covered.trans (Nat.le_add_right _ _)
  · change ((s.slots.set u.handle.slot _).get j).story = some x at hx
    rw [Bank.get_set] at hx
    split at hx
    · cases hx
      refine ⟨versions ▸ versionsInOrder_made (ok.records.listed _ st own).1 room counted staging, ?_⟩
      rw [versions]
      exact ⟨fun empty => by simp at empty, fun filing => absurd filing status⟩
    · exact ok.records.listed j x hx
  · obtain ⟨ne, own_y⟩ := others hy
    have same (busy : y.kind = .file ∨ y.mode = .filling) (z : Slot) :
        storyIn (s.slots.set u.handle.slot z) y.handle = storyIn s.slots y.handle := by
      unfold storyIn
      rw [Bank.get_set_ne _ _ fun slot => ne (ok.records.alone hu own_y (.inr filling) busy slot.symm)]
    refine ⟨fun file => ?_, fun keep checkin mode => ?_⟩
    · change ∃ st, storyIn (s.slots.set _ _) _ = _ ∧ _
      rw [same (.inl file)]
      exact (ok.records.stories q y own_y).file file
    · change ∃ st l, storyIn (s.slots.set _ _) _ = _ ∧ _
      rw [same (.inr mode)]
      exact (ok.records.stories q y own_y).checkin keep checkin mode

/-- What a completion leaves of the port that it is for. -/
structure Done (s t : Switch) (p : PortId) : Prop where
  inOrder : t.StoreInOrder
  closed : t.uploads.get p = none
  saving : t.saving = s.saving

theorem StoreBut.completeFile {s : Switch} {h : Head} {u : Upload} (ok : s.StoreBut h.port) (hu : s.uploads.get h.port = some u)
    (file : u.kind = .file) (filled : u.taken = u.declared) : Done s (s.completeFile h u) h.port := by
  obtain ⟨st, found, filing⟩ := (ok.records.stories _ u hu).file file
  have found : s.story u.handle = some st := found
  have empty : st.versions = [] := (ok.records.listed _ st (story_eq_some.1 found).2).2.2 filing
  obtain ⟨mode, -⟩ := (ok.records.counted _ u hu).file file
  obtain ⟨released, e⟩ := s.makeVersion_eq h.port u st
  have completed := ok.complete hu mode filled found (by simp [keptVersions, empty])
    (st' := { (s.makeVersion h.port u st).2.1 with status := .filed }) (by rw [e]) nofun
  unfold Switch.completeFile
  rw [found]
  dsimp only
  refine ⟨StoreInOrder.answer (completed.post _ _) _ _ _, ?_, ?_⟩
  · simp only [answer_fields, postFiltered, post_fields, setStory_fields]
    rw [e]
    exact Bank.get_set_same _ _ _
  · simp only [answer_fields, postFiltered, post_fields, setStory_fields]
    rw [e]

theorem room_of_locked {u : Upload} {p : PortId} {st : Story} {l : Lock} (locked : u.lockedBy p st l) (order : versionsInOrder st.versions) :
    (keptVersions u st).length ≤ 3 := by
  obtain ⟨-, -, -, whole, held⟩ := locked
  cases victim : u.victim with
  | none => exact (List.length_filter_le _ _).trans (whole victim)
  | some n =>
    obtain ⟨v, hv, number⟩ := held n victim
    have := List.length_filter_lt_length_iff_exists (p := fun v : Version => u.victim != some v.number) (l := st.versions) |>.2
      ⟨v, hv, by simp [victim, number]⟩
    have := order.1
    unfold keptVersions
    omega

theorem StoreBut.completeCheckin {s : Switch} {h : Head} {u : Upload} {keep : Bool} (ok : s.StoreBut h.port)
    (hu : s.uploads.get h.port = some u) (checkin : u.kind = .checkin keep) (mode : u.mode = .filling) (filled : u.taken = u.declared) :
    Done s (s.completeCheckin h u keep) h.port := by
  obtain ⟨st, l, found, locked⟩ := (ok.records.stories _ u hu).checkin keep checkin mode
  have found : s.story u.handle = some st := found
  have room := room_of_locked locked (ok.records.listed _ st (story_eq_some.1 found).2).1
  have opened : st.status = .opened l := locked.1
  obtain ⟨released, e⟩ := s.makeVersion_eq h.port u st
  unfold Switch.completeCheckin
  rw [found]
  dsimp only
  simp only [e, opened]
  have completed (x : Status) (hx : x ≠ .filing) := ok.complete hu mode filled found room
    (st' := { st with versions := keptVersions u st ++ [s.madeVersion u st], status := x }) rfl hx
  rw [e] at completed
  refine ⟨StoreInOrder.answer (StoreInOrder.frame (completed
    (if keep then .opened { s.renewedLock l with suspended := false } else .filed) (by split <;> nofun)) ?_) _ _ _, ?_, ?_⟩
  · exact ⟨rfl, rfl, rfl, rfl, rfl, rfl, fun _ => rfl⟩
  · simp only [answer_fields, postChanged, postWatchers_fields, setStory_fields]
    exact Bank.get_set_same _ _ _
  · simp only [answer_fields, postChanged, postWatchers_fields, setStory_fields]

end Switch
end Sys2Proof.Machine
end

section
/-! SUPPORT. The order of the store under the data phase and the port's events (R9, R24, R26, R50, R54, R56, R158 to R165). -/

namespace Sys2Proof.Machine

namespace Switch

theorem VictimsForgotten.closed {a b : Bank 6 (Option Upload)} (h : VictimsForgotten a b) {p : PortId} (none : a.get p = none) :
    b.get p = Option.none := by
  rcases h p with e | ⟨u, hu, -⟩
  · exact e.trans none
  · rw [none] at hu
    cases hu

/-! ### What an upload's end leaves of the slots and of the SAVE -/

theorem clearMark_slots {s : Switch} {u : Upload} (none : u.victim = none) : s.clearMark u = s := by
  unfold clearMark
  rw [none]

theorem clearMark_saving (s : Switch) (u : Upload) : (s.clearMark u).saving = s.saving := by
  unfold clearMark modifyVersions
  repeat' split
  all_goals rfl

theorem failUpload_saving (s : Switch) (p : PortId) : (s.failUpload p).saving = s.saving := by
  unfold failUpload
  split
  · rfl
  · dsimp only
    rw [show (setUpload _ p none).saving = (clearMark _ _).saving from rfl, clearMark_saving]
    split <;> rfl

/-- A failed FILE leaves the slots as they were. -/
theorem failUpload_slots {s : Switch} {p : PortId} {u : Upload} (hu : s.uploads.get p = some u) (none : u.victim = none) :
    (s.failUpload p).slots = s.slots := by
  unfold failUpload
  rw [show s.upload p = some u from hu]
  dsimp only
  rw [clearMark_slots none]
  split <;> rfl

theorem handleAt_of_story {s : Switch} {k : Handle} {st : Story} (found : s.story k = some st) : s.handleAt k.slot = k :=
  congrArg (Handle.mk k.slot) (story_eq_some.1 found).1

namespace StoreInOrder

variable {s t : Switch}

/-- After a CHECKIN upload is gone, no other stands on its story. -/
theorem not_checksIn (ok : s.StoreInOrder) {p : PortId} {u : Upload} (hu : s.uploads.get p = some u) (filling : u.mode = .filling)
    {w : Switch} (gone : w.uploads = s.uploads.set p none) (q : PortId) : ¬w.checksIn q u.handle := by
  rintro ⟨y, keep, hy, -, mode, handle⟩
  rw [gone, Bank.get_set] at hy
  split at hy
  · cases hy
  · rename_i ne
    exact ne (ok.records.alone hu hy (.inr filling) (.inr mode) (by rw [handle])).symm

theorem resumeLease (ok : s.StoreInOrder) (k : Handle) (free : ∀ q, ¬s.checksIn q k) : (s.resumeLease k).StoreInOrder := by
  unfold Switch.resumeLease
  split
  · exact ok
  · rename_i st found
    have own := (story_eq_some.1 found).2
    have at_ := handleAt_of_story found
    split
    · rename_i l opened
      dsimp only
      have free' : ∀ l', st.status = .opened l' → l'.suspended = true → ¬s.checksIn l'.holder.port (s.handleAt k.slot) :=
        fun l' _ _ => by rw [at_]; exact free _
      split
      · have filed : (s.setStory k.slot { st with status := .filed }).StoreInOrder :=
          ok.setStory own (.of_free rfl (by rw [opened]; nofun) nofun free')
        exact filed.post _ _
      · exact ok.setStory own (.of_free rfl (by rw [opened]; nofun) nofun free')
    · exact ok

/-- A failed upload, with what its owner then does (R9, R26, R50, R55). -/
theorem settleFailure (ok : s.StoreInOrder) {p : PortId} {u : Upload} (hu : s.uploads.get p = some u) :
    ((s.failUpload p).settleFailure u).StoreInOrder := by
  have failed := ok.failUpload p
  unfold Switch.settleFailure
  split
  · rename_i file
    have slots := failUpload_slots hu ((ok.records.counted p u hu).file file).2
    refine failed.dropFile u.handle (fun st found => ?_) fun q y hy file' slot => ?_
    · obtain ⟨st', found', filing⟩ := (ok.records.stories p u hu).file file
      rw [story_eq_storyIn, slots, found'] at found
      cases found
      exact filing
    · rw [failUpload_uploads, Bank.get_set] at hy
      split at hy
      · cases hy
      · rename_i ne
        exact ne (ok.records.files q p y u hy hu file' file slot).symm
  · rename_i filling
    exact failed.resumeLease u.handle (ok.not_checksIn hu filling (failUpload_uploads s p))
  · exact failed

theorem abandonUpload (ok : s.StoreInOrder) (p : PortId) : (s.abandonUpload p).StoreInOrder := by
  have settled {u : Upload} (hu : s.uploads.get p = some u) := ok.settleFailure hu
  unfold Switch.abandonUpload
  split
  · exact ok
  · rename_i u hu
    dsimp only
    split
    · rename_i file
      have := settled hu
      unfold Switch.settleFailure at this
      rwa [file] at this
    · exact ok.failUpload p

theorem closed_abandonUpload (s : Switch) (p : PortId) : (s.abandonUpload p).uploads.get p = none := by
  have failed : (s.failUpload p).uploads.get p = none := by rw [failUpload_uploads, Bank.get_set_same]
  unfold Switch.abandonUpload
  split
  · rename_i closed
    exact closed
  · dsimp only
    split
    · exact (dropFile_frame _ _).uploads.closed failed
    · exact failed

theorem failDataPhase (ok : s.StoreInOrder) (p : PortId) (code : Code) : (failDataPhase p code s).StoreInOrder := by
  unfold Switch.failDataPhase
  split
  · exact ok
  · rename_i u hu
    have frame := settleFailure_frame (s.failUpload p) u
    refine StoreInOrder.refuse (StoreInOrder.setPort (ok.settleFailure hu) ?_ fun y hy => ?_) _ _
    · refine frame.uploads.closed ?_
      rw [failUpload_uploads, Bank.get_set_same]
    · rw [frame.saving, failUpload_saving] at hy
      refine ok.notSaving_of_phase (p := p) ?_ y hy
      rw [ok.phases.command p (by rw [show s.uploads.get p = some u from hu]; nofun)]
      nofun

/-! ### A drain (R54) -/

theorem drainUpload (ok : s.StoreInOrder) (p : PortId) (k : Handle) : (s.drainUpload p k).StoreInOrder := by
  unfold Switch.drainUpload
  split
  · exact ok
  · rename_i u hu
    have hu : s.uploads.get p = some u := hu
    split
    · rename_i keep kind
      split
      · refine ok.closeFilling hu rfl rfl (ok.records.continueUpload hu rfl rfl rfl nofun ⟨(ok.records.counted p u hu).taken, nofun,
          fun _ => ⟨rfl, rfl⟩, fun file => ?_⟩)
        rw [show u.kind = .file from file] at kind
        cases kind
      · exact ok
    · exact ok

/-- After the drain no CHECKIN at the port stands on the story. -/
theorem not_checksIn_drained (s : Switch) (p : PortId) (k : Handle) : ¬(s.drainUpload p k).checksIn p k := by
  rintro ⟨y, keep, hy, kind, mode, handle⟩
  unfold Switch.drainUpload at hy
  split at hy
  · rename_i closed
    rw [show s.uploads.get p = none from closed] at hy
    cases hy
  · rename_i u hu
    have hu : s.uploads.get p = some u := hu
    split at hy
    · split at hy
      · simp only [setUpload_fields, Bank.get_set_same] at hy
        cases hy
        cases mode
      · rename_i other
        rw [hu] at hy
        cases hy
        exact other ⟨handle, mode⟩
    · rename_i file
      rw [hu] at hy
      cases hy
      rw [file] at kind
      cases kind

/-- BREAK's lock ends with its drain, in either order. -/
theorem endLock_drainUpload (s : Switch) (i : SlotId) (st : Story) (l : Lock) (n : NoticeKind) (p : PortId) (k : Handle) :
    (s.endLock i st l n).drainUpload p k = (s.drainUpload p k).endLock i st l n := by
  unfold Switch.drainUpload
  rw [show (s.endLock i st l n).upload p = s.upload p from rfl]
  repeat' split
  all_goals rfl

/-! ### The data phase (R24, R158) -/

/-- A byte of an upload in FILLING that it still owes. -/
theorem pushByte {p : PortId} {u : Upload} (ok : (s.setUpload p (some u)).StoreInOrder) (mode : u.mode = .filling)
    (owed : u.taken < u.declared) (b : Byte) :
    ((pushByte (s, u) b).1.setUpload p (some (pushByte (s, u) b).2)).StoreInOrder ∧ (pushByte (s, u) b).2.mode = .filling ∧
      (pushByte (s, u) b).2.taken = u.taken + 1 ∧ (pushByte (s, u) b).2.declared = u.declared := by
  have hu : (s.setUpload p (some u)).uploads.get p = some u := Bank.get_set_same _ _ _
  have counted := ok.records.counted p u hu
  obtain ⟨staging, remaining⟩ := counted.filling mode
  have held := ok.accounts.remaining_le hu
  have covered := ok.accounts.covered
  have freeCount := ok.accounts.freeCount
  simp only [setUpload_fields] at held covered freeCount
  have block : Config.blockBytes = 512 := rfl
  have continued (v : Upload) (kind : v.kind = u.kind) (handle : v.handle = u.handle) (victim : v.victim = u.victim)
      (filling : v.mode = u.mode) (counted : v.Counted) : Records s.slots (s.uploads.set p (some v)) := by
    have := ok.records.continueUpload hu kind handle victim (fun h => filling ▸ h) counted
    simpa only [setUpload_fields, Bank.set_set] using this
  have phases (v : Upload) : Phases s.ports (s.uploads.set p (some v)) s.saving := by
    have := ok.phases.setUpload (p := p) (x := some v) fun _ => ok.phases.command p (by rw [hu]; nofun)
    simpa only [setUpload_fields, Bank.set_set] using this
  unfold Switch.pushByte
  dsimp only
  by_cases start : u.taken % Config.blockBytes = 0
  · simp only [start, if_true]
    rw [block] at start
    cases pool : s.store.freePool with
    | nil =>
      rw [pool, List.length_nil] at freeCount
      omega
    | cons k rest =>
      rw [pool, List.length_cons] at freeCount
      refine ⟨.of_parts ?_ (continued _ rfl rfl rfl rfl ⟨⟨owed, counted.taken.2⟩, fun _ => ⟨?_, ?_⟩, fun h => ?_, fun h => ?_⟩) (phases _),
        mode, rfl, rfl⟩
      · change Accounts rest (s.store.freeCount - 1) (s.store.reserved - 1) s.slots (s.uploads.set p _)
        rw [show s.store.freeCount - 1 = rest.length by omega]
        have accounts := ok.accounts.update (p := p) (pool' := rest) (held' := s.store.reserved - 1)
          (x := some { u with staging := u.staging ++ [k], remaining := u.remaining - 1, taken := u.taken + 1 })
          (fun b => ?_) ?_ ?_
        · simpa only [setUpload_fields, Bank.set_set] using accounts
        · simp only [setUpload_fields, Bank.get_set_same, pool, stagingOf, Option.map_some, Option.getD_some, List.count_append, List.count_cons,
            List.count_nil]
          omega
        · simp only [setUpload_fields, Bank.get_set_same, remainingOf, Option.map_some, Option.getD_some]
          omega
        · omega
      · simp only [List.length_append, List.length_singleton]
        omega
      · simp only [List.length_append, List.length_singleton]
        omega
      · rw [mode] at h
        cases h
      · exact ⟨mode, (counted.file h).2⟩
  · simp only [start, if_false]
    rw [block] at start
    refine ⟨.of_parts ?_ (continued _ rfl rfl rfl rfl ⟨⟨owed, counted.taken.2⟩, fun _ => ⟨?_, remaining⟩, fun h => ?_, fun h => ?_⟩)
      (phases _), mode, trivial, trivial⟩
    · change Accounts s.store.freePool s.store.freeCount s.store.reserved s.slots (s.uploads.set p _)
      have accounts := ok.accounts.update (p := p) (pool' := s.store.freePool) (held' := s.store.reserved)
        (x := some { u with taken := u.taken + 1 }) (fun b => ?_) ?_ ?_
      · rw [freeCount]
        simpa only [setUpload_fields, Bank.set_set] using accounts
      · simp only [setUpload_fields, Bank.get_set_same]
        rfl
      · simp only [setUpload_fields, Bank.get_set_same]
        rfl
      · omega
    · dsimp only
      omega
    · rw [mode] at h
      cases h
    · exact ⟨mode, (counted.file h).2⟩

theorem pushText {p : PortId} (text : List Byte) : ∀ {s : Switch} {u : Upload}, (s.setUpload p (some u)).StoreInOrder →
    u.mode = .filling → u.taken + text.length ≤ u.declared →
      ((s.pushText u text).1.setUpload p (some (s.pushText u text).2)).StoreInOrder := by
  induction text with
  | nil => exact fun ok _ _ => ok
  | cons b text ih =>
    intro s u ok mode owed
    rw [List.length_cons] at owed
    have pushed := pushByte ok mode (by omega) b
    change ((text.foldl Switch.pushByte (Switch.pushByte (s, u) b)).1.setUpload p
      (some (text.foldl Switch.pushByte (Switch.pushByte (s, u) b)).2)).StoreInOrder
    generalize Switch.pushByte (s, u) b = r at pushed
    obtain ⟨w, v⟩ := r
    obtain ⟨ok', mode', taken, declared⟩ := pushed
    exact ih ok' mode' (by rw [taken, declared]; omega)

theorem handText (ok : s.StoreInOrder) {p : PortId} {u : Upload} (hu : s.uploads.get p = some u) {text : List Byte}
    (owed : u.taken + text.length ≤ u.declared) : ((s.handText u text).1.setUpload p (some (s.handText u text).2)).StoreInOrder := by
  unfold Switch.handText
  split
  · rename_i mode
    refine pushText text ?_ mode owed
    rwa [show s.setUpload p (some u) = s from by rw [setUpload, ← hu, Bank.set_get]]
  · rename_i mode
    have counted := ok.records.counted p u hu
    obtain ⟨staging, remaining⟩ := counted.draining mode
    refine .of_parts ?_ (ok.records.continueUpload hu rfl rfl rfl id ⟨⟨owed, counted.taken.2⟩, fun filling => ?_,
      fun _ => ⟨staging, remaining⟩, counted.file⟩) (ok.phases.setUpload fun _ => ok.phases.command p (by rw [hu]; nofun))
    · have accounts := ok.accounts.update (p := p) (pool' := s.store.freePool) (held' := s.store.reserved)
        (x := some { u with taken := u.taken + text.length }) (fun b => ?_) ?_ ?_
      · rwa [← ok.accounts.freeCount] at accounts
      · rw [hu]
        rfl
      · rw [hu]
        rfl
      · rw [← ok.accounts.freeCount]
        exact ok.accounts.covered
    · rw [show u.mode = .filling from filling] at mode
      cases mode

theorem toIdle_of_done (ok : s.StoreInOrder) {p : PortId} (phase : (s.ports.get p).phase = .command) (done : Done s t p) : (t.toIdle p).StoreInOrder :=
  done.inOrder.setPort done.closed fun y hy => by
    rw [done.saving] at hy
    exact ok.notSaving_of_phase (by rw [phase]; nofun) y hy

theorem endUpload (ok : s.StoreInOrder) {p : PortId} {u : Upload} (hu : s.uploads.get p = some u) (filled : u.taken = u.declared) :
    (s.endUpload p u).StoreInOrder := by
  have phase := ok.phases.command p (by rw [hu]; nofun)
  unfold Switch.endUpload
  dsimp only
  split
  · refine StoreInOrder.refuse (StoreInOrder.setPort (ok.failUpload p) ?_ fun y hy => ?_) _ _
    · rw [failUpload_uploads, Bank.get_set_same]
    · rw [failUpload_saving] at hy
      exact ok.notSaving_of_phase (by rw [phase]; nofun) y hy
  · rename_i kind
    exact ok.toIdle_of_done phase ((ok.storeBut p).completeFile (h := s.runningHead p) hu kind filled)
  · rename_i keep mode kind
    exact ok.toIdle_of_done phase ((ok.storeBut p).completeCheckin (h := s.runningHead p) hu kind mode filled)

theorem takeText (ok : s.StoreInOrder) {p : PortId} {u : Upload} (hu : s.uploads.get p = some u) {text : List Byte}
    (owed : u.taken + text.length ≤ u.declared) : (s.takeText p u text).StoreInOrder := by
  have handed := ok.handText hu owed
  unfold Switch.takeText
  generalize s.handText u text = r at handed
  obtain ⟨w, v⟩ := r
  dsimp only at handed ⊢
  have taken : ((w.setUpload p (some v)).setPort p { (w.setUpload p (some v)).port p with dataStart := (w.setUpload p (some v)).wall }).StoreInOrder :=
    handed.frame (setPort_storeFrame _ p rfl)
  split
  · rename_i filled
    exact taken.endUpload (Bank.get_set_same _ _ _) filled
  · exact taken

/-! ### Detach, port reset and counted faults (R161, R162, R165) -/

theorem orphanSave (ok : s.StoreInOrder) (p : PortId) : (s.orphanSave p).StoreInOrder := by
  unfold Switch.orphanSave
  split
  · exact ok
  · split
    · exact .of_parts ok.accounts ok.records ⟨ok.phases.command, by rintro _ q ⟨⟩ ⟨⟩⟩
    · exact ok

theorem notSaving_orphanSave (s : Switch) (p : PortId) (y : Saving) (hy : (s.orphanSave p).saving = some y) : y.port ≠ some p := by
  unfold Switch.orphanSave at hy
  split at hy
  · rename_i none
    rw [none] at hy
    cases hy
  · rename_i x saving
    split at hy
    · cases hy
      nofun
    · rename_i other
      rw [saving] at hy
      cases hy
      exact other

theorem abandonCommand (ok : s.StoreInOrder) (p : PortId) : (s.abandonCommand p).StoreInOrder := by
  refine StoreInOrder.endStream ((ok.abandonUpload p).orphanSave p) ?_ (notSaving_orphanSave _ p)
  have closed := closed_abandonUpload s p
  unfold Switch.orphanSave
  repeat' split
  all_goals exact closed

theorem endStream_uploads (s : Switch) (p : PortId) : VictimsForgotten s.uploads (s.endStream p).uploads := by
  unfold Switch.endStream
  dsimp only
  split
  · exact (unpin_frame _ _ _).uploads
  all_goals exact .refl _

theorem closed_abandonCommand (s : Switch) (p : PortId) : (s.abandonCommand p).uploads.get p = none := by
  refine (endStream_uploads _ p).closed ?_
  have closed := closed_abandonUpload s p
  unfold Switch.orphanSave
  repeat' split
  all_goals exact closed

theorem detach (ok : s.StoreInOrder) (p : PortId) : (s.detach p).StoreInOrder := by
  have gone : (s.setPort p { s.port p with standing := .detached, quietStart := s.wall }).StoreInOrder :=
    ok.frame (setPort_storeFrame _ _ rfl)
  have released := (gone.abandonCommand p).releaseLocks (closed_abandonCommand _ p)
  have emptied := released.frame (t := ((Switch.releaseLocks _ p).dropWatches fun w => w.port == p).emptyInbox p)
    ⟨rfl, rfl, rfl, rfl, rfl, rfl, fun _ => rfl⟩
  exact (emptied.expireOffersTo p).post _ _

theorem clearPort (ok : s.StoreInOrder) (p : PortId) : (clearPort p s).StoreInOrder := by
  have raised : (s.setPort p { s.port p with resetLine := true }).StoreInOrder := ok.frame (setPort_storeFrame _ _ rfl)
  exact ((raised.abandonCommand p).releaseLocks (closed_abandonCommand _ p)).frame ⟨rfl, rfl, rfl, rfl, rfl, rfl, fun _ => rfl⟩

theorem countFault (ok : s.StoreInOrder) (p : PortId) {k : Switch → Switch} (did : (k s).StoreInOrder) :
    (s.countFault p k).StoreInOrder := by
  unfold Switch.countFault
  split
  · exact ok.detach p
  · exact did.frame (setPort_storeFrame _ _ rfl)

theorem dataFrame (ok : s.StoreInOrder) (p : PortId) (tag : Byte) (text : List Byte) : (dataFrame p tag text s).StoreInOrder := by
  unfold Switch.dataFrame
  dsimp only
  split
  · split
    · exact ok
    · rename_i u hu
      split
      · exact ok.countFault p (ok.failDataPhase p _)
      · rename_i owed
        exact ok.takeText hu (by omega)
  · exact ok

theorem lapseDataWindow (ok : s.StoreInOrder) (p : PortId) : (lapseDataWindow p s).StoreInOrder := by
  unfold Switch.lapseDataWindow
  split
  · exact ok.countFault p (ok.failDataPhase p _)
  · exact ok

/-! ### The result phase (R159) -/

theorem endStream_of_result (ok : s.StoreInOrder) {p : PortId} (phase : (s.ports.get p).phase = .result) : (s.endStream p).StoreInOrder :=
  ok.endStream (ok.closed_of_phase (by rw [phase]; nofun)) (ok.notSaving_of_phase (by rw [phase]; nofun))

theorem sendNext (ok : s.StoreInOrder) (p : PortId) : (sendNext p s).StoreInOrder := by
  unfold Switch.sendNext
  dsimp only
  split
  · rename_i due
    have phase : (s.ports.get p).phase = .result := due.1
    have sent (payload : List Byte) : (s.sendResultData p payload).StoreInOrder := ok.frame ⟨rfl, rfl, rfl, rfl, rfl, rfl, fun _ => rfl⟩
    split
    · exact ok.endStream_of_result phase
    · unfold sendText
      split
      · exact ok.endStream_of_result phase
      · dsimp only
        split
        · exact (sent _).endStream_of_result phase
        · exact (sent _).frame (setPort_storeFrame _ _ rfl)
    · unfold sendNotice
      dsimp only
      split
      · exact ok.endStream_of_result phase
      · have taken (payload : List Byte) (box : Inbox) : ((s.sendResultData p payload).setInbox p box).StoreInOrder :=
          (sent payload).frame ⟨rfl, rfl, rfl, rfl, rfl, rfl, fun _ => rfl⟩
        split
        · exact (taken _ _).endStream_of_result phase
        · exact (taken _ _).frame (setPort_storeFrame _ _ rfl)
    · unfold sendReport
      split
      · exact ok.endStream_of_result phase
      · dsimp only
        split
        · exact (sent _).endStream_of_result phase
        · exact (sent _).frame (setPort_storeFrame _ _ rfl)
  · exact ok

theorem lapseResultWindow (ok : s.StoreInOrder) (p : PortId) : (lapseResultWindow p s).StoreInOrder := by
  unfold Switch.lapseResultWindow
  split
  · rename_i due
    refine ok.countFault p (ok.endStream_of_result ?_)
    unfold resultWindowDue at due
    split at due
    · rename_i phase _
      exact phase
    · cases due
  · exact ok

theorem faultyFrame (ok : s.StoreInOrder) (p : PortId) : (faultyFrame p s).StoreInOrder := by
  unfold Switch.faultyFrame
  dsimp only
  split
  · exact ok
  · split
    · exact ok.frame (setPort_storeFrame _ _ rfl)
    · exact ok.countFault p (ok.frame ⟨rfl, rfl, rfl, rfl, rfl, rfl, fun _ => rfl⟩)

end StoreInOrder

end Switch
end Sys2Proof.Machine
end

section
/-! SUPPORT. A predicate through a command's checks (R2, R5, R12, R44, R65, R66, R156), and the order of the store under the commands of the
directory, of custody and of passing (spec/01 to spec/04). -/

namespace Sys2Proof.Machine

namespace Switch

/-! ### A predicate through a command's checks -/

section

variable {P : Switch → Prop} {s t : Switch} {h : Head}

theorem takeCommand_of {c : Cmd} {a : Option α} {body : α → Switch → Switch} (same : P s) (refuse : ∀ h code, P (s.refuse h code))
    (did : ∀ x, a = some x → s.takes h c → P (body x s)) : P (s.takeCommand h c a body) := by
  obtain e | ⟨tag, code, -, e⟩ | ⟨x, hx, takes, e⟩ := takeCommand_cases s h c a body
  all_goals rw [e]
  · exact same
  · exact refuse _ _
  · exact did x hx takes

theorem onStory_of {k : Handle} {f : Story → Switch} (refuse : ∀ code, P (s.refuse h code)) (did : ∀ st, s.story k = some st → P (f st)) :
    P (s.onStory h k f) := by
  unfold onStory
  split
  · exact refuse _
  · rename_i st found
    exact did st found

theorem withRight_of {d : DeskId} (refuse : ∀ code, P (s.refuse h code)) (did : P t) : P (s.withRight h d t) := by
  unfold withRight
  split
  · exact did
  · exact refuse _

theorem unlessFilingOrSpiked_of {st : Story} (refuse : ∀ code, P (s.refuse h code)) (did : P t) : P (s.unlessFilingOrSpiked h st t) := by
  unfold unlessFilingOrSpiked
  split <;> first | exact refuse _ | exact did

theorem asHolder_of {screen : ScreenNo} {st : Story} {k : Lock → Switch} (refuse : ∀ code, P (s.refuse h code))
    (did : ∀ l, st.status = .opened l → l.holder = { port := h.port, number := screen } → P (k l)) : P (s.asHolder h screen st k) := by
  unfold asHolder
  split
  · rename_i l opened
    split
    · rename_i holder
      exact did l opened holder
    · exact refuse _
  all_goals exact refuse _

theorem onOffer_of {st : Story} {d : DeskId} {k : Offer → Switch} (refuse : ∀ code, P (s.refuse h code))
    (did : ∀ o, st.status = .offered o → P (k o)) : P (s.onOffer h st d k) := by
  unfold onOffer
  split
  · rename_i o offered
    split
    · exact did o offered
    · exact refuse _
  all_goals exact refuse _

theorem servingDesk_of {d : DeskId} (refuse : ∀ code, P (s.refuse h code)) (did : P t) : P (s.servingDesk h d t) := by
  unfold servingDesk
  split
  · exact did
  · exact refuse _

end

/-! ### A slot taken by a FILE, an upload opened (R7, R23, R46) -/

end Switch

theorem Accounts.of_blocks {pool : List Nat} {free held : Nat} {slots slots' : Bank 1024 Slot} {uploads : Bank 6 (Option Upload)}
    (ok : Accounts pool free held slots uploads) (same : ∀ i, (slots'.get i).blocks = (slots.get i).blocks) :
    Accounts pool free held slots' uploads := by
  refine { ok with blocks := fun b => ?_ }
  rw [← ok.blocks b]
  unfold copies
  congr 2
  exact Bank.total_congr fun i => by rw [same]

/-- No upload is for a VACANT slot, but for one that has no version to make. -/
theorem Records.not_vacant {slots : Bank 1024 Slot} {uploads : Bank 6 (Option Upload)} (ok : Records slots uploads) {i : SlotId}
    (vacant : (slots.get i).story = none) {p : PortId} {u : Upload} (hu : uploads.get p = some u)
    (busy : u.kind = .file ∨ u.mode = .filling) : u.handle.slot ≠ i := by
  rintro rfl
  cases kind : u.kind with
  | file =>
    obtain ⟨st, found, -⟩ := (ok.stories p u hu).file kind
    rw [(storyIn_eq_some.1 found).2] at vacant
    cases vacant
  | checkin keep =>
    obtain ⟨st, l, found, -⟩ := (ok.stories p u hu).checkin keep kind (busy.resolve_left (by rw [kind]; nofun))
    rw [(storyIn_eq_some.1 found).2] at vacant
    cases vacant

theorem Records.fillSlot {slots : Bank 1024 Slot} {uploads : Bank 6 (Option Upload)} (ok : Records slots uploads) {i : SlotId}
    (vacant : (slots.get i).story = none) {y : Slot} (listed : ∀ st, y.story = some st → st.listed) : Records (slots.set i y) uploads := by
  refine { ok with listed := fun j st hst => ?_, stories := fun p u hu => ?_ }
  · rw [Bank.get_set] at hst
    split at hst
    · exact listed st hst
    · exact ok.listed j st hst
  · have same (busy : u.kind = .file ∨ u.mode = .filling) : storyIn (slots.set i y) u.handle = storyIn slots u.handle := by
      unfold storyIn
      rw [Bank.get_set_ne _ _ (ok.not_vacant vacant hu busy).symm]
    refine ⟨fun kind => ?_, fun keep kind mode => ?_⟩
    · rw [same (.inl kind)]
      exact (ok.stories p u hu).file kind
    · rw [same (.inr mode)]
      exact (ok.stories p u hu).checkin keep kind mode

/-- The record of an upload that is opened agrees with itself. -/
theorem Upload.counted_of_opened {u : Upload} (declared : u.declared ≤ 65535) (taken : u.taken = 0) (staging : u.staging = [])
    (remaining : u.remaining = blocksFor u.declared) (mode : u.mode = .filling) (victim : u.kind = .file → u.victim = none) :
    u.Counted where
  taken := ⟨by omega, declared⟩
  filling _ := by
    rw [taken, staging, remaining, blocksFor_eq]
    exact ⟨rfl, rfl⟩
  draining h := by
    rw [mode] at h
    cases h
  file h := ⟨mode, victim h⟩

theorem FileArgs.check_length {a : FileArgs} {x : FileParams} (h : FileArgs.check a = some x) : x.length ≤ 65535 := by
  unfold FileArgs.check at h
  split at h
  · cases h
    exact Nat.le_of_lt_succ a.length.isLt
  · cases h

theorem CheckinArgs.check_length {a : CheckinArgs} {x : CheckinParams} (h : CheckinArgs.check a = some x) : x.length ≤ 65535 := by
  unfold CheckinArgs.check at h
  split at h
  · cases h
    exact Nat.le_of_lt_succ a.length.isLt
  · cases h

namespace Switch

/-- The state in which an upload has been opened: its slot written, its record made, its blocks reserved (R23). -/
def opening (s : Switch) (i : SlotId) (st : Story) (p : PortId) (u : Upload) : Switch :=
  ((s.setStory i st).setUpload p (some u)).reserve u.remaining

theorem opening_fields (s : Switch) (i : SlotId) (st : Story) (p : PortId) (u : Upload) :
    (s.opening i st p u).store.freePool = s.store.freePool ∧ (s.opening i st p u).store.freeCount = s.store.freeCount ∧
      (s.opening i st p u).store.reserved = s.store.reserved + u.remaining ∧
      (s.opening i st p u).slots = s.slots.set i { s.slots.get i with story := some st } ∧
      (s.opening i st p u).uploads = s.uploads.set p (some u) ∧ (s.opening i st p u).ports = s.ports ∧
      (s.opening i st p u).saving = s.saving := by
  obtain ⟨tight, boxes, e⟩ := reserve_eq ((s.setStory i st).setUpload p (some u)) u.remaining
  unfold opening
  rw [e]
  exact ⟨rfl, rfl, rfl, rfl, rfl, rfl, rfl⟩

namespace StoreInOrder

variable {s t : Switch}

/-- The store but for the phase of a port on which an upload has been opened. -/
theorem opening (ok : s.StoreInOrder) {i : SlotId} {st : Story} {p : PortId} {u : Upload} (closed : s.uploads.get p = none)
    (blocks : ({ s.slots.get i with story := some st } : Slot).blocks = (s.slots.get i).blocks) (staging : u.staging = [])
    (room : ¬s.available < u.remaining)
    (records : Records (s.slots.set i { s.slots.get i with story := some st }) (s.uploads.set p (some u))) :
    (s.opening i st p u).StoreBut p := by
  obtain ⟨pool, freeCount, reserved, slots, uploads, ports, saving⟩ := s.opening_fields i st p u
  have covered := ok.accounts.covered
  have free := ok.accounts.freeCount
  unfold available at room
  refine ⟨?_, ?_, ?_⟩
  · rw [pool, freeCount, reserved, slots, uploads, free]
    refine (ok.accounts.of_blocks fun j => ?_).update (fun b => ?_) ?_ ?_
    · rw [Bank.get_set]
      split
      · rename_i e
        exact e ▸ blocks
      · rfl
    · simp [closed, stagingOf, staging]
    · simp [closed, remainingOf]
    · omega
  · rw [slots, uploads]
    exact records
  · rw [uploads, ports, saving, Bank.set_set, ← closed, Bank.set_get]
    exact ok.phases

theorem openStream (ok : s.StoreInOrder) {h : Head} (idle : (s.ports.get h.port).phase = .idle) (c : Cmd) (values : List Byte) (x : Stream) :
    (s.openStream h c values x).StoreInOrder := by
  refine (ok.answer h .ok values).setPort ?_ fun y hy => ?_
  · rw [show (s.answer h .ok values).uploads = s.uploads from by simp only [answer_fields]]
    exact ok.closed_of_phase (by rw [idle]; nofun)
  · rw [show (s.answer h .ok values).saving = s.saving from by simp only [answer_fields]] at hy
    exact ok.notSaving_of_phase (by rw [idle]; nofun) y hy

theorem report (ok : s.StoreInOrder) {h : Head} (idle : (s.ports.get h.port).phase = .idle) (c : Cmd) (data : List Byte) :
    (s.report h c data).StoreInOrder := ok.openStream idle c [] _

theorem taken (ok : s.StoreInOrder) {h : Head} {c : Cmd} {a : Option α} {body : α → Switch → Switch}
    (did : ∀ x, a = some x → (s.ports.get h.port).phase = .idle → (body x s).StoreInOrder) : (s.takeCommand h c a body).StoreInOrder :=
  takeCommand_of ok (fun _ _ => ok.refuse _ _) fun x hx takes => did x hx takes.2.2.1

/-! ### The directory (spec/01) -/

theorem postFiltered (ok : s.StoreInOrder) (k : NoticeKind) (a : Handle) (st : Story) : (s.postFiltered k a st).StoreInOrder := ok.post _ _

theorem postChanged (ok : s.StoreInOrder) (a : Handle) (st : Story) (r : Reason) (n : Nat) : (s.postChanged a st r n).StoreInOrder :=
  ok.frame ⟨rfl, rfl, rfl, rfl, rfl, rfl, fun _ => rfl⟩

theorem takeFile (ok : s.StoreInOrder) {h : Head} {a : FileParams} {i : SlotId} (idle : (s.ports.get h.port).phase = .idle)
    (length : a.length ≤ 65535) (vacant : (s.slots.get i).story = none) (room : ¬s.available < blocksFor a.length) :
    (s.takeFile h a i).StoreInOrder := by
  have closed := ok.closed_of_phase (p := h.port) (by rw [idle]; nofun)
  have opened := ok.opening (i := i) (st := fileStory a) (u := fileUpload h a (s.handleAt i)) closed (by simp [Slot.blocks, Slot.chains, vacant, fileStory])
    rfl room ?_
  · have uploads := (s.opening_fields i (fileStory a) h.port (fileUpload h a (s.handleAt i))).2.2.2.2.1
    have saving := (s.opening_fields i (fileStory a) h.port (fileUpload h a (s.handleAt i))).2.2.2.2.2.2
    unfold Switch.takeFile
    dsimp only
    rw [show ((s.setStory i (fileStory a)).setUpload h.port (some (fileUpload h a (s.handleAt i)))).reserve (blocksFor a.length) =
      s.opening i (fileStory a) h.port (fileUpload h a (s.handleAt i)) from rfl]
    split
    · rename_i empty
      exact (opened.completeFile (by rw [uploads, Bank.get_set_same]) rfl empty.symm).inOrder
    · exact opened.openDataPhase .file (by rw [saving]; exact ok.notSaving_of_phase (by rw [idle]; nofun))
  · refine (ok.records.fillSlot vacant ?_).setUpload ?_ ?_
    · rintro _ ⟨⟩
      exact ⟨⟨by simp [fileStory], by simp [fileStory], by simp [fileStory]⟩, ⟨fun _ => rfl, fun _ => rfl⟩⟩
    · rintro _ ⟨⟩
      refine ⟨Upload.counted_of_opened length rfl rfl rfl rfl fun _ => rfl, fun _ => ⟨fileStory a, ?_, rfl⟩, nofun⟩
      exact storyIn_eq_some.2 ⟨by rw [show (fileUpload h a (s.handleAt i)).handle.slot = i from rfl, Bank.get_set_same]; rfl,
        by rw [show (fileUpload h a (s.handleAt i)).handle.slot = i from rfl, Bank.get_set_same]⟩
    · rintro _ ⟨⟩ - q y - hy kind
      exact ok.records.not_vacant vacant hy (.inl kind)

theorem fileCommand (ok : s.StoreInOrder) {h : Head} (idle : (s.ports.get h.port).phase = .idle) {a : FileParams} (length : a.length ≤ 65535) :
    (fileCommand h a s).StoreInOrder := by
  unfold Switch.fileCommand
  split
  · exact ok.refuse _ _
  · refine withRight_of (ok.refuse h) ?_
    split
    · exact ok.refuse _ _
    · split
      · exact ok.refuse _ _
      · rename_i i vacant
        split
        · exact ok.refuse _ _
        · split
          · exact ok.refuse _ _
          · rename_i room
            refine ok.takeFile idle length ?_ room
            have := (Bank.head?_indices_eq_some _ _ _).1 vacant
            exact Option.isNone_iff_eq_none.1 this.1

theorem findCommand (ok : s.StoreInOrder) (h : Head) (slug : List Byte) : (findCommand h slug s).StoreInOrder := by
  unfold Switch.findCommand
  split
  · exact ok.refuse _ _
  · exact ok.answer _ _ _

theorem reclassifyCommand (ok : s.StoreInOrder) (h : Head) (a : ReclassifyParams) : (reclassifyCommand h a s).StoreInOrder := by
  refine onStory_of (ok.refuse h) fun st found => withRight_of (ok.refuse h) (unlessFilingOrSpiked_of (ok.refuse h) ?_)
  have changed (st' : Story) (versions : st'.versions = st.versions) (status : st'.status = st.status) :
      (s.setStory a.handle.slot st').StoreInOrder := ok.setStory_of_handle found (.of_status (by rw [versions]) status)
  dsimp only
  refine StoreInOrder.answer (StoreInOrder.postChanged ?_ _ _ _ _) _ _ _
  split
  · exact (changed _ (by rfl) (by rfl)).postFiltered _ _ _
  · exact changed _ (by rfl) (by rfl)

theorem routeCommand (ok : s.StoreInOrder) (h : Head) (a : Handle × List DeskId) : (routeCommand h a s).StoreInOrder :=
  onStory_of (ok.refuse h) fun _ found => withRight_of (ok.refuse h) (unlessFilingOrSpiked_of (ok.refuse h)
    ((ok.setStory_of_handle found (.of_status (by rfl) (by rfl))).answer _ _ _))

/-- A story that is not OPEN and not FILING takes any other such status. -/
theorem setStatus (ok : s.StoreInOrder) {k : Handle} {st st' : Story} (found : s.story k = some st) (notFiling : st.status ≠ .filing)
    (notOpen : ∀ l, st.status ≠ .opened l) (versions : st'.versions = st.versions) (notFiling' : st'.status ≠ .filing) :
    (s.setStory k.slot st').StoreInOrder :=
  ok.setStory_of_handle found (.of_free (by rw [versions]) notFiling notFiling' fun l opened => absurd opened (notOpen l))

theorem spikeCommand (ok : s.StoreInOrder) (h : Head) (a : Handle) : (spikeCommand h a s).StoreInOrder := by
  refine onStory_of (ok.refuse h) fun st found => withRight_of (ok.refuse h) ?_
  dsimp only
  split
  · rename_i status
    exact ((ok.setStatus found (by rw [status]; nofun) (by rw [status]; nofun) (by rfl) (by nofun)).postChanged _ _ _ _).answer _ _ _
  · exact ok.answer _ _ _
  · rename_i o status
    split
    · exact (((ok.setStatus found (by rw [status]; nofun) (by rw [status]; nofun) (by rfl) (by nofun)).postChanged _ _ _ _).post _ _).answer _ _ _
    · exact ok.refuse _ _
  all_goals exact ok.refuse _ _

theorem restoreCommand (ok : s.StoreInOrder) (h : Head) (a : Handle) : (restoreCommand h a s).StoreInOrder := by
  refine onStory_of (ok.refuse h) fun st found => withRight_of (ok.refuse h) ?_
  split
  · rename_i status
    exact ((ok.setStatus found (by rw [status]; nofun) (by rw [status]; nofun) (by rfl) (by nofun)).postChanged _ _ _ _).answer _ _ _
  all_goals exact ok.refuse _ _

theorem purgeCommand (ok : s.StoreInOrder) (h : Head) (a : Handle) : (purgeCommand h a s).StoreInOrder := by
  refine onStory_of (ok.refuse h) fun st found => ?_
  split
  · rename_i b status
    refine (ok.requestPurge fun st' own => ?_).answer _ _ _
    rw [(story_eq_some.1 found).2] at own
    cases own
    exact ⟨b, status⟩
  all_goals exact ok.refuse _ _

theorem readCommand (ok : s.StoreInOrder) {h : Head} (idle : (s.ports.get h.port).phase = .idle) (a : Handle × Option Nat) :
    (readCommand h a s).StoreInOrder := by
  refine onStory_of (ok.refuse h) fun st found => ?_
  dsimp only
  split
  · exact ok.refuse _ _
  · split
    · exact ok.refuse _ _
    · split
      · exact ok.refuse _ _
      · split
        · exact ok.answer _ _ _
        · refine (ok.pin _ _).openStream ?_ _ _ _
          rw [show (s.pin a.1 _).ports = s.ports from (modifyVersions_frame s a.1 _).ports]
          exact idle

/-! ### Custody (spec/03) -/

/-- The lock of a holder on an IDLE port is under no CHECKIN. -/
theorem setLock (ok : s.StoreInOrder) {k : Handle} {st st' : Story} {p : PortId} (found : s.story k = some st)
    (idle : (s.ports.get p).phase = .idle) (notFiling : st.status ≠ .filing) (held : ∀ l, st.status = .opened l → l.holder.port = p)
    (versions : st'.versions = st.versions) (notFiling' : st'.status ≠ .filing) : (s.setStory k.slot st').StoreInOrder := by
  refine ok.setStory_of_handle found (.of_free (by rw [versions]) notFiling notFiling' fun l opened _ => ?_)
  rintro ⟨u, keep, hu, -⟩
  rw [held l opened, ok.closed_of_phase (by rw [idle]; nofun)] at hu
  cases hu

theorem checkoutCommand (ok : s.StoreInOrder) {h : Head} (idle : (s.ports.get h.port).phase = .idle) (a : ScreenNo × Handle) :
    (checkoutCommand h a s).StoreInOrder := by
  refine onStory_of (ok.refuse h) fun st found => ?_
  split
  · exact ok.refuse _ _
  · refine withRight_of (ok.refuse h) ?_
    dsimp only
    split
    · rename_i status
      exact (ok.setStatus found (by rw [status]; nofun) (by rw [status]; nofun) (by rfl) (by nofun)).answer _ _ _
    · rename_i l status
      split
      · rename_i holder
        refine (ok.setLock found idle (by rw [status]; nofun) (fun l' opened => ?_) (by rfl) (by nofun)).answer _ _ _
        rw [status] at opened
        cases opened
        rw [holder]
      · exact ok.refuse _ _
    all_goals exact ok.refuse _ _

/-- What the holder of a lock may make of its story. -/
theorem setHeld (ok : s.StoreInOrder) {h : Head} (idle : (s.ports.get h.port).phase = .idle) {k : Handle} {st st' : Story} {l : Lock}
    {screen : ScreenNo} (found : s.story k = some st) (opened : st.status = .opened l) (holder : l.holder = { port := h.port, number := screen })
    (versions : st'.versions = st.versions) (notFiling' : st'.status ≠ .filing) : (s.setStory k.slot st').StoreInOrder := by
  refine ok.setLock found idle (by rw [opened]; nofun) (fun l' opened' => ?_) versions notFiling'
  rw [opened] at opened'
  cases opened'
  rw [holder]

theorem renewCommand (ok : s.StoreInOrder) {h : Head} (idle : (s.ports.get h.port).phase = .idle) (a : ScreenNo × Handle) :
    (renewCommand h a s).StoreInOrder :=
  onStory_of (ok.refuse h) fun _ found => asHolder_of (ok.refuse h) fun _ opened holder =>
    (ok.setHeld idle found opened holder (by rfl) (by nofun)).answer _ _ _

theorem abandonCommandFrame (ok : s.StoreInOrder) {h : Head} (idle : (s.ports.get h.port).phase = .idle) (a : ScreenNo × Handle) :
    (abandonCommandFrame h a s).StoreInOrder :=
  onStory_of (ok.refuse h) fun _ found => asHolder_of (ok.refuse h) fun _ opened holder =>
    (ok.setHeld idle found opened holder (by rfl) (by nofun)).answer _ _ _

/-- The version list under a CHECKIN, its victim marked (R46). -/
def markedVersions (st : Story) (victim : Option Version) : List Version :=
  match victim with
  | none => st.versions
  | some v => changeVersion v.number (fun x => { x with retiring := true }) st.versions

theorem markedVersions_shape (st : Story) (victim : Option Version) :
    (markedVersions st victim).map Version.shape = st.versions.map Version.shape := by
  unfold markedVersions
  split
  · rfl
  · exact changeVersion_shape (by exact fun _ => rfl) _ _

/-- The story under a CHECKIN: its lease suspended, its victim marked (R46). -/
def checkinStory (st : Story) (l : Lock) (victim : Option Version) : Story :=
  { st with status := .opened { l with suspended := true }, versions := markedVersions st victim }

theorem takeCheckin_eq (s : Switch) (h : Head) (a : CheckinParams) (st : Story) (l : Lock) (victim : Option Version) :
    s.takeCheckin h a st l victim =
      if a.length = 0 then
        (s.opening a.handle.slot (checkinStory st l victim) h.port (checkinUpload h a victim)).completeCheckin h
          (checkinUpload h a victim) a.keep
      else (s.opening a.handle.slot (checkinStory st l victim) h.port (checkinUpload h a victim)).openDataPhase h .checkin := by
  cases victim <;> rfl

theorem takeCheckin (ok : s.StoreInOrder) {h : Head} (idle : (s.ports.get h.port).phase = .idle) {a : CheckinParams} {st : Story} {l : Lock}
    {victim : Option Version} (length : a.length ≤ 65535) (found : s.story a.handle = some st) (opened : st.status = .opened l)
    (holder : l.holder = { port := h.port, number := a.screen }) (room : ¬s.available < blocksFor a.length)
    (whole : victim = none → st.versions.length ≤ 3) (held : ∀ v, victim = some v → v ∈ st.versions) :
    (s.takeCheckin h a st l victim).StoreInOrder := by
  have closed := ok.closed_of_phase (p := h.port) (by rw [idle]; nofun)
  obtain ⟨gen, own⟩ := story_eq_some.1 found
  have shape := markedVersions_shape st victim
  have restory : s.Restory a.handle.slot st (checkinStory st l victim) := by
    refine ⟨shape, by simp [opened, checkinStory], fun l' opened' _ _ => ⟨{ l with suspended := true }, rfl, ?_, rfl⟩⟩
    rw [opened] at opened'
    cases opened'
    rfl
  have marked := ok.setStory_of_handle found restory
  have opened' := ok.opening (i := a.handle.slot) (st := checkinStory st l victim) (u := checkinUpload h a victim) closed ?_ rfl room ?_
  · have uploads := (s.opening_fields a.handle.slot (checkinStory st l victim) h.port (checkinUpload h a victim)).2.2.2.2.1
    have saving := (s.opening_fields a.handle.slot (checkinStory st l victim) h.port (checkinUpload h a victim)).2.2.2.2.2.2
    rw [takeCheckin_eq]
    split
    · rename_i empty
      exact (opened'.completeCheckin (by rw [uploads, Bank.get_set_same]) rfl rfl empty.symm).inOrder
    · exact opened'.openDataPhase .checkin (by rw [saving]; exact ok.notSaving_of_phase (by rw [idle]; nofun))
  · have chains : (checkinStory st l victim).versions.map Version.chain = st.versions.map Version.chain :=
      Version.map_of_shape shape fun t => t.2.2
    simp [Slot.blocks, Slot.chains, own, chains]
  · refine marked.records.setUpload ?_ (fun u hu kind => by cases hu; cases kind)
    rintro _ ⟨⟩
    refine ⟨Upload.counted_of_opened length rfl rfl rfl rfl nofun, nofun, fun keep _ _ =>
      ⟨checkinStory st l victim, { l with suspended := true }, ?_, rfl, ?_, rfl, ?_⟩⟩
    · change storyIn (s.slots.set a.handle.slot _) a.handle = _
      exact storyIn_eq_some.2 ⟨by rw [Bank.get_set_same]; exact gen, by rw [Bank.get_set_same]⟩
    · rw [holder]
    · refine ⟨fun none => ?_, fun n hn => ?_⟩
      · have same : (markedVersions st victim).length = st.versions.length := by simpa using congrArg List.length shape
        exact same.trans_le <| whole (Option.map_eq_none_iff.1 none)
      · obtain ⟨v, hv, number⟩ := Option.map_eq_some_iff.1 hn
        have numbers : (checkinStory st l victim).versions.map Version.number = st.versions.map Version.number :=
          Version.map_of_shape shape Prod.fst
        have : n ∈ (checkinStory st l victim).versions.map Version.number := by
          rw [numbers, ← number]
          exact List.mem_map_of_mem (held v hv)
        exact List.mem_map.1 this

theorem checkinCommand (ok : s.StoreInOrder) {h : Head} (idle : (s.ports.get h.port).phase = .idle) {a : CheckinParams}
    (length : a.length ≤ 65535) : (checkinCommand h a s).StoreInOrder := by
  refine onStory_of (ok.refuse h) fun st found => asHolder_of (ok.refuse h) fun l opened holder => ?_
  have few := (ok.records.listed _ st (story_eq_some.1 found).2).1.1
  split
  · exact ok.refuse _ _
  · split
    · exact ok.refuse _ _
    · rename_i room
      split
      · split
        · exact ok.refuse _ _
        · rename_i v victim
          refine ok.takeCheckin idle length found opened holder room nofun ?_
          rintro _ ⟨⟩
          exact List.dropLast_subset _ (List.mem_of_find?_eq_some victim)
      · rename_i notFull
        refine ok.takeCheckin idle length found opened holder room (fun _ => ?_) nofun
        rw [show Config.versionLimit = 4 from rfl] at notFull
        omega

theorem breakCommand (ok : s.StoreInOrder) (h : Head) (a : Handle) : (breakCommand h a s).StoreInOrder := by
  refine onStory_of (ok.refuse h) fun st found => ?_
  split
  · rename_i l opened
    rw [endLock_drainUpload]
    have slots : (s.drainUpload l.holder.port a).slots = s.slots := by
      unfold Switch.drainUpload
      repeat' split
      all_goals rfl
    refine StoreInOrder.answer ((ok.drainUpload l.holder.port a).endLock .lockBroken ?_ opened fun _ => ?_) _ _ _
    · rw [slots]
      exact (story_eq_some.1 found).2
    · rw [show (s.drainUpload l.holder.port a).handleAt a.slot = a from by
        unfold handleAt slot
        rw [slots]
        exact handleAt_of_story found]
      exact not_checksIn_drained s l.holder.port a
  all_goals exact ok.refuse _ _

/-- A lease that is not suspended is under no CHECKIN. -/
theorem expireLease (ok : s.StoreInOrder) (i : SlotId) : (expireLease i s).StoreInOrder := by
  unfold Switch.expireLease
  split
  · exact ok
  · rename_i st found
    split
    · rename_i l opened
      split
      · rename_i due
        refine ok.endLock .lockLapsed found opened fun suspended => ?_
        rw [due.1] at suspended
        cases suspended
      · exact ok
    · exact ok

/-! ### Passing (spec/04) -/

theorem offerCommand (ok : s.StoreInOrder) (h : Head) (a : OfferParams) : (offerCommand h a s).StoreInOrder := by
  refine onStory_of (ok.refuse h) fun st found => ?_
  split
  · exact ok.refuse _ _
  · refine withRight_of (ok.refuse h) ?_
    split
    · exact ok.refuse _ _
    · rename_i status
      have status : st.status = .filed := not_not.1 status
      split
      · exact ok.refuse _ _
      · split
        · exact ok.refuse _ _
        · split
          · exact ok.refuse _ _
          · exact ((ok.setStatus found (by rw [status]; nofun) (by rw [status]; nofun) (by rfl) (by nofun)).post _ _).answer _ _ _

/-- An offer that ends leaves its story FILED. -/
theorem endOffer (ok : s.StoreInOrder) {k : Handle} {st st' : Story} {o : Offer} (found : s.story k = some st)
    (offered : st.status = .offered o) (versions : st'.versions = st.versions) (filed : st'.status = .filed) (n : Notice) (who : PortId → Bool)
    (h : Head) : (((s.setStory k.slot st').post n who).answer h .ok []).StoreInOrder :=
  ((ok.setStatus found (by rw [offered]; nofun) (by rw [offered]; nofun) versions (by rw [filed]; nofun)).post _ _).answer _ _ _

theorem acceptCommand (ok : s.StoreInOrder) (h : Head) (a : Handle × DeskId) : (acceptCommand h a s).StoreInOrder :=
  onStory_of (ok.refuse h) fun _ found => servingDesk_of (ok.refuse h) <| onOffer_of (ok.refuse h) fun _ offered =>
    ok.endOffer found offered (by rfl) (by rfl) _ _ _

theorem declineCommand (ok : s.StoreInOrder) (h : Head) (a : Handle × DeskId × Byte) : (declineCommand h a s).StoreInOrder :=
  onStory_of (ok.refuse h) fun _ found => servingDesk_of (ok.refuse h) <| onOffer_of (ok.refuse h) fun _ offered =>
    ok.endOffer found offered (by rfl) (by rfl) _ _ _

theorem withdrawCommand (ok : s.StoreInOrder) (h : Head) (a : Handle × DeskId) : (withdrawCommand h a s).StoreInOrder :=
  onStory_of (ok.refuse h) fun _ found => withRight_of (ok.refuse h) <| onOffer_of (ok.refuse h) fun _ offered =>
    ok.endOffer found offered (by rfl) (by rfl) _ _ _

theorem lapseOffer (ok : s.StoreInOrder) (i : SlotId) : (lapseOffer i s).StoreInOrder := by
  unfold Switch.lapseOffer
  split
  · exact ok
  · split
    · split
      · exact ok.expireOffer _ _
      · exact ok
    · exact ok

/-! ### Notices (spec/05) -/

theorem collectCommand (ok : s.StoreInOrder) {h : Head} (idle : (s.ports.get h.port).phase = .idle) (count : Nat) :
    (collectCommand h count s).StoreInOrder := by
  have taken (x : Inbox) : (s.setInbox h.port x).StoreInOrder := ok.frame ⟨rfl, rfl, rfl, rfl, rfl, rfl, fun _ => rfl⟩
  unfold Switch.collectCommand
  dsimp only
  split
  · exact (taken _).answer _ _ _
  · exact (taken _).openStream idle _ _ _

theorem watchCommand (ok : s.StoreInOrder) (h : Head) (a : ScreenNo × Handle) : (watchCommand h a s).StoreInOrder := by
  refine onStory_of (ok.refuse h) fun _ _ => ?_
  dsimp only
  split
  · exact ok.answer _ _ _
  · split
    · exact ok.refuse _ _
    · exact StoreInOrder.answer (ok.frame (by constructor <;> intros <;> rfl)) _ _ _

theorem unwatchCommand (ok : s.StoreInOrder) (h : Head) (a : ScreenNo × Handle) : (unwatchCommand h a s).StoreInOrder :=
  onStory_of (ok.refuse h) fun _ _ => StoreInOrder.answer (ok.frame (by constructor <;> intros <;> rfl)) _ _ _

end StoreInOrder

end Switch
end Sys2Proof.Machine
end

section
/-! SUPPORT. The order of the store under the clock, the page commands, the feed, the ports' own commands and start-up (spec/06 to spec/10), and
every row at once. -/

namespace Sys2Proof.Machine

theorem Bank.total_replicate (f : α → Nat) {a : α} (zero : f a = 0) : (Bank.replicate n a).total f = 0 := by
  rw [Bank.total_eq_sum]
  exact Finset.sum_eq_zero fun p _ => by rw [Bank.get_replicate, zero]

/-! ### What the beginning of a restart leaves of a slot (R20, R38) -/

namespace Switch

theorem blocks_restartSlot (x : Slot) (filing : ∀ st, x.story = some st → st.status = .filing → st.versions = []) :
    (restartSlot x).blocks ++ (purgedChains x).flatten = x.blocks := by
  unfold restartSlot purgedChains Slot.blocks Slot.chains
  cases found : x.story with
  | none => simp [found]
  | some st =>
    have chains : (st.versions.map unpinnedVersion).map Version.chain = st.versions.map Version.chain := by
      rw [List.map_map]
      rfl
    have empty := filing st found
    dsimp only
    split
    all_goals
      rename_i status
      simp only [status, Option.map_some, Option.getD_some, Option.map_none, Option.getD_none, chains, if_true, List.map_nil,
        List.flatten_nil, List.nil_append]
    · rw [empty status]
      rfl
    all_goals exact List.append_nil _

theorem listed_restartSlot {x : Slot} (listed : ∀ st, x.story = some st → st.listed) :
    ∀ st, (restartSlot x).story = some st → st.listed := by
  intro st hst
  unfold restartSlot at hst
  cases found : x.story with
  | none =>
    rw [found] at hst
    dsimp only at hst
    rw [found] at hst
    cases hst
  | some old =>
    have order := listed old found
    have kept (status : Status) (was : old.status ≠ .filing) (is : status ≠ .filing) :
        ({ old with status := status, versions := old.versions.map unpinnedVersion } : Story).listed := by
      have shape : (old.versions.map unpinnedVersion).map Version.shape = old.versions.map Version.shape := by
        rw [List.map_map]
        rfl
      refine ⟨(versionsInOrder_congr shape).2 order.1, ?_⟩
      simp [is, was, order.2]
    rw [found] at hst
    dsimp only at hst
    split at hst
    all_goals
      rename_i status
      cases hst
    all_goals exact kept _ (by rw [status]; nofun) nofun

namespace StoreInOrder

variable {s t : Switch}

/-! ### Snapshots and jobs (R123 to R131) -/

theorem judgeGroups (ok : s.StoreInOrder) (before : Switch) : (s.judgeGroups before).StoreInOrder :=
  ok.frame ⟨rfl, rfl, rfl, rfl, rfl, rfl, fun _ => rfl⟩

theorem releasePage (ok : s.StoreInOrder) (q : PageId) (d : PageDef) (rush : Bool) : (s.releasePage q d rush).StoreInOrder :=
  (ok.snapshot (s.page q).layout).frame ⟨rfl, rfl, rfl, rfl, rfl, rfl, fun _ => rfl⟩

theorem reRelease (ok : s.StoreInOrder) (q : PageId) (d : PageDef) (old : Job) : (s.reRelease q d old).StoreInOrder :=
  ((ok.releasePins old.entries).snapshot _).frame ⟨rfl, rfl, rfl, rfl, rfl, rfl, fun _ => rfl⟩

theorem endJob (ok : s.StoreInOrder) (q : PageId) (x : Page) : (s.endJob q x).StoreInOrder := by
  unfold Switch.endJob
  dsimp only
  exact StoreInOrder.releasePins (ok.frame (by constructor <;> intros <;> rfl)) _

theorem faultPage (ok : s.StoreInOrder) (q : PageId) (r : Reason) : (s.faultPage q r).StoreInOrder := (ok.endJob q _).post _ _

theorem completePage (ok : s.StoreInOrder) (q : PageId) : (s.completePage q).StoreInOrder := ((ok.endJob q _).post _ _).judgeGroups s

theorem autoReleasePage (ok : s.StoreInOrder) (c : ChannelId) (q : PageId) : (autoReleasePage c s q).StoreInOrder := by
  unfold Switch.autoReleasePage
  split
  · exact ok
  · split
    · exact ok.releasePage q _ _
    · exact ok.post _ _

theorem autoRelease (ok : s.StoreInOrder) (c : ChannelId) (reference : Nat) : (s.autoRelease c reference).StoreInOrder :=
  ok.foldl (fun _ ok q => ok.autoReleasePage c q) _

/-! ### The edition clock and its channels (spec/06) -/

theorem setChannel (ok : s.StoreInOrder) (c : ChannelId) (x : Channel) : (s.setChannel c x).StoreInOrder :=
  ok.frame ⟨rfl, rfl, rfl, rfl, rfl, rfl, fun _ => rfl⟩

theorem setGroups (ok : s.StoreInOrder) (g : Groups) : (s.setGroups g).StoreInOrder := ok.frame ⟨rfl, rfl, rfl, rfl, rfl, rfl, fun _ => rfl⟩

theorem withClock (ok : s.StoreInOrder) (clock : Clock) : ({ s with clock := clock } : Switch).StoreInOrder :=
  ok.frame ⟨rfl, rfl, rfl, rfl, rfl, rfl, fun _ => rfl⟩

theorem postChannel (ok : s.StoreInOrder) (c : ChannelId) (k : NoticeKind) (u : Urgency) (note : Option Byte) :
    (s.postChannel c k u note).StoreInOrder := ok.post _ _

theorem takeMatch (ok : s.StoreInOrder) (c : ChannelId) : (takeMatch c s).StoreInOrder := by
  unfold Switch.takeMatch
  dsimp only
  split
  · split
    · exact ok.setChannel _ _
    · split
      · exact ((ok.setChannel _ _).postChannel _ _ _ _).autoRelease _ _
      · exact (ok.setChannel _ _).postChannel _ _ _ _
  · exact ok

theorem matchIfDue (ok : s.StoreInOrder) (c : ChannelId) : (matchIfDue c s).StoreInOrder := by
  unfold Switch.matchIfDue
  split
  · exact ok.takeMatch c
  · exact ok

theorem setActive (ok : s.StoreInOrder) (c : ChannelId) (deadline : Nat) : (s.setActive c deadline).StoreInOrder := by
  unfold Switch.setActive
  dsimp only
  split
  · exact ok
  · exact (ok.setChannel _ _).matchIfDue _

theorem turnChannel (ok : s.StoreInOrder) (ended : Nat) (c : ChannelId) : (turnChannel ended s c).StoreInOrder := by
  unfold Switch.turnChannel
  dsimp only
  split
  · exact (ok.setChannel _ _).autoRelease _ _
  · exact ok.setChannel _ _

/-- The slots that a request for a purge leaves SPIKED or VACANT. -/
theorem requestPurge_spikedOrVacant (i j : SlotId) (h : ∀ st, (s.slots.get j).story = some st → ∃ b, st.status = .spiked b) :
    ∀ st, ((s.requestPurge i).slots.get j).story = some st → ∃ b, st.status = .spiked b := by
  intro st hst
  unfold Switch.requestPurge at hst
  split at hst
  · exact h st hst
  · rename_i x found
    split at hst
    · rw [completePurge_eq s i x found] at hst
      dsimp only at hst
      rw [Bank.get_set] at hst
      split at hst
      · cases hst
      · exact h st hst
    · simp only [setStory_fields, Bank.get_set] at hst
      split at hst
      · cases hst
        exact ⟨true, rfl⟩
      · exact h st hst

theorem requestPurges (l : List SlotId) : ∀ {s : Switch}, s.StoreInOrder →
    (∀ i ∈ l, ∀ st, (s.slots.get i).story = some st → ∃ b, st.status = .spiked b) → (l.foldl Switch.requestPurge s).StoreInOrder := by
  induction l with
  | nil => exact fun ok _ => ok
  | cons i l ih =>
    intro s ok spiked
    exact ih (ok.requestPurge (spiked i List.mem_cons_self)) fun j hj =>
      requestPurge_spikedOrVacant i j (spiked j (List.mem_cons_of_mem _ hj))

theorem status_of_spikedSlot {x : Slot} (h : spikedSlot x = true) : ∀ st, x.story = some st → ∃ b, st.status = .spiked b := by
  intro st found
  unfold spikedSlot at h
  rw [found] at h
  dsimp only at h
  split at h
  · rename_i b status
    exact ⟨b, status⟩
  · cases h

theorem purgeSpiked (ok : s.StoreInOrder) : s.purgeSpiked.StoreInOrder :=
  requestPurges _ ok fun i hi => status_of_spikedSlot ((Bank.mem_indices _ _ i).1 hi)

theorem forgetSent (ok : s.StoreInOrder) : s.forgetSent.StoreInOrder := ok.frame ⟨rfl, rfl, rfl, rfl, rfl, rfl, fun _ => rfl⟩

theorem turnEdition (ok : s.StoreInOrder) : s.turnEdition.StoreInOrder := by
  rw [turnEdition_eq]
  have begun : s.beginTurn.StoreInOrder := (ok.withClock _).post _ _
  exact StoreInOrder.forgetSent (StoreInOrder.purgeSpiked (begun.foldl (fun _ ok c => ok.turnChannel _ c) _))

theorem raiseWall (ok : s.StoreInOrder) : s.raiseWall.StoreInOrder := ok.frame ⟨rfl, rfl, rfl, rfl, rfl, rfl, fun _ => rfl⟩

theorem tick (ok : s.StoreInOrder) : s.tick.StoreInOrder := by
  unfold Switch.tick
  split
  · exact ok.raiseWall.turnEdition
  · split
    · exact ok.raiseWall.frame ⟨rfl, rfl, rfl, rfl, rfl, rfl, fun _ => rfl⟩
    · exact ok.raiseWall

theorem turnTick (ok : s.StoreInOrder) : s.turnTick.StoreInOrder := by
  unfold Switch.turnTick
  split
  · exact ok.raiseWall.turnEdition
  · exact ok

theorem clockStartCommand (ok : s.StoreInOrder) (h : Head) (a : Unit) : (clockStartCommand h a s).StoreInOrder := by
  unfold Switch.clockStartCommand
  split
  · exact ok.answer _ _ _
  · exact ((ok.withClock _).foldl (fun _ ok c => ok.matchIfDue c) _).answer _ _ _

theorem clockStopCommand (ok : s.StoreInOrder) (h : Head) (a : Unit) : (clockStopCommand h a s).StoreInOrder := by
  unfold Switch.clockStopCommand
  split
  · exact (ok.withClock _).answer _ _ _
  · exact ok.answer _ _ _

theorem turnCommand (ok : s.StoreInOrder) (h : Head) (a : Option Nat) : (turnCommand h a s).StoreInOrder := by
  unfold Switch.turnCommand
  split
  · exact ok.turnEdition.answer _ _ _
  · exact ok.refuse _ _

theorem editionLengthCommand (ok : s.StoreInOrder) (h : Head) (length : Nat) : (editionLengthCommand h length s).StoreInOrder := by
  unfold Switch.editionLengthCommand
  dsimp only
  exact ((ok.setGroups _).withClock _).answer _ _ _

theorem setChannelSettings (ok : s.StoreInOrder) (c : ChannelId) (x : ChannelSettings) : (s.setChannelSettings c x).StoreInOrder := ok.setGroups _

theorem deadlineCommand (ok : s.StoreInOrder) (h : Head) (a : ChannelId × Nat) : (deadlineCommand h a s).StoreInOrder := by
  unfold Switch.deadlineCommand
  dsimp only
  split
  · exact ((ok.setChannelSettings _ _).setActive _ _).answer _ _ _
  · exact (ok.setChannelSettings _ _).answer _ _ _

theorem channelCommand (ok : s.StoreInOrder) (h : Head) (a : ChannelParams) : (channelCommand h a s).StoreInOrder := by
  unfold Switch.channelCommand
  dsimp only
  split
  · exact (((ok.setChannelSettings _ _).setChannel _ _).setActive _ _).answer _ _ _
  · exact ((ok.setChannelSettings _ _).setChannel _ _).answer _ _ _

theorem takeWarning (ok : s.StoreInOrder) (c : ChannelId) : (takeWarning c s).StoreInOrder := by
  unfold Switch.takeWarning
  dsimp only
  split
  · split
    · exact (ok.setChannel _ _).postChannel _ _ _ _
    · exact ok.setChannel _ _
  · exact ok

theorem takeLateTick (ok : s.StoreInOrder) (c : ChannelId) : (takeLateTick c s).StoreInOrder := by
  unfold Switch.takeLateTick
  dsimp only
  split
  · split
    · split
      · exact (ok.setChannel _ _).postChannel _ _ _ _
      · exact ok.setChannel _ _
    · exact ok
  · exact ok

/-! ### Pages (spec/07) -/

theorem setPage (ok : s.StoreInOrder) (q : PageId) (x : Page) : (s.setPage q x).StoreInOrder :=
  ok.frame ⟨rfl, rfl, rfl, rfl, rfl, rfl, fun _ => rfl⟩

theorem onPage (ok : s.StoreInOrder) {h : Head} {q : PageId} {k : PageDef → Switch} (did : ∀ d, (k d).StoreInOrder) :
    (s.onPage h q k).StoreInOrder := by
  unfold Switch.onPage
  split
  · exact ok.refuse _ _
  · exact withRight_of (ok.refuse h) (did _)

theorem pageCommand (ok : s.StoreInOrder) (h : Head) (a : PageId × Option PageDef) : (pageCommand h a s).StoreInOrder := by
  unfold Switch.pageCommand
  split
  · unfold definePage
    split
    · exact ok.refuse _ _
    · dsimp only
      split
      · exact (((ok.setPage _ _).setGroups _).judgeGroups s).answer _ _ _
      · exact ((ok.setGroups _).judgeGroups s).answer _ _ _
  · unfold undefinePage
    split
    · exact ok.answer _ _ _
    · split
      · exact (((ok.setPage _ _).setGroups _).judgeGroups s).answer _ _ _
      · exact ok.refuse _ _

theorem layOut (ok : s.StoreInOrder) (h : Head) (q : PageId) (layout : List Placement) : (s.layOut h q layout).StoreInOrder :=
  ((ok.setPage _ _).judgeGroups s).answer _ _ _

theorem placeCommand (ok : s.StoreInOrder) (h : Head) (a : PlaceParams) : (placeCommand h a s).StoreInOrder := by
  unfold Switch.placeCommand
  dsimp only
  split
  · exact ok.refuse _ _
  · refine ok.onPage fun _ => onStory_of (ok.refuse h) fun _ _ => ?_
    split
    · exact ok.refuse _ _
    · exact ok.layOut _ _ _

theorem unplaceCommand (ok : s.StoreInOrder) (h : Head) (a : PageId × Nat) : (unplaceCommand h a s).StoreInOrder := by
  unfold Switch.unplaceCommand
  dsimp only
  split
  · exact ok.refuse _ _
  · exact ok.onPage fun _ => ok.layOut _ _ _

theorem releaseCommand (ok : s.StoreInOrder) (h : Head) (a : PageId × Bool) : (releaseCommand h a s).StoreInOrder := by
  refine ok.onPage fun d => ?_
  dsimp only
  split
  · exact ok.refuse _ _
  · split
    · exact ok.refuse _ _
    · split
      · exact (ok.reRelease _ _ _).answer _ _ _
      · unfold releaseNew
        split
        · exact (ok.releasePage _ _ _).answer _ _ _
        · exact ok.refuse _ _

theorem voidAttempt (ok : s.StoreInOrder) (q : PageId) (edition : Nat) : (s.voidAttempt q edition).StoreInOrder := by
  unfold Switch.voidAttempt
  dsimp only
  split
  · exact ok.frame ⟨rfl, rfl, rfl, rfl, rfl, rfl, fun _ => rfl⟩
  · exact ok

theorem recallCommand (ok : s.StoreInOrder) (h : Head) (q : PageId) : (recallCommand h q s).StoreInOrder := by
  refine ok.onPage fun d => ?_
  dsimp only
  split
  · exact (ok.endJob _ _).answer _ _ _
  · exact ((ok.endJob _ _).voidAttempt _ _).answer _ _ _
  all_goals exact ok.refuse _ _

theorem pageStatusCommand (ok : s.StoreInOrder) {h : Head} (idle : (s.ports.get h.port).phase = .idle) (a : Option PageId) :
    (pageStatusCommand h a s).StoreInOrder := by
  unfold Switch.pageStatusCommand
  split
  · exact ok.report idle _ _
  · have used : s.useFree.StoreInOrder := ok.frame ⟨rfl, rfl, rfl, rfl, rfl, rfl, fun _ => rfl⟩
    dsimp only
    split
    · exact used.report idle _ _
    · exact ok.report idle _ _

/-! ### The feed (spec/08) -/

theorem setLink (ok : s.StoreInOrder) (l : LinkId) (x : Link) : (s.setLink l x).StoreInOrder :=
  ok.frame ⟨rfl, rfl, rfl, rfl, rfl, rfl, fun _ => rfl⟩

theorem postLink (ok : s.StoreInOrder) (k : NoticeKind) (u : Urgency) (l : LinkId) (q : Option PageId) : (s.postLink k u l q).StoreInOrder :=
  ok.post _ _

theorem activate (ok : s.StoreInOrder) (l : LinkId) : (s.activate l).StoreInOrder := ok.frame ⟨rfl, rfl, rfl, rfl, rfl, rfl, fun _ => rfl⟩

theorem failOver (ok : s.StoreInOrder) (l : LinkId) (q : Option PageId) : (s.failOver l q).StoreInOrder := by
  unfold Switch.failOver
  split
  · exact (ok.activate _).postLink _ _ _ _
  · exact ok.postLink _ _ _ _

theorem takeOver (ok : s.StoreInOrder) (l : LinkId) : (s.takeOver l).StoreInOrder := by
  unfold Switch.takeOver
  split
  · dsimp only
    split
    all_goals exact (ok.activate _).postLink _ _ _ _
  · exact ok

theorem returnHome (ok : s.StoreInOrder) : s.returnHome.StoreInOrder := by
  unfold Switch.returnHome
  dsimp only
  split
  · exact (ok.activate _).postLink _ _ _ _
  · exact ok

theorem dropLink (ok : s.StoreInOrder) (l : LinkId) : (s.dropLink l).StoreInOrder := by
  unfold Switch.dropLink
  dsimp only
  split
  · exact (ok.setLink _ _).failOver _ _
  · exact ok.setLink _ _

theorem engineIdled (ok : s.StoreInOrder) (l : LinkId) : (s.engineIdled l).StoreInOrder := by
  unfold Switch.engineIdled
  refine StoreInOrder.returnHome ?_
  split
  · exact ok.dropLink l
  · exact ok

theorem beginAttempt (ok : s.StoreInOrder) (l : LinkId) (q : PageId) : (s.beginAttempt l q).StoreInOrder :=
  ok.frame ⟨rfl, rfl, rfl, rfl, rfl, rfl, fun _ => rfl⟩

theorem returnPage (ok : s.StoreInOrder) (q : PageId) : (s.returnPage q).StoreInOrder := ok.frame ⟨rfl, rfl, rfl, rfl, rfl, rfl, fun _ => rfl⟩

theorem discardWindow (ok : s.StoreInOrder) : s.discardWindow.StoreInOrder := ok.frame ⟨rfl, rfl, rfl, rfl, rfl, rfl, fun _ => rfl⟩

theorem abandonAttempt (ok : s.StoreInOrder) (l : LinkId) (q : PageId) : (s.abandonAttempt l q).StoreInOrder := by
  unfold Switch.abandonAttempt
  dsimp only
  split
  · exact (ok.discardWindow.faultPage _ _).failOver _ _
  · split
    · exact ((ok.discardWindow.activate _).beginAttempt _ _).postLink _ _ _ _
    · exact (ok.discardWindow.returnPage _).postLink _ _ _ _

theorem breakOff (ok : s.StoreInOrder) (l : LinkId) (state : LinkState) : (s.breakOff l state).StoreInOrder := by
  unfold Switch.breakOff
  dsimp only
  split
  · exact (ok.setLink l _).abandonAttempt _ _
  · exact (ok.setLink l _).abandonAttempt _ _
  · exact (ok.setLink l _).failOver _ _

theorem fallReady (ok : s.StoreInOrder) (l : LinkId) : (fallReady l s).StoreInOrder := by
  unfold Switch.fallReady
  dsimp only
  split
  · exact (ok.setLink _ _).setLink _ _
  · split
    · exact (ok.setLink _ _).dropLink _
    · exact ok.setLink _ _
  all_goals exact ok.setLink _ _

theorem settleLink (ok : s.StoreInOrder) (l : LinkId) : (settleLink l s).StoreInOrder := by
  unfold Switch.settleLink
  split
  · exact ((ok.setLink _ _).takeOver _).returnHome
  · exact ok

theorem stallLink (ok : s.StoreInOrder) (l : LinkId) : (stallLink l s).StoreInOrder := by
  unfold Switch.stallLink
  split
  · exact ok.breakOff _ _
  · exact ok

theorem startPage (ok : s.StoreInOrder) : s.startPage.StoreInOrder := by
  unfold Switch.startPage
  split
  · exact ok
  · split
    · exact ok.frame ⟨rfl, rfl, rfl, rfl, rfl, rfl, fun _ => rfl⟩
    · exact ok.faultPage _ _

theorem emitPresented (ok : s.StoreInOrder) (l : LinkId) : (s.emitPresented l).StoreInOrder := by
  unfold Switch.emitPresented
  split
  · exact ok
  · exact ok.frame ⟨rfl, rfl, rfl, rfl, rfl, rfl, fun _ => rfl⟩

theorem takeStrobe (ok : s.StoreInOrder) (l : LinkId) : (takeStrobe l s).StoreInOrder := by
  unfold Switch.takeStrobe
  split
  · unfold takePageByte
    dsimp only
    split
    · exact ((ok.emitPresented _).setLink _ _).discardWindow
    · exact (ok.emitPresented l).frame (by constructor <;> intros <;> rfl)
  · unfold takeVoidByte
    dsimp only
    split
    · exact ((ok.emitPresented _).setLink _ _).engineIdled _
    · exact (ok.emitPresented _).setLink _ _
  · exact ok

theorem acceptPage (ok : s.StoreInOrder) (l : LinkId) : (acceptPage l s).StoreInOrder := by
  unfold Switch.acceptPage
  split
  · exact ok
  · exact ((ok.completePage _).setLink _ _).engineIdled _

theorem rejectPage (ok : s.StoreInOrder) (l : LinkId) : (rejectPage l s).StoreInOrder := by
  unfold Switch.rejectPage
  split
  · exact ok
  · split
    · exact ok.beginAttempt _ _
    · exact ((ok.faultPage _ _).setLink _ _).engineIdled _

theorem testRisk (ok : s.StoreInOrder) (c : ChannelId) : (s.testRisk c).StoreInOrder := by
  unfold Switch.testRisk
  split
  · exact (ok.postChannel _ _ _ _).setChannel _ _
  · exact ok

theorem closeWindow (ok : s.StoreInOrder) : s.closeWindow.StoreInOrder := by
  unfold Switch.closeWindow
  split
  · exact ok
  · rename_i w _
    have sampled : (s.addSample w.count).openWindow.StoreInOrder := ok.frame ⟨rfl, rfl, rfl, rfl, rfl, rfl, fun _ => rfl⟩
    exact sampled.foldl (fun _ ok c => ok.testRisk c) _

theorem settleDisabled (ok : s.StoreInOrder) (was : Link) : (s.settleDisabled was).StoreInOrder := by
  unfold Switch.settleDisabled
  split
  · split
    · exact ok.failOver _ _
    · exact ok
  · exact ok.breakOff _ _

theorem withLinks (ok : s.StoreInOrder) (links : PerLink Link) : ({ s with links := links } : Switch).StoreInOrder :=
  ok.frame ⟨rfl, rfl, rfl, rfl, rfl, rfl, fun _ => rfl⟩

theorem linksCommand (ok : s.StoreInOrder) (h : Head) (a : PerLink Bool × LinkId) : (linksCommand h a s).StoreInOrder := by
  unfold Switch.linksCommand
  dsimp only
  refine StoreInOrder.answer (StoreInOrder.returnHome (StoreInOrder.setGroups ?_ _)) _ _ _
  split
  · exact ((ok.setGroups _).withLinks _).settleDisabled _
  · exact (ok.setGroups _).withLinks _

/-! ### The ports (spec/09) -/

theorem unknownFrame (ok : s.StoreInOrder) (h : Head) : (unknownFrame h s).StoreInOrder := by
  obtain e | ⟨tag, code, -, e⟩ := s.unknownFrame_cases h <;> rw [e]
  · exact ok
  · exact ok.refuse _ _

theorem attachCommand (ok : s.StoreInOrder) (h : Head) (a : Unit) : (attachCommand h a s).StoreInOrder := by
  unfold Switch.attachCommand
  split
  · split
    · exact (ok.frame (setPort_storeFrame _ _ (by rfl))).answer _ _ _
    · exact ok.refuse _ _
  · exact ok.refuse _ _

theorem reattachCommand (ok : s.StoreInOrder) (h : Head) (p : PortId) : (reattachCommand h p s).StoreInOrder := by
  unfold Switch.reattachCommand
  split
  · exact (ok.frame (setPort_storeFrame _ _ (by rfl))).answer _ _ _
  · exact ok.refuse _ _

/-! ### Settings and start-up (spec/10) -/

theorem filterCommand (ok : s.StoreInOrder) (h : Head) (a : Fin 24 × Filter) : (filterCommand h a s).StoreInOrder := by
  unfold Switch.filterCommand
  dsimp only
  exact (ok.setGroups _).answer _ _ _

theorem maskCommand (ok : s.StoreInOrder) (h : Head) (a : Fin 4 × Mask) : (maskCommand h a s).StoreInOrder := by
  unfold Switch.maskCommand
  dsimp only
  exact (ok.setGroups _).answer _ _ _

theorem settingsCommand (ok : s.StoreInOrder) (h : Head) (a : SettingsParams) : (settingsCommand h a s).StoreInOrder := by
  unfold Switch.settingsCommand
  split
  · split
    · exact (ok.setGroups _).answer _ _ _
    · exact ok.refuse _ _
  · exact (ok.setGroups _).answer _ _ _
  · exact (ok.setGroups _).answer _ _ _

theorem saveCommand (ok : s.StoreInOrder) {h : Head} (idle : (s.ports.get h.port).phase = .idle) (a : Unit) :
    (saveCommand h a s).StoreInOrder := by
  unfold Switch.saveCommand
  split
  · exact ok.refuse _ _
  · have closed := ok.closed_of_phase (p := h.port) (by rw [idle]; nofun)
    refine .of_parts ok.accounts ok.records ⟨fun q hq => ?_, fun x q hx port => ?_⟩
    · change ((s.ports.set h.port _).get q).phase = .command
      rw [Bank.get_set_ne _ _ (by rintro rfl; exact hq closed)]
      exact ok.phases.command q hq
    · cases hx
      cases port
      change ((s.ports.set h.port _).get h.port).phase = .executing
      rw [Bank.get_set_same]

theorem endSave (ok : s.StoreInOrder) : s.endSave.StoreInOrder := by
  unfold Switch.endSave
  split
  · exact ok
  · rename_i x saving
    have ended : ({ s with saving := none, image := some x.copy.image } : Switch).StoreInOrder :=
      .of_parts ok.accounts ok.records ⟨ok.phases.command, nofun⟩
    dsimp only
    split
    · exact ended
    · rename_i p port
      have executing := ok.phases.executing x p saving port
      exact StoreInOrder.answer (ended.setPort (ok.closed_of_phase (by rw [executing]; nofun)) nofun) _ _ _

theorem beginRestart_slots (s : Switch) (cause : StartCause) : (Switch.beginRestart cause s).slots = s.slots.map restartSlot := by
  unfold Switch.beginRestart restartStore
  rw [returnChain_foldl]
  rfl

/-- The store after a restart's returns: the chains in front of the pool, nothing reserved (R38). -/
theorem beginRestart (ok : s.StoreInOrder) (cause : StartCause) : (beginRestart cause s).StoreInOrder := by
  have listed : ∀ i st, (s.slots.get i).story = some st → st.listed := ok.records.listed
  have closed (p : PortId) : (Bank.replicate 6 (none : Option Upload)).get p = none := Bank.get_replicate _ p
  have zero (f : Option Upload → Nat) (hf : f none = 0) : (Bank.replicate 6 (none : Option Upload)).total f = 0 := by
    rw [Bank.total_eq_sum]
    exact Finset.sum_eq_zero fun p _ => by rw [closed, hf]
  refine .of_parts ?_ ⟨fun i st hst => ?_, fun p u hu => ?_, fun p u hu => ?_, fun p p' u u' hu => ?_⟩ ⟨fun p hp => absurd (closed p) hp, nofun⟩
  · unfold Switch.beginRestart restartStore
    rw [returnChain_foldl]
    generalize chains_eq : s.stagedChains ++ s.slots.cells.flatMap purgedChains = chains
    change Accounts (chains.reverse.flatten ++ s.store.freePool) (s.store.freeCount + (chains.map List.length).sum) 0
      (s.slots.map restartSlot) (Bank.replicate 6 none)
    refine ⟨fun b => ?_, ?_, (zero remainingOf rfl).symm, Nat.zero_le _⟩
    · have staged : (s.stagedChains).flatten.count b = s.uploads.total fun u => (stagingOf u).count b := by
        have flat : (s.stagedChains).flatten = s.uploads.cells.flatMap stagingOf := by
          unfold stagedChains
          induction s.uploads.cells with
          | nil => rfl
          | cons u l ih => cases u <;> simp_all [stagingOf]
        rw [flat, Bank.count_flatMap]
      have purged : (s.slots.cells.flatMap purgedChains).flatten.count b =
          s.slots.total fun x => (purgedChains x).flatten.count b := by
        rw [← Bank.count_flatMap fun x => (purgedChains x).flatten]
        simp only [List.flatMap_def, List.flatten_flatten, List.map_map]
        rfl
      have slots : (s.slots.map restartSlot).total (fun x => x.blocks.count b) +
          s.slots.total (fun x => (purgedChains x).flatten.count b) = s.slots.total fun x => x.blocks.count b := by
        simp only [Bank.total_eq_sum, ← Finset.sum_add_distrib]
        refine Finset.sum_congr rfl fun i _ => ?_
        rw [Bank.get_map, ← List.count_append, blocks_restartSlot]
        exact fun st found filing => (listed i st found).2.2 filing
      have reverse : chains.reverse.flatten.count b = chains.flatten.count b := ((List.reverse_perm _).flatten).count_eq b
      have uploads := zero (fun u => (stagingOf u).count b) rfl
      rw [← ok.accounts.blocks b]
      unfold copies
      rw [List.count_append, reverse, ← chains_eq, List.flatten_append, List.count_append]
      omega
    · rw [List.length_append, List.length_flatten, ok.accounts.freeCount, Nat.add_comm, List.map_reverse, List.sum_reverse]
  · rw [beginRestart_slots, Bank.get_map] at hst
    exact listed_restartSlot (listed i) st hst
  all_goals
    change (Bank.replicate 6 none).get p = some u at hu
    rw [closed] at hu
    cases hu

theorem blocksFrom_eq_range' (first count : Nat) : blocksFrom first count = List.range' first count := by
  induction count generalizing first with
  | zero => rfl
  | succ count ih => rw [blocksFrom, ih, List.range'_succ]

/-- After power-on every block is in the pool, and every slot is VACANT (R21, R171). -/
theorem accounts_fresh : Accounts (blocksFrom 0 8192) 8192 0 (Bank.replicate 1024 { gen := 0, story := none }) (Bank.replicate 6 none) := by
  refine ⟨fun b => ?_, ?_, (Bank.total_replicate remainingOf rfl).symm, by decide⟩
  · rw [copies, Bank.total_replicate (fun x : Slot => x.blocks.count b) rfl,
      Bank.total_replicate (fun u => (stagingOf u).count b) rfl, blocksFrom_eq_range', List.range_eq_range']
    rfl
  · rw [blocksFrom_eq_range', List.length_range']

theorem records_fresh : Records (Bank.replicate 1024 { gen := 0, story := none }) (Bank.replicate 6 none) where
  listed i st hst := by
    rw [Bank.get_replicate] at hst
    cases hst
  counted p u hu := by
    rw [Bank.get_replicate] at hu
    cases hu
  stories p u hu := by
    rw [Bank.get_replicate] at hu
    cases hu
  files p p' u u' hu := by
    rw [Bank.get_replicate] at hu
    cases hu

theorem phases_fresh (ports : Bank 6 Port) : Phases ports (Bank.replicate 6 none) none :=
  ⟨fun p hp => absurd (Bank.get_replicate none p) hp, nofun⟩

/-- Power-on makes the store anew (R171). -/
theorem powerOn (s : Switch) : s.powerOn.StoreInOrder := .of_parts accounts_fresh records_fresh (phases_fresh _)

theorem emptyBeforeEnd (ok : s.StoreInOrder) : s.emptyBeforeEnd.StoreInOrder := by
  unfold Switch.emptyBeforeEnd
  split
  · exact ok
  · exact ok.frame ⟨rfl, rfl, rfl, rfl, rfl, rfl, fun _ => rfl⟩

theorem judgeTight (ok : s.StoreInOrder) : s.judgeTight.StoreInOrder := by
  unfold Switch.judgeTight
  split
  all_goals exact ok.frame ⟨rfl, rfl, rfl, rfl, rfl, rfl, fun _ => rfl⟩

theorem endStartUp (ok : s.StoreInOrder) : s.endStartUp.StoreInOrder := by
  unfold Switch.endStartUp
  split
  · obtain ⟨g, defaulted, loaded⟩ := s.loadSettings_eq
    have defined : (takeDefinitions s s.loadSettings.takeLength).StoreInOrder := by
      rw [loaded]
      exact ok.frame ⟨rfl, rfl, rfl, rfl, rfl, rfl, fun _ => rfl⟩
    dsimp only
    generalize takeDefinitions s s.loadSettings.takeLength = w at defined
    have deadlines : w.takeDeadlines.StoreInOrder := defined.foldl (fun _ ok c => ok.setActive c _) _
    have judged := (deadlines.judgeGroups s).emptyBeforeEnd.judgeTight
    generalize ((w.takeDeadlines.judgeGroups s).emptyBeforeEnd).judgeTight = w at judged
    exact judged.frame ⟨rfl, rfl, rfl, rfl, rfl, rfl, fun _ => rfl⟩
  · exact ok

theorem easedTest (ok : s.StoreInOrder) : s.easedTest.StoreInOrder := by
  unfold Switch.easedTest
  split
  · exact ok.frame ⟨rfl, rfl, rfl, rfl, rfl, rfl, fun _ => rfl⟩
  · exact ok

end StoreInOrder

end Switch

/-! ### Every row -/

open Switch in
/-- The work of every row keeps the store in order. -/
theorem store_work (i : Instr) (s : Switch) (ok : s.StoreInOrder) : (work i s).StoreInOrder := by
  refine ?row
  cases i
  case file =>
    refine ok.taken fun _ hx idle => ok.fileCommand idle ?_
    obtain ⟨_, _, checked⟩ := Option.bind_eq_some_iff.1 hx
    exact FileArgs.check_length checked
  case find => exact ok.taken fun _ _ _ => ok.findCommand _ _
  case describe => exact ok.taken fun _ _ idle => onStory_of (ok.refuse _) fun _ _ => ok.report idle _ _
  case reclassify => exact ok.taken fun _ _ _ => ok.reclassifyCommand _ _
  case route => exact ok.taken fun _ _ _ => ok.routeCommand _ _
  case spike => exact ok.taken fun _ _ _ => ok.spikeCommand _ _
  case restore => exact ok.taken fun _ _ _ => ok.restoreCommand _ _
  case purge => exact ok.taken fun _ _ _ => ok.purgeCommand _ _
  case read => exact ok.taken fun _ _ idle => ok.readCommand idle _
  case storeStatus => exact ok.taken fun _ _ _ => ok.answer _ _ _
  case checkout => exact ok.taken fun _ _ idle => ok.checkoutCommand idle _
  case renew => exact ok.taken fun _ _ idle => ok.renewCommand idle _
  case abandon => exact ok.taken fun _ _ idle => ok.abandonCommandFrame idle _
  case checkin =>
    refine ok.taken fun _ hx idle => ok.checkinCommand idle ?_
    obtain ⟨_, _, checked⟩ := Option.bind_eq_some_iff.1 hx
    exact CheckinArgs.check_length checked
  case leaseExpiry => exact ok.expireLease _
  case breakLock => exact ok.taken fun _ _ _ => ok.breakCommand _ _
  case offer => exact ok.taken fun _ _ _ => ok.offerCommand _ _
  case accept => exact ok.taken fun _ _ _ => ok.acceptCommand _ _
  case decline => exact ok.taken fun _ _ _ => ok.declineCommand _ _
  case withdraw => exact ok.taken fun _ _ _ => ok.withdrawCommand _ _
  case offerExpiry => exact ok.lapseOffer _
  case collect => exact ok.taken fun _ _ idle => ok.collectCommand idle _
  case filter => exact ok.taken fun _ _ _ => ok.filterCommand _ _
  case mask => exact ok.taken fun _ _ _ => ok.maskCommand _ _
  case watch => exact ok.taken fun _ _ _ => ok.watchCommand _ _
  case unwatch => exact ok.taken fun _ _ _ => ok.unwatchCommand _ _
  case tick => exact ok.tick
  case editionTurn => exact ok.turnTick
  case clockStart => exact ok.taken fun _ _ _ => ok.clockStartCommand _ _
  case clockStop => exact ok.taken fun _ _ _ => ok.clockStopCommand _ _
  case turn => exact ok.taken fun _ _ _ => ok.turnCommand _ _
  case editionLength => exact ok.taken fun _ _ _ => ok.editionLengthCommand _ _
  case deadline => exact ok.taken fun _ _ _ => ok.deadlineCommand _ _
  case channel => exact ok.taken fun _ _ _ => ok.channelCommand _ _
  case warningPoint => exact ok.takeWarning _
  case deadlineMatch => exact ok.matchIfDue _
  case lateTick => exact ok.takeLateTick _
  case clockStatus => exact ok.taken fun _ _ idle => ok.report idle _ _
  case page => exact ok.taken fun _ _ _ => ok.pageCommand _ _
  case place => exact ok.taken fun _ _ _ => ok.placeCommand _ _
  case unplace => exact ok.taken fun _ _ _ => ok.unplaceCommand _ _
  case release => exact ok.taken fun _ _ _ => ok.releaseCommand _ _
  case row.recall => exact ok.taken fun _ _ _ => ok.recallCommand _ _
  case pageStatus => exact ok.taken fun _ _ idle => ok.pageStatusCommand idle _
  case readyLineRise => exact ok.setLink _ _
  case readyLineFall => exact ok.fallReady _
  case linkSettled => exact ok.settleLink _
  case linkStall => exact ok.stallLink _
  case pageStart => exact ok.startPage
  case takeStrobe => exact ok.takeStrobe _
  case typesetterAccept => exact ok.acceptPage _
  case typesetterReject => exact ok.rejectPage _
  case paceWindowClose => exact ok.closeWindow
  case links => exact ok.taken fun _ _ _ => ok.linksCommand _ _
  case feedStatus => exact ok.taken fun _ _ idle => ok.report idle _ _
  case dataFrame => exact ok.dataFrame _ _ _
  case dataWindowLapse => exact ok.lapseDataWindow _
  case resultDataFrameSent => exact ok.sendNext _
  case holdLineRise => exact ok.frame (setPort_storeFrame _ _ (by rfl))
  case holdLineFall => exact ok.frame (setPort_storeFrame _ _ (by rfl))
  case resultWindowLapse => exact ok.lapseResultWindow _
  case frameFault => exact ok.faultyFrame _
  case frameGapTimeout => exact ok.faultyFrame _
  case unexpectedFrame => exact ok
  case unknownCommand => exact ok.unknownFrame _
  case attach => exact ok.taken fun _ _ _ => ok.attachCommand _ _
  case reattach => exact ok.taken fun _ _ _ => ok.reattachCommand _ _
  case portResetLineRise => exact ok.clearPort _
  case portResetLineFall => exact ok.frame (setPort_storeFrame _ _ (by rfl))
  case portStatus => exact ok.taken fun _ _ _ => ok.answer _ _ _
  case settings => exact ok.taken fun _ _ _ => ok.settingsCommand _ _
  case save => exact ok.taken fun _ _ idle => ok.saveCommand idle _
  case saveWriteEnd => exact ok.endSave
  case dump => exact ok.taken fun _ _ idle => ok.report idle _ _
  case hold => exact ok.taken fun _ _ _ => StoreInOrder.answer (ok.frame (by constructor <;> intros <;> rfl)) _ _ _
  case unhold => exact ok.taken fun _ _ _ => StoreInOrder.answer (ok.frame (by constructor <;> intros <;> rfl)) _ _ _
  case restart => exact ok.taken fun _ _ _ => (ok.answer _ _ _).beginRestart _
  case identify => exact ok.taken fun _ _ _ => ok.answer _ _ _
  case powerOn => exact StoreInOrder.powerOn s
  case resetLineRise => exact ok.beginRestart _
  case startUpEnd => exact ok.endStartUp

open Switch in
/-- Settles O57: each block stays in one place through every shared operation of the store, and a port with an upload open or a SAVE being
written keeps its phase until that ends. -/
theorem stepsKeepTheStoreInOrder : Obligations.StepsKeepTheStoreInOrder := by
  unfold Obligations.StepsKeepTheStoreInOrder
  exact step_keeps (P := StoreInOrder) (fun _ ok => ok.frame ⟨rfl, rfl, rfl, rfl, rfl, rfl, fun _ => rfl⟩) store_work
    (fun _ ok => ok.easedTest) fun _ _ ok => ok.frame ⟨rfl, rfl, rfl, rfl, rfl, rfl, fun _ => rfl⟩

end Sys2Proof.Machine
end

section
/-! SUPPORT. The pins of the versions and what holds them, as it follows from the slots, the upload records and a multiset of holders (R16, R19,
R26, R29, R31). -/

namespace Sys2Proof.Machine

/-! ### What holds a pin (R31) -/

/-- The version an entry captured. -/
def Entry.held (e : Entry) : Option (Handle × Nat) := e.version.map fun n => (e.handle, n)

/-- The versions that snapshot entries captured. -/
def heldBy (entries : List Entry) : Multiset (Handle × Nat) := ↑(entries.filterMap Entry.held)

/-- The versions that a page's job holds. -/
def Page.held (x : Page) : Multiset (Handle × Nat) := heldBy ((x.job.map Job.entries).getD [])

/-- The version that a READ stream holds. -/
def Port.held (x : Port) : Multiset (Handle × Nat) :=
  match x.stream with
  | some (.read k n _) => {(k, n)}
  | _ => 0

/-- The holds of the members of a bank together. -/
@[irreducible] def Bank.holds (f : α → Multiset γ) (b : Bank n α) : Multiset γ := ∑ i, f (b.get i)

theorem Bank.count_holds [DecidableEq γ] (f : α → Multiset γ) (b : Bank n α) (c : γ) :
    (b.holds f).count c = b.total fun x => (f x).count c := by
  unfold Bank.holds
  rw [Multiset.count_sum', Bank.total_eq_sum]

theorem Bank.mem_holds {f : α → Multiset γ} {b : Bank n α} {c : γ} : c ∈ b.holds f ↔ ∃ i, c ∈ f (b.get i) := by
  unfold Bank.holds
  rw [Multiset.mem_sum]
  exact ⟨fun ⟨i, _, h⟩ => ⟨i, h⟩, fun ⟨i, h⟩ => ⟨i, Finset.mem_univ i, h⟩⟩

theorem Bank.holds_congr {f : α → Multiset γ} {b b' : Bank n α} (h : ∀ i, f (b'.get i) = f (b.get i)) : b'.holds f = b.holds f := by
  unfold Bank.holds
  exact Finset.sum_congr rfl fun i _ => h i

theorem Bank.holds_set (f : α → Multiset γ) (b : Bank n α) (i : Fin n) (a : α) : (b.set i a).holds f + f (b.get i) = b.holds f + f a := by
  unfold Bank.holds
  rw [← Finset.add_sum_erase _ _ (Finset.mem_univ i), ← Finset.add_sum_erase (a := i) _ (fun j => f (b.get j)) (Finset.mem_univ i)]
  have others : ∑ j ∈ Finset.univ.erase i, f ((b.set i a).get j) = ∑ j ∈ Finset.univ.erase i, f (b.get j) :=
    Finset.sum_congr rfl fun j hj => by rw [Bank.get_set_ne _ _ (Finset.ne_of_mem_erase hj).symm]
  rw [others, Bank.get_set_same]
  abel

/-- Every hold on a version, as often as it is held. -/
def Switch.holders (s : Switch) : Multiset (Handle × Nat) := s.pages.holds Page.held + s.ports.holds Port.held

theorem heldBy_cons (e : Entry) (l : List Entry) : heldBy (e :: l) = heldBy [e] + heldBy l := by
  unfold heldBy
  rw [Multiset.coe_add]
  congr 1
  exact List.filterMap_append (l := [e])

theorem heldBy_nil : heldBy [] = 0 := rfl

theorem heldBy_some {e : Entry} {n : Nat} (h : e.version = some n) : heldBy [e] = {(e.handle, n)} := by
  simp [heldBy, Entry.held, h]

theorem heldBy_none {e : Entry} (h : e.version = none) : heldBy [e] = 0 := by
  simp [heldBy, Entry.held, h]

theorem Page.held_of_none {x : Page} (h : x.job = none) : x.held = 0 := by
  simp [Page.held, h, heldBy_nil]

theorem Page.held_of_some {x : Page} {j : Job} (h : x.job = some j) : x.held = heldBy j.entries := by
  simp [Page.held, h]

theorem Port.held_of_read {x : Port} {k : Handle} {n sent : Nat} (h : x.stream = some (.read k n sent)) : x.held = {(k, n)} := by
  simp [Port.held, h]

theorem Port.held_of_none {x : Port} (h : x.stream = none) : x.held = 0 := by
  simp [Port.held, h]

theorem count_heldBy (l : List Entry) (k : Handle) (n : Nat) :
    (heldBy l).count (k, n) = l.countP fun e => e.handle == k && e.version == some n := by
  unfold heldBy
  rw [Multiset.coe_count]
  induction l with
  | nil => rfl
  | cons e l ih =>
    rw [List.countP_cons, ← ih]
    cases version : e.version with
    | none => simp [Entry.held, version]
    | some m => simp [Entry.held, version, List.count_cons]

theorem List.countP_eq_sum (f : α → Bool) (l : List α) : l.countP f = (l.map fun x => if f x then 1 else 0).sum := by
  induction l with
  | nil => rfl
  | cons x l ih => rw [List.countP_cons, ih, List.map_cons, List.sum_cons, Nat.add_comm]

theorem List.countP_flatMap_eq_sum (f : β → Bool) (g : α → List β) (l : List α) :
    (l.flatMap g).countP f = (l.map fun x => (g x).countP f).sum := by
  induction l with
  | nil => rfl
  | cons x l ih => rw [List.flatMap_cons, List.countP_append, ih, List.map_cons, List.sum_cons]

theorem pinsOn_eq (s : Switch) (k : Handle) (n : Nat) : s.pinsOn k n = s.holders.count (k, n) := by
  unfold Switch.pinsOn Switch.holders
  rw [Multiset.count_add, Bank.count_holds, Bank.count_holds, List.countP_flatMap_eq_sum, List.countP_eq_sum]
  congr 1
  · exact Bank.total_congr fun q => by rw [Page.held, count_heldBy]
  · refine Bank.total_congr fun p => ?_
    split
    · rename_i h m sent stream
      rw [Port.held_of_read stream, Multiset.count_singleton]
      simp only [Prod.mk.injEq, Bool.and_eq_true, beq_iff_eq]
      congr 1
      exact propext ⟨fun e => ⟨e.1.symm, e.2.symm⟩, fun e => ⟨e.1.symm, e.2.symm⟩⟩
    · rename_i other
      have none : (s.ports.get p).held = 0 := by
        unfold Port.held
        split
        · rename_i h m sent stream
          exact absurd stream (other h m sent)
        · rfl
      rw [none, Multiset.count_zero]
      rfl

/-! ### Pins in accord with a multiset of holders -/

/-- The parts of `PinsAgree` about the slots and the upload records but for pending purges, for any holders. -/
structure HoldsAgree (slots : Bank 1024 Slot) (uploads : Bank 6 (Option Upload)) (holders : Multiset (Handle × Nat)) : Prop where
  pins : ∀ i st v, (slots.get i).story = some st → v ∈ st.versions →
    v.pins = holders.count ({ slot := i, gen := (slots.get i).gen }, v.number)
  marked : ∀ i st v, (slots.get i).story = some st → v ∈ st.versions → v.retiring = true → v.pins = 0
  current : ∀ i st v, (slots.get i).story = some st → st.versions.getLast? = some v → v.retiring = false
  numbers : ∀ i st, (slots.get i).story = some st → (st.versions.map Version.number).Nodup
  held : ∀ x ∈ holders, ∃ st v, storyIn slots x.1 = some st ∧ v ∈ st.versions ∧ v.number = x.2
  victims : ∀ p u n, uploads.get p = some u → u.victim = some n →
    ∃ st v, storyIn slots u.handle = some st ∧ v ∈ st.versions ∧ v.number = n ∧ v.retiring = true
  apart : ∀ p p' u u', uploads.get p = some u → uploads.get p' = some u' → u.handle = u'.handle → u.victim ≠ none →
    u.victim = u'.victim → p = p'

/-- A pending purge waits for a pin (R16, R19). -/
def PurgesWait (slots : Bank 1024 Slot) : Prop :=
  ∀ i st, (slots.get i).story = some st → st.status = .spiked true → ∃ v ∈ st.versions, v.pins ≠ 0

/-- A slot for another: the same story but for its status and fields that no pin reads. -/
structure Slot.SameVersions (x y : Slot) : Prop where
  gen : y.gen = x.gen
  versions : y.story.map Story.versions = x.story.map Story.versions

/-- The same versions, and no purge pending that was not. -/
structure Slot.KeepsPins (x y : Slot) : Prop extends Slot.SameVersions x y where
  pending : ∀ st, y.story = some st → st.status = .spiked true → ∃ st', x.story = some st' ∧ st'.status = .spiked true

/-- Upload records for others: no victim that was not some upload's at the same port. -/
def KeepsVictims (uploads uploads' : Bank 6 (Option Upload)) : Prop :=
  ∀ p u, uploads'.get p = some u → u.victim ≠ none → ∃ old, uploads.get p = some old ∧ u.handle = old.handle ∧ u.victim = old.victim

theorem Slot.KeepsPins.refl (x : Slot) : x.KeepsPins x := ⟨⟨rfl, rfl⟩, fun st h spiked => ⟨st, h, spiked⟩⟩

theorem Slot.KeepsPins.trans {x y z : Slot} (a : x.KeepsPins y) (b : y.KeepsPins z) : x.KeepsPins z := by
  refine ⟨⟨b.gen.trans a.gen, b.versions.trans a.versions⟩, fun st h spiked => ?_⟩
  obtain ⟨st', h', spiked'⟩ := b.pending st h spiked
  exact a.pending st' h' spiked'

theorem Slot.SameVersions.of_story {x y : Slot} {st st' : Story} (hx : x.story = some st) (hy : y.story = some st') (gen : y.gen = x.gen)
    (versions : st'.versions = st.versions) : x.SameVersions y :=
  ⟨gen, by rw [hx, hy, Option.map_some, Option.map_some, versions]⟩

/-- A story for another with the same versions, and no purge pending that was not. -/
theorem Slot.KeepsPins.of_story {x y : Slot} {st st' : Story} (hx : x.story = some st) (hy : y.story = some st') (gen : y.gen = x.gen)
    (versions : st'.versions = st.versions) (pending : st'.status = .spiked true → st.status = .spiked true) : x.KeepsPins y := by
  refine ⟨.of_story hx hy gen versions, fun z hz spiked => ⟨st, hx, pending ?_⟩⟩
  rw [hy] at hz
  cases hz
  exact spiked

theorem Slot.SameVersions.story {x y : Slot} (h : x.SameVersions y) {st : Story} (hy : y.story = some st) :
    ∃ st', x.story = some st' ∧ st.versions = st'.versions := by
  have versions := h.versions
  rw [hy, Option.map_some] at versions
  obtain ⟨st', hx, e⟩ := Option.map_eq_some_iff.1 versions.symm
  exact ⟨st', hx, e.symm⟩

theorem Slot.SameVersions.story' {x y : Slot} (h : x.SameVersions y) {st : Story} (hx : x.story = some st) :
    ∃ st', y.story = some st' ∧ st'.versions = st.versions := by
  have versions := h.versions
  rw [hx, Option.map_some] at versions
  exact Option.map_eq_some_iff.1 versions

theorem KeepsVictims.refl (uploads : Bank 6 (Option Upload)) : KeepsVictims uploads uploads := fun _ u h _ => ⟨u, h, rfl, rfl⟩

theorem KeepsVictims.trans {a b c : Bank 6 (Option Upload)} (ab : KeepsVictims a b) (bc : KeepsVictims b c) : KeepsVictims a c := by
  intro p u hu victim
  obtain ⟨old, hold, handle, same⟩ := bc p u hu victim
  obtain ⟨older, holder, handle', same'⟩ := ab p old hold (same ▸ victim)
  exact ⟨older, holder, handle.trans handle', same.trans same'⟩

theorem KeepsVictims.set (uploads : Bank 6 (Option Upload)) (p : PortId) {x : Option Upload}
    (own : ∀ u, x = some u → u.victim ≠ none → ∃ old, uploads.get p = some old ∧ u.handle = old.handle ∧ u.victim = old.victim) :
    KeepsVictims uploads (uploads.set p x) := by
  intro q u hu victim
  rw [Bank.get_set] at hu
  split at hu
  · rename_i e
    exact e ▸ own u hu victim
  · exact ⟨u, hu, rfl, rfl⟩

theorem storyIn_sameVersions {slots slots' : Bank 1024 Slot} (same : ∀ i, (slots.get i).SameVersions (slots'.get i)) {k : Handle} {st : Story}
    (found : storyIn slots k = some st) : ∃ st', storyIn slots' k = some st' ∧ st'.versions = st.versions := by
  obtain ⟨gen, own⟩ := storyIn_eq_some.1 found
  obtain ⟨st', own', versions⟩ := (same k.slot).story' own
  exact ⟨st', storyIn_eq_some.2 ⟨(same k.slot).gen.trans gen, own'⟩, versions⟩

theorem HoldsAgree.keep {slots slots' : Bank 1024 Slot} {uploads uploads' : Bank 6 (Option Upload)} {holders : Multiset (Handle × Nat)}
    (ok : HoldsAgree slots uploads holders) (same : ∀ i, (slots.get i).SameVersions (slots'.get i)) (victims : KeepsVictims uploads uploads') :
    HoldsAgree slots' uploads' holders where
  pins i st v hst hv := by
    obtain ⟨st', own, versions⟩ := (same i).story hst
    rw [(same i).gen]
    exact ok.pins i st' v own (versions ▸ hv)
  marked i st v hst hv := by
    obtain ⟨st', own, versions⟩ := (same i).story hst
    exact ok.marked i st' v own (versions ▸ hv)
  current i st v hst hv := by
    obtain ⟨st', own, versions⟩ := (same i).story hst
    exact ok.current i st' v own (versions ▸ hv)
  numbers i st hst := by
    obtain ⟨st', own, versions⟩ := (same i).story hst
    exact versions ▸ ok.numbers i st' own
  held x hx := by
    obtain ⟨st, v, found, hv, number⟩ := ok.held x hx
    obtain ⟨st', found', versions⟩ := storyIn_sameVersions same found
    exact ⟨st', v, found', versions ▸ hv, number⟩
  victims p u n hu hn := by
    obtain ⟨old, hold, handle, victim⟩ := victims p u hu (by rw [hn]; nofun)
    obtain ⟨st, v, found, hv, rest⟩ := ok.victims p old n hold (victim ▸ hn)
    obtain ⟨st', found', versions⟩ := storyIn_sameVersions same found
    exact ⟨st', v, handle ▸ found', versions ▸ hv, rest⟩
  apart p p' u u' hu hu' handle victim same' := by
    obtain ⟨old, hold, handle₁, victim₁⟩ := victims p u hu victim
    obtain ⟨old', hold', handle₂, victim₂⟩ := victims p' u' hu' (same' ▸ victim)
    exact ok.apart p p' old old' hold hold' (by rw [← handle₁, handle, handle₂]) (victim₁ ▸ victim) (by rw [← victim₁, same', victim₂])

theorem PurgesWait.keep {slots slots' : Bank 1024 Slot} (ok : PurgesWait slots) (same : ∀ i, (slots.get i).KeepsPins (slots'.get i)) :
    PurgesWait slots' := by
  intro i st hst spiked
  obtain ⟨st', own, versions⟩ := (same i).toSameVersions.story hst
  obtain ⟨st'', own', spiked'⟩ := (same i).pending st hst spiked
  rw [own] at own'
  cases own'
  rw [versions]
  exact ok i st' own spiked'

/-- A port for another: the same hold, and no stream outside RESULT that was not there. -/
def Port.KeepsPins (x y : Port) : Prop :=
  y.held = x.held ∧ (y.stream = none ∨ y.phase = .result ∨ y.stream = x.stream ∧ y.phase = x.phase)

/-- A page for another: the same holds, and no job outside QUEUED and SENDING that was not there. -/
def Page.KeepsPins (x y : Page) : Prop :=
  y.held = x.held ∧ (y.job = none ∨ (y.state = .queued ∨ y.state = .sending) ∨ x.job ≠ none ∧ y.state = x.state)

theorem Port.KeepsPins.refl (x : Port) : x.KeepsPins x := ⟨rfl, .inr (.inr ⟨rfl, rfl⟩)⟩

theorem Port.KeepsPins.trans {x y z : Port} (a : x.KeepsPins y) (b : y.KeepsPins z) : x.KeepsPins z := by
  refine ⟨b.1.trans a.1, ?_⟩
  rcases b.2 with none | result | ⟨stream, phase⟩
  · exact .inl none
  · exact .inr (.inl result)
  · rw [stream, phase]
    exact a.2

theorem Page.KeepsPins.refl (x : Page) : x.KeepsPins x := by
  refine ⟨rfl, ?_⟩
  cases job : x.job with
  | none => exact .inl rfl
  | some j => exact .inr (.inr ⟨nofun, rfl⟩)

theorem Page.KeepsPins.trans {x y z : Page} (a : x.KeepsPins y) (b : y.KeepsPins z) : x.KeepsPins z := by
  refine ⟨b.1.trans a.1, ?_⟩
  rcases b.2 with none | good | ⟨job, state⟩
  · exact .inl none
  · exact .inr (.inl good)
  · rw [state]
    exact .inr (a.2.resolve_left job)

namespace Switch

/-! ### The pins of a switch, with holds that its records do not show -/

/-- The pins in accord with the holders given. -/
structure PinsOn (s : Switch) (holders : Multiset (Handle × Nat)) : Prop where
  agree : HoldsAgree s.slots s.uploads holders
  wait : PurgesWait s.slots

/-- The pins in accord with the holders of the switch and more: holds taken and not yet recorded, or no longer recorded and not yet given up. -/
structure PinsWith (s : Switch) (more : Multiset (Handle × Nat)) : Prop extends PinsOn s (s.holders + more) where
  result : ∀ p, (s.ports.get p).stream ≠ none → (s.ports.get p).phase = .result
  jobs : ∀ q, (s.pages.get q).job ≠ none → (s.pages.get q).state = .queued ∨ (s.pages.get q).state = .sending

theorem hasVersion_iff (s : Switch) (k : Handle) (n : Nat) :
    s.hasVersion k n ↔ ∃ st v, storyIn s.slots k = some st ∧ v ∈ st.versions ∧ v.number = n := Iff.rfl

theorem mem_holders_page {s : Switch} {q : PageId} {x : Handle × Nat} (h : x ∈ (s.pages.get q).held) : x ∈ s.holders := by
  rw [holders, Multiset.mem_add]
  exact .inl (Bank.mem_holds.2 ⟨q, h⟩)

theorem mem_holders_port {s : Switch} {p : PortId} {x : Handle × Nat} (h : x ∈ (s.ports.get p).held) : x ∈ s.holders := by
  rw [holders, Multiset.mem_add]
  exact .inr (Bank.mem_holds.2 ⟨p, h⟩)

theorem mem_page_held {x : Page} {k : Handle} {n : Nat} :
    (k, n) ∈ x.held ↔ ∃ j, x.job = some j ∧ ∃ e ∈ j.entries, e.handle = k ∧ e.version = some n := by
  unfold Page.held heldBy
  cases x.job with
  | none => simp
  | some j => simp [Entry.held, and_comm]

theorem mem_port_held {x : Port} {k : Handle} {n : Nat} : (k, n) ∈ x.held ↔ ∃ sent, x.stream = some (.read k n sent) := by
  unfold Port.held
  split
  · rename_i h m sent stream
    simp only [stream, Multiset.mem_singleton, Prod.mk.injEq, Option.some.injEq, Stream.read.injEq]
    exact ⟨fun ⟨e, e'⟩ => ⟨sent, e.symm, e'.symm, rfl⟩, fun ⟨_, e, e', _⟩ => ⟨e.symm, e'.symm⟩⟩
  · rename_i other
    simp only [Multiset.notMem_zero, false_iff, not_exists]
    exact fun sent => other k n sent

theorem PinsAgree.pinsWith {s : Switch} (ok : s.PinsAgree) (store : s.StoreInOrder) (queue : s.QueueInOrder) : s.PinsWith 0 := by
  obtain ⟨pins, marked, pending, entries, streams, result, victims, apart⟩ := ok
  refine ⟨⟨?_, pending⟩, result, fun q => (queue.queue.table.jobs q).1⟩
  rw [add_zero]
  refine ⟨fun i st v hst hv => ?_, fun i st v hst hv retiring => (marked i st v hst hv retiring).1, fun i st v hst last => ?_,
    fun i st hst => (store.records.listed i st hst).1.2.1, fun x hx => ?_, victims, apart⟩
  · rw [← pinsOn_eq]
    exact pins i st v hst hv
  · by_contra retiring
    exact (marked i st v hst (List.mem_of_getLast? last) (by simpa using retiring)).2 last
  · obtain ⟨k, n⟩ := x
    rw [holders, Multiset.mem_add] at hx
    rcases hx with hx | hx
    · obtain ⟨q, hq⟩ := Bank.mem_holds.1 hx
      obtain ⟨j, hj, e, he, rfl, hn⟩ := mem_page_held.1 hq
      exact entries q j e n hj he hn
    · obtain ⟨p, hp⟩ := Bank.mem_holds.1 hx
      obtain ⟨sent, stream⟩ := mem_port_held.1 hp
      exact streams p k n sent stream

theorem PinsWith.pinsAgree {s : Switch} (h : s.PinsWith 0) : s.PinsAgree := by
  obtain ⟨⟨ok, pending⟩, result, -⟩ := h
  rw [add_zero] at ok
  refine ⟨fun i st v hst hv => ?_, fun i st v hst hv retiring => ⟨ok.marked i st v hst hv retiring, fun last => ?_⟩, pending,
    fun q j e n hj he hn => ?_, fun p k n sent stream => ?_, result, ok.victims, ok.apart⟩
  · rw [pinsOn_eq]
    exact ok.pins i st v hst hv
  · rw [ok.current i st v hst last] at retiring
    cases retiring
  · exact ok.held (e.handle, n) (mem_holders_page (mem_page_held.2 ⟨j, hj, e, he, rfl, hn⟩))
  · exact ok.held (k, n) (mem_holders_port (mem_port_held.2 ⟨sent, stream⟩))

/-! ### What leaves the pins alone -/

/-- What the pins read, as it was. -/
structure PinFrame (s t : Switch) : Prop where
  slots : ∀ i, (s.slots.get i).KeepsPins (t.slots.get i)
  uploads : KeepsVictims s.uploads t.uploads
  ports : ∀ p, (s.ports.get p).KeepsPins (t.ports.get p)
  pages : ∀ q, (s.pages.get q).KeepsPins (t.pages.get q)

namespace PinFrame

variable {s t u : Switch}

theorem of_same (slots : t.slots = s.slots) (uploads : t.uploads = s.uploads) (ports : t.ports = s.ports) (pages : t.pages = s.pages) :
    PinFrame s t where
  slots _ := slots ▸ .refl _
  uploads := uploads ▸ .refl _
  ports _ := ports ▸ .refl _
  pages _ := pages ▸ .refl _

theorem refl (s : Switch) : PinFrame s s := .of_same rfl rfl rfl rfl

theorem trans (a : PinFrame s t) (b : PinFrame t u) : PinFrame s u where
  slots i := (a.slots i).trans (b.slots i)
  uploads := a.uploads.trans b.uploads
  ports p := (a.ports p).trans (b.ports p)
  pages q := (a.pages q).trans (b.pages q)

theorem foldl {f : Switch → α → Switch} (h : ∀ s a, PinFrame s (f s a)) (l : List α) (s : Switch) : PinFrame s (l.foldl f s) := by
  induction l generalizing s with
  | nil => exact refl s
  | cons a l ih => exact (h s a).trans (ih _)

end PinFrame

theorem PinsWith.frame {s t : Switch} {more : Multiset (Handle × Nat)} (ok : s.PinsWith more) (h : PinFrame s t) : t.PinsWith more where
  agree := by
    have holders : t.holders = s.holders := by
      rw [holders, holders, Bank.holds_congr fun q => (h.pages q).1, Bank.holds_congr fun p => (h.ports p).1]
    rw [holders]
    exact ok.agree.keep (fun i => (h.slots i).toSameVersions) h.uploads
  wait := ok.wait.keep h.slots
  result p stream := by
    rcases (h.ports p).2 with none | result | ⟨same, phase⟩
    · exact absurd none stream
    · exact result
    · rw [phase]
      exact ok.result p (same ▸ stream)
  jobs q job := by
    rcases (h.pages q).2 with none | good | ⟨had, state⟩
    · exact absurd none job
    · exact good
    · rw [state]
      exact ok.jobs q had

end Switch
end Sys2Proof.Machine
end

section
/-! SUPPORT. The pins through the operations that move them: pins taken and released, marks, purges, snapshots (R16 to R19, R26, R31, R123). -/

namespace Sys2Proof.Machine

/-! ### The versions of one story changed -/

theorem mem_changeVersion {n : Nat} {f : Version → Version} {l : List Version} {v : Version} :
    v ∈ changeVersion n f l ↔ ∃ w ∈ l, v = if w.number = n then f w else w := by
  unfold changeVersion
  simp only [List.mem_map, beq_iff_eq]
  exact ⟨fun ⟨w, hw, e⟩ => ⟨w, hw, e.symm⟩, fun ⟨w, hw, e⟩ => ⟨w, hw, e.symm⟩⟩

theorem getLast?_changeVersion {n : Nat} {f : Version → Version} {l : List Version} {v : Version}
    (h : (changeVersion n f l).getLast? = some v) : ∃ w, l.getLast? = some w ∧ v = if w.number = n then f w else w := by
  unfold changeVersion at h
  rw [List.getLast?_map] at h
  obtain ⟨w, hw, e⟩ := Option.map_eq_some_iff.1 h
  refine ⟨w, hw, ?_⟩
  rw [← e]
  simp only [beq_iff_eq]

/-- What a change of the versions of a number does to the pins, when the change and the holders agree. -/
structure Repinned (st : Story) (n : Nat) (f : Version → Version) (k : Handle) (holders holders' : Multiset (Handle × Nat)) : Prop where
  number : ∀ v, (f v).number = v.number
  pins : ∀ v ∈ st.versions, v.number = n → v.pins = holders.count (k, n) → (f v).pins = holders'.count (k, n)
  others : ∀ x, x ≠ (k, n) → holders'.count x = holders.count x
  marked : ∀ v ∈ st.versions, v.number = n → (v.retiring = true → v.pins = 0) → (f v).retiring = true → (f v).pins = 0
  current : ∀ v, st.versions.getLast? = some v → v.number = n → v.retiring = false → (f v).retiring = false
  held : (k, n) ∈ holders' → ∃ v ∈ st.versions, v.number = n

/-- The slots with a story's versions of a number changed. -/
def changedSlots (slots : Bank 1024 Slot) (k : Handle) (st : Story) (n : Nat) (f : Version → Version) : Bank 1024 Slot :=
  slots.set k.slot { slots.get k.slot with story := some { st with versions := changeVersion n f st.versions } }

theorem storyIn_changedSlots {slots : Bank 1024 Slot} {k : Handle} {st : Story} (found : storyIn slots k = some st) (n : Nat)
    (f : Version → Version) (h : Handle) : storyIn (changedSlots slots k st n f) h =
      if h = k then some { st with versions := changeVersion n f st.versions } else storyIn slots h := by
  obtain ⟨gen, own⟩ := storyIn_eq_some.1 found
  unfold storyIn changedSlots
  by_cases slot : k.slot = h.slot
  · rw [← slot, Bank.get_set_same]
    dsimp only
    by_cases same : h = k
    · rw [if_pos same, same, if_pos gen]
    · rw [if_neg same, if_neg, if_neg]
      all_goals
        rw [gen]
        intro gen'
        exact same (by cases h; cases k; simp_all)
  · rw [Bank.get_set_ne _ _ slot, if_neg (fun same : h = k => slot (by rw [same]))]

/-- A story's slot in the changed slots, by cases. -/
theorem story_changedSlots {slots : Bank 1024 Slot} {k : Handle} {st : Story} {n : Nat} {f : Version → Version} {i : SlotId} {st' : Story}
    (h : ((changedSlots slots k st n f).get i).story = some st') : ((changedSlots slots k st n f).get i).gen = (slots.get i).gen ∧
      (i = k.slot ∧ st' = { st with versions := changeVersion n f st.versions } ∨
        i ≠ k.slot ∧ (slots.get i).story = some st') := by
  unfold changedSlots at h ⊢
  rw [Bank.get_set] at h ⊢
  split at h
  · rename_i e
    cases h
    exact ⟨by rw [if_pos e, e], .inl ⟨e.symm, rfl⟩⟩
  · rename_i ne
    exact ⟨by rw [if_neg ne], .inr ⟨Ne.symm ne, h⟩⟩

theorem HoldsAgree.change {slots : Bank 1024 Slot} {uploads uploads' : Bank 6 (Option Upload)} {holders holders' : Multiset (Handle × Nat)}
    (ok : HoldsAgree slots uploads holders) {k : Handle} {st : Story} (found : storyIn slots k = some st) {n : Nat} {f : Version → Version}
    (re : Repinned st n f k holders holders')
    (victims : ∀ p u m, uploads'.get p = some u → u.victim = some m →
      (u.handle = k ∧ m = n ∧ ∃ v ∈ st.versions, v.number = n ∧ (f v).retiring = true) ∨
        (u.handle ≠ k ∨ m ≠ n) ∧ ∃ old, uploads.get p = some old ∧ old.handle = u.handle ∧ old.victim = some m)
    (apart : ∀ p p' u u', uploads'.get p = some u → uploads'.get p' = some u' → u.handle = u'.handle → u.victim ≠ none →
      u.victim = u'.victim → p = p') : HoldsAgree (changedSlots slots k st n f) uploads' holders' := by
  obtain ⟨gen, own⟩ := storyIn_eq_some.1 found
  have at_ : (⟨k.slot, (slots.get k.slot).gen⟩ : Handle) = k := congrArg (Handle.mk k.slot) gen
  have was (v : Version) (hv : v ∈ st.versions) : v.pins = holders.count (k, v.number) := by
    rw [ok.pins _ st v own hv, at_]
  refine ⟨fun i st' v hst hv => ?_, fun i st' v hst hv => ?_, fun i st' v hst hv => ?_,
    fun i st' hst => ?_, fun x hx => ?_, fun p u m hu hm => ?_, apart⟩
  · obtain ⟨same, ⟨rfl, rfl⟩ | old⟩ := story_changedSlots hst
    · rw [same, at_]
      obtain ⟨w, hw, rfl⟩ := mem_changeVersion.1 hv
      split
      · rename_i number
        rw [re.number, number]
        exact re.pins w hw number (number ▸ was w hw)
      · rename_i number
        rw [re.others _ (fun e => number (congrArg Prod.snd e))]
        exact was w hw
    · obtain ⟨other, old⟩ := old
      rw [same, re.others _ (fun e => other (congrArg (fun x => x.1.slot) e))]
      exact ok.pins i st' v old hv
  · obtain ⟨-, ⟨rfl, rfl⟩ | ⟨-, old⟩⟩ := story_changedSlots hst
    · obtain ⟨w, hw, rfl⟩ := mem_changeVersion.1 hv
      split
      · rename_i number
        exact re.marked w hw number (ok.marked _ st w own hw)
      · exact ok.marked _ st w own hw
    · exact ok.marked i st' v old hv
  · obtain ⟨-, ⟨rfl, rfl⟩ | ⟨-, old⟩⟩ := story_changedSlots hst
    · obtain ⟨w, hw, rfl⟩ := getLast?_changeVersion hv
      split
      · rename_i number
        exact re.current w hw number (ok.current _ st w own hw)
      · exact ok.current _ st w own hw
    · exact ok.current i st' v old hv
  · obtain ⟨-, ⟨rfl, rfl⟩ | ⟨-, old⟩⟩ := story_changedSlots hst
    · have same : (changeVersion n f st.versions).map Version.number = st.versions.map Version.number := by
        unfold changeVersion
        rw [List.map_map]
        refine List.map_congr_left fun v _ => ?_
        simp only [Function.comp_apply]
        split
        · exact re.number v
        · rfl
      exact same ▸ ok.numbers _ st own
    · exact ok.numbers i st' old
  · by_cases same : x = (k, n)
    · subst same
      obtain ⟨v, hv, number⟩ := re.held hx
      refine ⟨_, f v, by rw [storyIn_changedSlots found, if_pos rfl], mem_changeVersion.2 ⟨v, hv, ?_⟩, (re.number v).trans number⟩
      rw [if_pos number]
    · have : x ∈ holders := by
        rw [← Multiset.one_le_count_iff_mem, ← re.others x same, Multiset.one_le_count_iff_mem]
        exact hx
      obtain ⟨st', v, found', hv, number⟩ := ok.held x this
      rw [storyIn_changedSlots found]
      split
      · rename_i handle
        rw [handle, found] at found'
        cases found'
        refine ⟨_, if v.number = n then f v else v, rfl, mem_changeVersion.2 ⟨v, hv, rfl⟩, ?_⟩
        split
        · exact (re.number v).trans number
        · exact number
      · exact ⟨st', v, found', hv, number⟩
  · rcases victims p u m hu hm with ⟨handle, rfl, v, hv, number, retiring⟩ | ⟨other, old, hold, handle, hm'⟩
    · refine ⟨_, f v, by rw [storyIn_changedSlots found, if_pos handle], mem_changeVersion.2 ⟨v, hv, ?_⟩, (re.number v).trans number, retiring⟩
      rw [if_pos number]
    · obtain ⟨st', v, found', hv, number, retiring⟩ := ok.victims p old m hold hm'
      rw [storyIn_changedSlots found]
      split
      · rename_i same
        rw [handle, same, found] at found'
        cases found'
        have ne : ¬v.number = n := fun e => other.elim (fun h => h same) fun h => h (number ▸ e)
        exact ⟨_, v, rfl, mem_changeVersion.2 ⟨v, hv, (if_neg ne).symm⟩, number, retiring⟩
      · exact ⟨st', v, handle ▸ found', hv, number, retiring⟩

/-! ### A slot emptied or filled, a version made -/

theorem storyIn_set_ne {slots : Bank 1024 Slot} {i : SlotId} {y : Slot} {k : Handle} (ne : k.slot ≠ i) :
    storyIn (slots.set i y) k = storyIn slots k := by
  unfold storyIn
  rw [Bank.get_set_ne _ _ ne.symm]

/-- A slot whose versions nothing pins is emptied, and no upload's victim is left on it (R17, R26). -/
theorem HoldsAgree.vacate {slots : Bank 1024 Slot} {uploads uploads' : Bank 6 (Option Upload)} {holders : Multiset (Handle × Nat)}
    (ok : HoldsAgree slots uploads holders) {i : SlotId} {st : Story} (own : (slots.get i).story = some st)
    (free : ∀ v ∈ st.versions, v.pins = 0) {y : Slot} (vacant : y.story = none) (victims : KeepsVictims uploads uploads')
    (forgotten : ∀ p u, uploads'.get p = some u → u.victim ≠ none → u.handle ≠ ⟨i, (slots.get i).gen⟩) :
    HoldsAgree (slots.set i y) uploads' holders := by
  have elsewhere {j : SlotId} {x : Story} (hx : ((slots.set i y).get j).story = some x) :
      (slots.set i y).get j = slots.get j ∧ (slots.get j).story = some x := by
    rw [Bank.get_set] at hx ⊢
    split at hx
    · rw [vacant] at hx
      cases hx
    · rename_i ne
      exact ⟨if_neg ne, hx⟩
  have named {k : Handle} {x : Story} (found : storyIn slots k = some x) (slot : k.slot = i) : k = ⟨i, (slots.get i).gen⟩ := by
    obtain ⟨gen, -⟩ := storyIn_eq_some.1 found
    cases k
    simp_all
  refine ⟨fun j x v hx hv => ?_, fun j x v hx hv => ok.marked j x v (elsewhere hx).2 hv, fun j x v hx hv => ok.current j x v (elsewhere hx).2 hv,
    fun j x hx => ok.numbers j x (elsewhere hx).2, fun x hx => ?_, fun p u n hu hn => ?_, fun p p' u u' hu hu' handle victim same => ?_⟩
  · rw [(elsewhere hx).1]
    exact ok.pins j x v (elsewhere hx).2 hv
  · obtain ⟨st', v, found, hv, number⟩ := ok.held x hx
    have ne : x.1.slot ≠ i := by
      intro slot
      have handle := named found slot
      have own' := (storyIn_eq_some.1 found).2
      rw [slot, own] at own'
      cases own'
      have zero := free v hv
      rw [ok.pins i st v own hv, ← handle, number, Multiset.count_eq_zero] at zero
      exact zero hx
    exact ⟨st', v, by rw [storyIn_set_ne ne, found], hv, number⟩
  · obtain ⟨old, hold, handle, victim⟩ := victims p u hu (by rw [hn]; nofun)
    obtain ⟨st', v, found, rest⟩ := ok.victims p old n hold (victim ▸ hn)
    have ne : u.handle.slot ≠ i := fun slot => forgotten p u hu (by rw [hn]; nofun) (named (handle ▸ found) slot)
    exact ⟨st', v, by rw [storyIn_set_ne ne, handle, found], rest⟩
  · obtain ⟨old, hold, handle₁, victim₁⟩ := victims p u hu victim
    obtain ⟨old', hold', handle₂, victim₂⟩ := victims p' u' hu' (same ▸ victim)
    exact ok.apart p p' old old' hold hold' (by rw [← handle₁, handle, handle₂]) (victim₁ ▸ victim) (by rw [← victim₁, same, victim₂])

/-- A VACANT slot takes a story with no version. -/
theorem HoldsAgree.fill {slots : Bank 1024 Slot} {uploads uploads' : Bank 6 (Option Upload)} {holders : Multiset (Handle × Nat)}
    (ok : HoldsAgree slots uploads holders) {i : SlotId} (vacant : (slots.get i).story = none) {y : Slot} {st : Story}
    (own : y.story = some st) (empty : st.versions = []) (victims : KeepsVictims uploads uploads') :
    HoldsAgree (slots.set i y) uploads' holders := by
  have elsewhere {j : SlotId} {x : Story} (hx : ((slots.set i y).get j).story = some x) :
      x.versions = [] ∨ (slots.set i y).get j = slots.get j ∧ (slots.get j).story = some x := by
    rw [Bank.get_set] at hx ⊢
    split at hx
    · rw [own] at hx
      cases hx
      exact .inl empty
    · rename_i ne
      exact .inr ⟨if_neg ne, hx⟩
  have ne {k : Handle} {x : Story} (found : storyIn slots k = some x) : k.slot ≠ i := by
    rintro rfl
    rw [(storyIn_eq_some.1 found).2] at vacant
    cases vacant
  refine ⟨fun j x v hx hv => ?_, fun j x v hx hv => ?_, fun j x v hx hv => ?_, fun j x hx => ?_, fun x hx => ?_, fun p u n hu hn => ?_,
    fun p p' u u' hu hu' handle victim same => ?_⟩
  · rcases elsewhere hx with none | ⟨same, old⟩
    · rw [none] at hv
      cases hv
    · rw [same]
      exact ok.pins j x v old hv
  · rcases elsewhere hx with none | ⟨-, old⟩
    · rw [none] at hv
      cases hv
    · exact ok.marked j x v old hv
  · rcases elsewhere hx with none | ⟨-, old⟩
    · rw [none] at hv
      cases hv
    · exact ok.current j x v old hv
  · rcases elsewhere hx with none | ⟨-, old⟩
    · rw [none]
      exact .nil
    · exact ok.numbers j x old
  · obtain ⟨st', v, found, rest⟩ := ok.held x hx
    exact ⟨st', v, by rw [storyIn_set_ne (ne found), found], rest⟩
  · obtain ⟨old, hold, handle, victim⟩ := victims p u hu (by rw [hn]; nofun)
    obtain ⟨st', v, found, rest⟩ := ok.victims p old n hold (victim ▸ hn)
    exact ⟨st', v, by rw [handle, storyIn_set_ne (ne found), found], rest⟩
  · obtain ⟨old, hold, handle₁, victim₁⟩ := victims p u hu victim
    obtain ⟨old', hold', handle₂, victim₂⟩ := victims p' u' hu' (same ▸ victim)
    exact ok.apart p p' old old' hold hold' (by rw [← handle₁, handle, handle₂]) (victim₁ ▸ victim) (by rw [← victim₁, same, victim₂])

/-- A version on the list that is the victim of an upload is held by nothing. -/
theorem HoldsAgree.victim_free {slots : Bank 1024 Slot} {uploads : Bank 6 (Option Upload)} {holders : Multiset (Handle × Nat)}
    (ok : HoldsAgree slots uploads holders) {p : PortId} {u : Upload} (hu : uploads.get p = some u) {n : Nat} (victim : u.victim = some n) :
    (u.handle, n) ∉ holders := by
  obtain ⟨st, v, found, hv, rfl, retiring⟩ := ok.victims p u n hu victim
  obtain ⟨gen, own⟩ := storyIn_eq_some.1 found
  have zero := ok.marked _ st v own hv retiring
  rw [ok.pins _ st v own hv, show (⟨u.handle.slot, (slots.get u.handle.slot).gen⟩ : Handle) = u.handle from congrArg (Handle.mk _) gen] at zero
  exact Multiset.count_eq_zero.1 zero

/-- A completion: the victim leaves the list, and the new version stands last (R25). -/
theorem HoldsAgree.make {slots : Bank 1024 Slot} {uploads : Bank 6 (Option Upload)} {holders : Multiset (Handle × Nat)}
    (ok : HoldsAgree slots uploads holders) {p : PortId} {u : Upload} (hu : uploads.get p = some u) {st st' : Story}
    (found : storyIn slots u.handle = some st) {w : Version} (pins : w.pins = 0) (retiring : w.retiring = false)
    (fresh : ∀ x ∈ Switch.keptVersions u st, x.number ≠ w.number) (versions : st'.versions = Switch.keptVersions u st ++ [w]) :
    HoldsAgree (slots.set u.handle.slot { slots.get u.handle.slot with story := some st' }) (uploads.set p none) holders := by
  obtain ⟨gen, own⟩ := storyIn_eq_some.1 found
  have at_ : (⟨u.handle.slot, (slots.get u.handle.slot).gen⟩ : Handle) = u.handle := congrArg (Handle.mk _) gen
  have kept {v : Version} (hv : v ∈ Switch.keptVersions u st) : v ∈ st.versions := List.mem_of_mem_filter hv
  have stays {v : Version} (hv : v ∈ st.versions) (ne : u.victim ≠ some v.number) : v ∈ Switch.keptVersions u st :=
    List.mem_filter.2 ⟨hv, by simpa using ne⟩
  have found' : storyIn (slots.set u.handle.slot { slots.get u.handle.slot with story := some st' }) u.handle = some st' :=
    storyIn_eq_some.2 ⟨by rw [Bank.get_set_same]; exact gen, by rw [Bank.get_set_same]⟩
  have named {k : Handle} {x : Story} (hx : storyIn slots k = some x) (slot : k.slot = u.handle.slot) : k = u.handle ∧ x = st := by
    obtain ⟨gen', own'⟩ := storyIn_eq_some.1 hx
    rw [slot] at gen' own'
    rw [own] at own'
    cases own'
    exact ⟨by rw [← at_, gen']; cases k; simp_all, rfl⟩
  have stories {i : SlotId} {x : Story}
      (hx : ((slots.set u.handle.slot { slots.get u.handle.slot with story := some st' }).get i).story = some x) :
      ((slots.set u.handle.slot { slots.get u.handle.slot with story := some st' }).get i).gen = (slots.get i).gen ∧
        (i = u.handle.slot ∧ x = st' ∨ (slots.get i).story = some x) := by
    rw [Bank.get_set] at hx ⊢
    split at hx
    · rename_i e
      cases hx
      exact ⟨by rw [if_pos e, e], .inl ⟨e.symm, rfl⟩⟩
    · rename_i ne
      exact ⟨by rw [if_neg ne], .inr hx⟩
  have others {q : PortId} {x : Upload} (hx : (uploads.set p none).get q = some x) : q ≠ p ∧ uploads.get q = some x := by
    rw [Bank.get_set] at hx
    split at hx
    · cases hx
    · rename_i ne
      exact ⟨Ne.symm ne, hx⟩
  refine ⟨fun i x v hx hv => ?_, fun i x v hx hv marked => ?_, fun i x v hx hv => ?_, fun i x hx => ?_, fun x hx => ?_, fun q y n hy hn => ?_,
    fun q q' y y' hy hy' => ok.apart q q' y y' (others hy).2 (others hy').2⟩
  · obtain ⟨same, ⟨rfl, rfl⟩ | old⟩ := stories hx
    · rw [same, at_]
      rw [versions] at hv
      rcases List.mem_append.1 hv with hv | hv
      · rw [← at_]
        exact ok.pins _ st v own (kept hv)
      · rw [List.mem_singleton.1 hv, pins]
        refine (Multiset.count_eq_zero.2 fun held => ?_).symm
        obtain ⟨x, y, hx, hy, number⟩ := ok.held _ held
        obtain ⟨-, rfl⟩ := named hx rfl
        by_cases victim : u.victim = some w.number
        · exact ok.victim_free hu victim held
        · exact fresh y (stays hy (number ▸ victim)) number
    · rw [same]
      exact ok.pins i x v old hv
  · obtain ⟨-, ⟨rfl, rfl⟩ | old⟩ := stories hx
    · rw [versions] at hv
      rcases List.mem_append.1 hv with hv | hv
      · exact ok.marked _ st v own (kept hv) marked
      · rw [List.mem_singleton.1 hv, pins]
    · exact ok.marked i x v old hv marked
  · obtain ⟨-, ⟨rfl, rfl⟩ | old⟩ := stories hx
    · rw [versions, List.getLast?_concat] at hv
      cases hv
      exact retiring
    · exact ok.current i x v old hv
  · obtain ⟨-, ⟨rfl, rfl⟩ | old⟩ := stories hx
    · rw [versions, List.map_append, List.nodup_append]
      refine ⟨(ok.numbers _ st own).sublist (List.filter_sublist.map _), List.nodup_singleton _, fun a ha b hb => ?_⟩
      obtain ⟨y, hy, rfl⟩ := List.mem_map.1 ha
      simp only [List.map_cons, List.map_nil, List.mem_singleton] at hb
      rw [hb]
      exact fresh y hy
    · exact ok.numbers i x old
  · obtain ⟨y, v, hy, hv, number⟩ := ok.held x hx
    by_cases slot : x.1.slot = u.handle.slot
    · obtain ⟨handle, rfl⟩ := named hy slot
      refine ⟨st', v, handle ▸ found', ?_, number⟩
      rw [versions]
      refine List.mem_append_left _ (stays hv fun victim => ok.victim_free hu victim ?_)
      rwa [← handle, number]
    · exact ⟨y, v, by rw [storyIn_set_ne slot, hy], hv, number⟩
  · obtain ⟨ne, hy⟩ := others hy
    obtain ⟨x, v, hx, hv, number, marked⟩ := ok.victims q y n hy hn
    by_cases slot : y.handle.slot = u.handle.slot
    · obtain ⟨handle, rfl⟩ := named hx slot
      refine ⟨st', v, handle ▸ found', ?_, number, marked⟩
      rw [versions]
      refine List.mem_append_left _ (stays hv fun victim => ne ?_)
      exact ok.apart q p y u hy hu handle (by rw [hn]; nofun) (by rw [hn, victim, number])
    · exact ⟨x, v, by rw [storyIn_set_ne slot, hx], hv, number, marked⟩

end Sys2Proof.Machine
end

section
/-! SUPPORT. The shared operations and the pins: what leaves them alone, and how a pin is taken, recorded and given up (R9, R17 to R19, R25, R26,
R31, R85, R123, R159). -/

namespace Sys2Proof.Machine

namespace Switch

/-! ### What leaves the pins alone -/

theorem still_setPort (s : Switch) (p : PortId) {x : Port} (same : (s.ports.get p).KeepsPins x) : PinFrame s (s.setPort p x) := by
  refine { PinFrame.refl s with ports := fun q => ?_ }
  simp only [setPort_fields, Bank.get_set]
  split
  · rename_i e
    exact e ▸ same
  · exact .refl _

/-- A port's record with the same stream in the same phase. -/
theorem Port.keepsPins_of_same {x y : Port} (stream : y.stream = x.stream) (phase : y.phase = x.phase) : x.KeepsPins y :=
  ⟨by unfold Port.held; rw [stream], .inr (.inr ⟨stream, phase⟩)⟩

theorem still_post (s : Switch) (n : Notice) (who : PortId → Bool) : PinFrame s (s.post n who) := .of_same rfl rfl rfl rfl

theorem still_answer (s : Switch) (h : Head) (code : Code) (values : List Byte) : PinFrame s (s.answer h code values) := by
  unfold answer
  dsimp only
  have sent : PinFrame s (s.sendResult h.port h.tag code values) := .of_same rfl rfl rfl rfl
  split
  · refine sent.trans ?_
    unfold lowerFaults
    split
    · exact .refl _
    · exact still_setPort _ _ (Port.keepsPins_of_same (by rfl) (by rfl))
  · exact sent

theorem still_setSlot (s : Switch) (i : SlotId) {x : Slot} (same : (s.slots.get i).KeepsPins x) : PinFrame s (s.setSlot i x) := by
  refine { PinFrame.refl s with slots := fun j => ?_ }
  simp only [setSlot_fields, Bank.get_set]
  split
  · rename_i e
    exact e ▸ same
  · exact .refl _

/-- A story's status and other fields that no pin reads. -/
theorem still_setStory {s : Switch} {i : SlotId} {st st' : Story} (own : (s.slots.get i).story = some st)
    (versions : st'.versions = st.versions) (pending : st'.status = .spiked true → st.status = .spiked true) :
    PinFrame s (s.setStory i st') := s.still_setSlot i (.of_story own (by rfl) (by rfl) versions pending)

theorem still_setUpload (s : Switch) (p : PortId) {x : Option Upload}
    (own : ∀ u, x = some u → u.victim ≠ none → ∃ old, s.uploads.get p = some old ∧ u.handle = old.handle ∧ u.victim = old.victim) :
    PinFrame s (s.setUpload p x) := { PinFrame.refl s with uploads := .set _ p own }

theorem still_setPage (s : Switch) (q : PageId) {x : Page} (same : (s.pages.get q).KeepsPins x) : PinFrame s (s.setPage q x) := by
  refine { PinFrame.refl s with pages := fun k => ?_ }
  simp only [setPage_fields, Bank.get_set]
  split
  · rename_i e
    exact e ▸ same
  · exact .refl _

namespace PinsWith

variable {s t : Switch} {more : Multiset (Handle × Nat)}

theorem answer (ok : s.PinsWith more) (h : Head) (code : Code) (values : List Byte) : (s.answer h code values).PinsWith more :=
  ok.frame (s.still_answer h code values)

theorem refuse (ok : s.PinsWith more) (h : Head) (code : Code) : (s.refuse h code).PinsWith more := ok.answer h code []

theorem post (ok : s.PinsWith more) (n : Notice) (who : PortId → Bool) : (s.post n who).PinsWith more := ok.frame (s.still_post n who)

theorem foldl {f : Switch → α → Switch} (h : ∀ s, s.PinsWith more → ∀ a, (f s a).PinsWith more) (l : List α) (ok : s.PinsWith more) :
    (l.foldl f s).PinsWith more := by
  induction l generalizing s with
  | nil => exact ok
  | cons a l ih => exact ih (h s ok a)

/-- The slots and the records of the uploads replaced, the holders as they were. -/
theorem withSlots (ok : s.PinsWith more) {more' : Multiset (Handle × Nat)} {w : Switch} (agree : HoldsAgree w.slots w.uploads (s.holders + more'))
    (wait : PurgesWait w.slots) (ports : w.ports = s.ports) (pages : w.pages = s.pages) : w.PinsWith more' := by
  have holders : w.holders = s.holders := by rw [holders, holders, ports, pages]
  exact ⟨⟨by rwa [holders], wait⟩, by rw [ports]; exact ok.result, by rw [pages]; exact ok.jobs⟩

end PinsWith

namespace PinsOn

variable {s w : Switch} {more : Multiset (Handle × Nat)}

/-! ### Purges (R17, R19) -/

/-- A purge that completes with every version unpinned (R17). -/
theorem purged {i : SlotId} {st : Story} (agree : HoldsAgree w.slots w.uploads more)
    (wait : ∀ j st, j ≠ i → (w.slots.get j).story = some st → st.status = .spiked true → ∃ v ∈ st.versions, v.pins ≠ 0)
    (own : (w.slots.get i).story = some st) (unpinned : st.unpinned = true) : (w.completePurge i).PinsOn more := by
  rw [completePurge_eq w i st own]
  have free : ∀ v ∈ st.versions, v.pins = 0 := by simpa [Story.unpinned] using unpinned
  have forgotten (p : PortId) : (w.uploads.map (forgetVictim (w.handleAt i))).get p = forgetVictim (w.handleAt i) (w.uploads.get p) :=
    Bank.get_map _ _ _
  have kept {p : PortId} {u : Upload} (hu : forgetVictim (w.handleAt i) (w.uploads.get p) = some u) (victim : u.victim ≠ none) :
      w.uploads.get p = some u ∧ u.handle ≠ w.handleAt i := by
    obtain ⟨old, hold, rfl⟩ := StoreInOrder.forgetVictim_eq hu
    split at victim
    · exact absurd rfl victim
    · rename_i other
      rw [if_neg other]
      exact ⟨hold, other⟩
  refine ⟨agree.vacate own free rfl (fun p u hu victim => ?_) fun p u hu victim => ?_, fun j x hx => ?_⟩
  · rw [forgotten] at hu
    exact ⟨u, (kept hu victim).1, rfl, rfl⟩
  · rw [forgotten] at hu
    exact (kept hu victim).2
  · rw [Bank.get_set] at hx
    split at hx
    · cases hx
    · rename_i ne
      exact wait j x (Ne.symm ne) hx

theorem completePurge (ok : s.PinsOn more) {i : SlotId} {st : Story} (own : (s.slots.get i).story = some st)
    (unpinned : st.unpinned = true) : (s.completePurge i).PinsOn more :=
  purged ok.agree (fun j st _ => ok.wait j st) own unpinned

theorem not_unpinned {st : Story} (h : ¬st.unpinned = true) : ∃ v ∈ st.versions, v.pins ≠ 0 := by
  simpa [Story.unpinned] using h

theorem requestPurge (ok : s.PinsOn more) (i : SlotId) : (s.requestPurge i).PinsOn more := by
  unfold Switch.requestPurge
  split
  · exact ok
  · rename_i st own
    split
    · rename_i unpinned
      exact ok.completePurge own unpinned
    · rename_i pinned
      have kept : HoldsAgree (s.setStory i { st with status := .spiked true }).slots s.uploads more := by
        refine ok.agree.keep (fun j => ?_) (.refl _)
        simp only [setStory_fields, Bank.get_set]
        split
        · rename_i e
          subst e
          exact .of_story own (by rfl) (by rfl) (by rfl)
        · exact (Slot.KeepsPins.refl _).toSameVersions
      refine ⟨kept, fun j x hx spiked => ?_⟩
      simp only [setStory_fields, Bank.get_set] at hx
      split at hx
      · cases hx
        exact not_unpinned pinned
      · exact ok.wait j x hx spiked

/-- A purge that a story's last pin kept back completes (R19). -/
theorem purgedIfUnpinned {i : SlotId} {st : Story} (agree : HoldsAgree w.slots w.uploads more)
    (wait : ∀ j st, j ≠ i → (w.slots.get j).story = some st → st.status = .spiked true → ∃ v ∈ st.versions, v.pins ≠ 0)
    (own : (w.slots.get i).story = some st) : (w.purgeIfUnpinned i).PinsOn more := by
  unfold Switch.purgeIfUnpinned
  rw [show (w.slot i).story = some st from own]
  dsimp only
  split
  · rename_i due
    exact purged agree wait own due.2
  · rename_i notDue
    refine ⟨agree, fun j x hx spiked => ?_⟩
    by_cases other : j = i
    · subst other
      rw [own] at hx
      cases hx
      exact not_unpinned fun unpinned => notDue ⟨spiked, unpinned⟩
    · exact wait j x other hx spiked

/-! ### Pins taken and released (R31) -/

theorem modifyVersions_eq {s : Switch} {k : Handle} {st : Story} (found : s.story k = some st) (n : Nat) (f : Version → Version) :
    s.modifyVersions k (changeVersion n f) = { s with slots := changedSlots s.slots k st n f } := by
  unfold Switch.modifyVersions
  rw [found]
  rfl

/-- Slots in which one story's versions have changed, no pin of a pending purge's story lost. -/
theorem purgesWait_changed {slots : Bank 1024 Slot} (wait : PurgesWait slots) {k : Handle} {st : Story}
    {n : Nat} {f : Version → Version}
    (pinned : st.status = .spiked true → ∃ v ∈ changeVersion n f st.versions, v.pins ≠ 0) : PurgesWait (changedSlots slots k st n f) := by
  intro j x hx spiked
  obtain ⟨-, ⟨rfl, rfl⟩ | ⟨-, old⟩⟩ := story_changedSlots hx
  · exact pinned spiked
  · exact wait j x old spiked

/-- A pin is taken on a version that is not marked. -/
theorem pin (ok : s.PinsOn more) {k : Handle} {st : Story} {v : Version} (found : s.story k = some st) (hv : v ∈ st.versions)
    (unmarked : v.retiring = false) : (s.pin k v.number).PinsOn ((k, v.number) ::ₘ more) := by
  have own := (story_eq_some.1 found).2
  have alone : ∀ w ∈ st.versions, w.number = v.number → w = v := fun w hw number =>
    List.inj_on_of_nodup_map (ok.agree.numbers _ st own) hw hv number
  have add (x : Handle × Nat) : ((k, v.number) ::ₘ more).count x = more.count x + if x = (k, v.number) then 1 else 0 := Multiset.count_cons _ _ _
  unfold Switch.pin
  rw [modifyVersions_eq found]
  refine ⟨ok.agree.change found ⟨fun _ => rfl, fun w _ _ was => ?_, fun x ne => ?_, fun w hw number _ marked => ?_,
    fun w _ _ unmarked => unmarked, fun _ => ⟨v, hv, rfl⟩⟩ (fun p u m hu hm => ?_) ok.agree.apart, ?_⟩
  · rw [add, if_pos rfl, ← was]
  · rw [add, if_neg ne, Nat.add_zero]
  · rw [alone w hw number] at marked
    rw [show (v.retiring = true) from marked] at unmarked
    cases unmarked
  · by_cases same : u.handle = k ∧ m = v.number
    · obtain ⟨rfl, rfl⟩ := same
      obtain ⟨st', w, found', hw, number, retiring⟩ := ok.agree.victims p u _ hu hm
      rw [show storyIn s.slots u.handle = some st from found] at found'
      cases found'
      exact .inl ⟨rfl, rfl, w, hw, number, retiring⟩
    · exact .inr ⟨Decidable.not_and_iff_not_or_not.1 same, u, hu, rfl, hm⟩
  · refine purgesWait_changed ok.wait fun spiked => ?_
    obtain ⟨w, hw, pinned⟩ := ok.wait _ st own spiked
    refine ⟨_, mem_changeVersion.2 ⟨w, hw, rfl⟩, ?_⟩
    split
    · exact Nat.succ_ne_zero _
    · exact pinned

/-- A pin that is held is released; a pending purge completes with its story's last (R19). -/
theorem unpin {k : Handle} {n : Nat} (ok : s.PinsOn ((k, n) ::ₘ more)) : (s.unpin k n).PinsOn more := by
  obtain ⟨st, v, found, hv, number⟩ := ok.agree.held (k, n) (Multiset.mem_cons_self _ _)
  have found : s.story k = some st := found
  have own := (story_eq_some.1 found).2
  have add (x : Handle × Nat) : ((k, n) ::ₘ more).count x = more.count x + if x = (k, n) then 1 else 0 := Multiset.count_cons _ _ _
  unfold Switch.unpin
  rw [found]
  dsimp only
  rw [modifyVersions_eq found]
  have agree : HoldsAgree (changedSlots s.slots k st n fun v => { v with pins := v.pins - 1 }) s.uploads more := by
    refine ok.agree.change found ⟨fun _ => rfl, fun w _ _ was => ?_, fun x ne => ?_, fun w _ _ zero marked => ?_,
      fun w _ _ unmarked => unmarked, fun _ => ⟨v, hv, number⟩⟩ (fun p u m hu hm => ?_) ok.agree.apart
    · rw [add, if_pos rfl] at was
      dsimp only
      omega
    · rw [add, if_neg ne, Nat.add_zero]
    · dsimp only
      rw [zero marked]
    · by_cases same : u.handle = k ∧ m = n
      · obtain ⟨rfl, rfl⟩ := same
        obtain ⟨st', w, found', hw, number, retiring⟩ := ok.agree.victims p u _ hu hm
        rw [show storyIn s.slots u.handle = some st from found] at found'
        cases found'
        exact .inl ⟨rfl, rfl, w, hw, number, retiring⟩
      · exact .inr ⟨Decidable.not_and_iff_not_or_not.1 same, u, hu, rfl, hm⟩
  have slot : ((changedSlots s.slots k st n fun v => { v with pins := v.pins - 1 }).get k.slot).story =
      some { st with versions := changeVersion n (fun v => { v with pins := v.pins - 1 }) st.versions } := by
    unfold changedSlots
    rw [Bank.get_set_same]
  have others (j : SlotId) (x : Story) (ne : j ≠ k.slot)
      (hx : ((changedSlots s.slots k st n fun v => { v with pins := v.pins - 1 }).get j).story = some x) (spiked : x.status = .spiked true) :
      ∃ v ∈ x.versions, v.pins ≠ 0 := by
    obtain ⟨-, ⟨slot, -⟩ | ⟨-, old⟩⟩ := story_changedSlots hx
    · exact absurd slot ne
    · exact ok.wait j x old spiked
  exact purgedIfUnpinned agree others slot

theorem releasePins (entries : List Entry) : ∀ {s : Switch}, s.PinsOn (heldBy entries + more) → (s.releasePins entries).PinsOn more := by
  induction entries with
  | nil =>
    intro s ok
    rwa [heldBy_nil, zero_add] at ok
  | cons e l ih =>
    intro s ok
    rw [heldBy_cons, add_assoc] at ok
    refine ih (s := match e.version with | none => s | some n => s.unpin e.handle n) ?_
    split
    · rename_i none
      rwa [heldBy_none none, zero_add] at ok
    · rename_i n version
      rw [heldBy_some version, Multiset.singleton_add] at ok
      exact ok.unpin

/-- A snapshot entry captures a story's current version, or none (R123). -/
theorem entryOf_version {pl : Placement} {found : Option Story} {n : Nat} (h : (entryOf pl found).version = some n) :
    ∃ st v, found = some st ∧ st.versions.getLast? = some v ∧ v.number = n ∧ (entryOf pl found).handle = pl.handle := by
  cases found with
  | none => cases h
  | some st =>
    unfold entryOf at h ⊢
    dsimp only at h ⊢
    split at h
    · rename_i v _ current
      exact ⟨st, v, rfl, current, Option.some.inj h, rfl⟩
    · rename_i v _ current
      exact ⟨st, v, rfl, current, Option.some.inj h, rfl⟩
    · rename_i v _ current
      exact ⟨st, v, rfl, current, Option.some.inj h, rfl⟩
    · cases h

/-- A snapshot takes a pin for each version captured, and its entries hold them (R123). -/
theorem snapshot (layout : List Placement) : ∀ {s : Switch} {more : Multiset (Handle × Nat)}, s.PinsOn more →
    (s.snapshot layout).1.PinsOn (heldBy (s.snapshot layout).2 + more) := by
  induction layout with
  | nil =>
    intro s more ok
    rw [show (s.snapshot []).2 = [] from rfl, heldBy_nil, zero_add]
    exact ok
  | cons pl l ih =>
    intro s more ok
    simp only [Switch.snapshot]
    rw [heldBy_cons, add_comm (heldBy [_]), add_assoc]
    refine ih ?_
    split
    · rename_i none
      rwa [heldBy_none none, zero_add]
    · rename_i n version
      obtain ⟨st, v, found, current, rfl, handle⟩ := entryOf_version version
      rw [heldBy_some version, Multiset.singleton_add, handle]
      exact ok.pin found (List.mem_of_getLast? current) (ok.agree.current _ st v (story_eq_some.1 found).2 current)

end PinsOn

namespace PinsWith

variable {s t : Switch} {more : Multiset (Handle × Nat)}

/-- What changes stories and versions alone, with the pins in accord again. -/
theorem of_story (ok : s.PinsWith more) {more' : Multiset (Handle × Nat)} (frame : StoryFrame s t) (on : t.PinsOn (s.holders + more')) :
    t.PinsWith more' := by
  have holders : t.holders = s.holders := by rw [holders, holders, frame.ports, frame.pages]
  exact ⟨by rwa [holders], by rw [frame.ports]; exact ok.result, by rw [frame.pages]; exact ok.jobs⟩

theorem requestPurge (ok : s.PinsWith more) (i : SlotId) : (s.requestPurge i).PinsWith more :=
  ok.of_story (requestPurge_frame s i) (ok.toPinsOn.requestPurge i)

theorem pin (ok : s.PinsWith more) {k : Handle} {st : Story} {v : Version} (found : s.story k = some st) (hv : v ∈ st.versions)
    (unmarked : v.retiring = false) : (s.pin k v.number).PinsWith ((k, v.number) ::ₘ more) := by
  refine ok.of_story (modifyVersions_frame s k _) ?_
  rw [Multiset.add_cons]
  exact ok.toPinsOn.pin found hv unmarked

theorem unpin {k : Handle} {n : Nat} (ok : s.PinsWith ((k, n) ::ₘ more)) : (s.unpin k n).PinsWith more := by
  refine ok.of_story (unpin_frame s k n) (PinsOn.unpin ?_)
  rw [← Multiset.add_cons]
  exact ok.toPinsOn

theorem releasePins {entries : List Entry} (ok : s.PinsWith (heldBy entries + more)) : (s.releasePins entries).PinsWith more := by
  refine ok.of_story (releasePins_frame s entries) (PinsOn.releasePins entries ?_)
  rw [add_left_comm]
  exact ok.toPinsOn

theorem snapshot (ok : s.PinsWith more) (layout : List Placement) :
    (s.snapshot layout).1.PinsWith (heldBy (s.snapshot layout).2 + more) := by
  have on := PinsOn.snapshot layout ok.toPinsOn
  have shape := s.snapshot_fst layout
  have holders : (s.snapshot layout).1.holders = s.holders := by rw [shape]; rfl
  refine ⟨?_, ?_, ?_⟩
  · rw [holders, add_left_comm]
    exact on
  · rw [shape]
    exact ok.result
  · rw [shape]
    exact ok.jobs

end PinsWith

end Switch
end Sys2Proof.Machine
end

section
/-! SUPPORT. The pins through uploads and through the port's events (R9, R24 to R26, R50, R54, R56, R85, R158 to R165). -/

namespace Sys2Proof.Machine

namespace Switch

/-! ### What leaves the pins alone -/

theorem still_endLock {s : Switch} {i : SlotId} {st : Story} (l : Lock) (k : NoticeKind) (own : (s.slots.get i).story = some st) :
    PinFrame s (s.endLock i st l k) :=
  (still_setStory (st' := { st with status := .filed }) own (by rfl) nofun).trans (still_post _ _ _)

theorem still_resumeLease (s : Switch) (k : Handle) : PinFrame s (s.resumeLease k) := by
  unfold resumeLease
  split
  · exact .refl s
  · rename_i st found
    have own := (story_eq_some.1 found).2
    split
    · dsimp only
      split
      · exact still_endLock _ _ own
      · exact still_setStory own (by rfl) (by nofun)
    · exact .refl s

theorem still_releaseLocks (s : Switch) (p : PortId) : PinFrame s (s.releaseLocks p) := by
  refine { PinFrame.refl s with slots := fun i => ?_ }
  rw [show (s.releaseLocks p).slots = s.slots.map (releaseLockOf p) from rfl, Bank.get_map]
  unfold releaseLockOf
  split
  · exact .refl _
  · rename_i st own
    split
    · split
      · exact .of_story own (by rfl) (by rfl) (by rfl) (by nofun)
      · exact .refl _
    · exact .refl _

theorem still_expireOffer (r : Reason) (s : Switch) (i : SlotId) : PinFrame s (expireOffer r s i) := by
  unfold expireOffer
  split
  · exact .refl s
  · rename_i st own
    split
    · exact (still_setStory (st' := { st with status := .filed }) own (by rfl) nofun).trans (still_post _ _ _)
    · exact .refl s

theorem still_expireOffersTo (s : Switch) (p : PortId) : PinFrame s (s.expireOffersTo p) :=
  .foldl (fun s i => still_expireOffer _ s i) _ s

theorem still_orphanSave (s : Switch) (p : PortId) : PinFrame s (s.orphanSave p) := by
  unfold orphanSave
  repeat' split
  all_goals exact .of_same rfl rfl rfl rfl

theorem still_drainUpload (s : Switch) (p : PortId) (k : Handle) : PinFrame s (s.drainUpload p k) := by
  unfold drainUpload
  split
  · exact .refl s
  · rename_i u hu
    split
    · split
      · refine PinFrame.trans (t := s.returnUpload u) (.of_same rfl rfl rfl rfl) (still_setUpload _ _ ?_)
        rintro _ ⟨⟩ -
        exact ⟨u, hu, rfl, rfl⟩
      · exact .refl s
    · exact .refl s

theorem still_pushByte (s : Switch) (u : Upload) (b : Byte) : PinFrame s (pushByte (s, u) b).1 ∧
    (pushByte (s, u) b).2.handle = u.handle ∧ (pushByte (s, u) b).2.victim = u.victim ∧
      (pushByte (s, u) b).1.uploads = s.uploads := by
  unfold pushByte
  dsimp only
  repeat' split
  all_goals exact ⟨.of_same rfl rfl rfl rfl, rfl, rfl, rfl⟩

theorem still_pushText (text : List Byte) : ∀ (s : Switch) (u : Upload), PinFrame s (s.pushText u text).1 ∧
    (s.pushText u text).2.handle = u.handle ∧ (s.pushText u text).2.victim = u.victim ∧
      (s.pushText u text).1.uploads = s.uploads := by
  induction text with
  | nil => exact fun s u => ⟨.refl s, rfl, rfl, rfl⟩
  | cons b text ih =>
    intro s u
    obtain ⟨frame, handle, victim, uploads⟩ := still_pushByte s u b
    obtain ⟨frame', handle', victim', uploads'⟩ := ih (pushByte (s, u) b).1 (pushByte (s, u) b).2
    exact ⟨frame.trans frame', handle'.trans handle, victim'.trans victim, uploads'.trans uploads⟩

theorem still_handText (s : Switch) (u : Upload) (text : List Byte) : PinFrame s (s.handText u text).1 ∧
    (s.handText u text).2.handle = u.handle ∧ (s.handText u text).2.victim = u.victim ∧
      (s.handText u text).1.uploads = s.uploads := by
  unfold handText
  split
  · exact still_pushText text s u
  · exact ⟨.refl s, rfl, rfl, rfl⟩

namespace PinsWith

variable {s t : Switch} {more : Multiset (Handle × Nat)}

/-! ### A port's record or a page's replaced, with what it holds -/

theorem setPort (ok : s.PinsWith more) {p : PortId} {x : Port} {more' : Multiset (Handle × Nat)}
    (held : x.held + more' = (s.ports.get p).held + more) (result : x.stream ≠ none → x.phase = .result) : (s.setPort p x).PinsWith more' := by
  have holders : (s.setPort p x).holders + more' = s.holders + more := by
    have moved := Bank.holds_set Port.held s.ports p x
    simp only [Switch.holders, setPort_fields]
    refine add_right_cancel (b := (s.ports.get p).held) ?_
    calc s.pages.holds Page.held + (s.ports.set p x).holds Port.held + more' + (s.ports.get p).held
        = s.pages.holds Page.held + ((s.ports.set p x).holds Port.held + (s.ports.get p).held) + more' := by abel
      _ = s.pages.holds Page.held + s.ports.holds Port.held + (x.held + more') := by rw [moved]; abel
      _ = s.pages.holds Page.held + s.ports.holds Port.held + more + (s.ports.get p).held := by rw [held]; abel
  refine ⟨⟨by rw [holders]; exact ok.agree, ok.wait⟩, fun q => ?_, ok.jobs⟩
  simp only [setPort_fields, Bank.get_set]
  split
  · exact result
  · exact ok.result q

theorem setPage (ok : s.PinsWith more) {q : PageId} {x : Page} {more' : Multiset (Handle × Nat)}
    (held : x.held + more' = (s.pages.get q).held + more) (job : x.job ≠ none → x.state = .queued ∨ x.state = .sending) :
    (s.setPage q x).PinsWith more' := by
  have holders : (s.setPage q x).holders + more' = s.holders + more := by
    have moved := Bank.holds_set Page.held s.pages q x
    simp only [Switch.holders, setPage_fields]
    refine add_right_cancel (b := (s.pages.get q).held) ?_
    calc (s.pages.set q x).holds Page.held + s.ports.holds Port.held + more' + (s.pages.get q).held
        = (s.pages.set q x).holds Page.held + (s.pages.get q).held + s.ports.holds Port.held + more' := by abel
      _ = s.pages.holds Page.held + s.ports.holds Port.held + (x.held + more') := by rw [moved]; abel
      _ = s.pages.holds Page.held + s.ports.holds Port.held + more + (s.pages.get q).held := by rw [held]; abel
  refine ⟨⟨by rw [holders]; exact ok.agree, ok.wait⟩, ok.result, fun k => ?_⟩
  simp only [setPage_fields, Bank.get_set]
  split
  · exact job
  · exact ok.jobs k

theorem stream_none (ok : s.PinsWith more) {p : PortId} (phase : (s.ports.get p).phase ≠ .result) : (s.ports.get p).stream = none := by
  by_contra stream
  exact phase (ok.result p stream)

/-- A port with no stream may go to any phase. -/
theorem setPort_of_phase (ok : s.PinsWith more) {p : PortId} {x : Port} (phase : (s.ports.get p).phase ≠ .result) (none : x.stream = none) :
    (s.setPort p x).PinsWith more :=
  ok.setPort (by rw [Port.held_of_none none, Port.held_of_none (ok.stream_none phase)]) fun stream => absurd none stream

/-- The end of a stream gives up its hold, if it has one (R36, R159). -/
theorem endStream (ok : s.PinsWith more) (p : PortId) : (s.endStream p).PinsWith more := by
  have idle : (s.toIdle p).PinsWith ((s.ports.get p).held + more) := ok.setPort (zero_add _) fun stream => absurd rfl stream
  unfold Switch.endStream
  dsimp only
  split
  · rename_i k n sent stream
    rw [Port.held_of_read (x := s.ports.get p) stream, Multiset.singleton_add] at idle
    exact idle.unpin
  all_goals
    rename_i stream
    have none : (s.ports.get p).held = 0 := by
      unfold Port.held
      rw [show (s.ports.get p).stream = _ from stream]
    rwa [none, zero_add] at idle

/-! ### An upload that ends without a version (R9, R26, R50) -/

theorem failUpload (ok : s.PinsWith more) (p : PortId) : (s.failUpload p).PinsWith more := by
  unfold Switch.failUpload
  split
  · exact ok
  · rename_i u hu
    have hu : s.uploads.get p = some u := hu
    dsimp only
    have returned : PinFrame s (if u.mode = .filling then s.returnUpload u else s) := by
      split <;> exact .of_same rfl rfl rfl rfl
    have uploads : (if u.mode = .filling then s.returnUpload u else s).uploads = s.uploads := by
      split <;> rfl
    have ok' := ok.frame returned
    generalize (if u.mode = .filling then s.returnUpload u else s) = w at ok' uploads
    rw [← uploads] at hu
    cases victim : u.victim with
    | none =>
      rw [clearMark_slots victim]
      exact ok'.frame (still_setUpload _ _ nofun)
    | some n =>
      obtain ⟨st, v, found, hv, number, retiring⟩ := ok'.agree.victims p u n hu victim
      unfold clearMark
      rw [victim]
      dsimp only
      rw [PinsOn.modifyVersions_eq found]
      refine ok'.withSlots (ok'.agree.change found ⟨fun _ => rfl, fun w _ _ was => was, fun x _ => rfl, fun _ _ _ _ => nofun,
        fun _ _ _ _ => rfl, fun _ => ⟨v, hv, number⟩⟩ (fun q y m hy hm => ?_) fun q q' y y' hy hy' => ?_) ?_ rfl rfl
      · have hy : (w.uploads.set p none).get q = some y := hy
        rw [Bank.get_set] at hy
        split at hy
        · cases hy
        · rename_i ne
          refine .inr ⟨Decidable.not_and_iff_not_or_not.1 fun same => ne ?_, y, hy, rfl, hm⟩
          exact ok'.agree.apart p q u y hu hy same.1.symm (by rw [victim]; nofun) (by rw [victim, hm, same.2])
      · have hy : (w.uploads.set p none).get q = some y := hy
        have hy' : (w.uploads.set p none).get q' = some y' := hy'
        rw [Bank.get_set] at hy hy'
        split at hy
        · cases hy
        · split at hy'
          · cases hy'
          · exact ok'.agree.apart q q' y y' hy hy'
      · refine PinsOn.purgesWait_changed ok'.wait fun spiked => ?_
        obtain ⟨x, hx, pinned⟩ := ok'.wait _ st (storyIn_eq_some.1 found).2 spiked
        refine ⟨_, mem_changeVersion.2 ⟨x, hx, rfl⟩, ?_⟩
        split <;> exact pinned

/-- A story with no version goes (R9). -/
theorem dropFile (ok : s.PinsWith more) {k : Handle} (empty : ∀ st, s.story k = some st → st.versions = []) : (s.dropFile k).PinsWith more := by
  unfold Switch.dropFile
  split
  · exact ok
  · rename_i st found
    have none := empty st found
    obtain ⟨gen, own⟩ := story_eq_some.1 found
    refine ok.withSlots (ok.agree.vacate own (fun v hv => ?_) (by rfl) (.refl _) fun p u hu victim handle => ?_) (fun j x hx spiked => ?_) rfl rfl
    · rw [none] at hv
      cases hv
    · obtain ⟨n, hn⟩ := Option.ne_none_iff_exists'.1 victim
      obtain ⟨st', v, found', hv, -⟩ := ok.agree.victims p u n hu hn
      rw [handle] at found'
      rw [(storyIn_eq_some.1 found').2] at own
      cases own
      rw [none] at hv
      cases hv
    · simp only [vacate, setSlot_fields, Bank.get_set] at hx
      split at hx
      · cases hx
      · exact ok.wait j x hx spiked

theorem settleFailure (ok : s.PinsWith more) (store : s.StoreInOrder) {p : PortId} {u : Upload} (hu : s.uploads.get p = some u) :
    ((s.failUpload p).settleFailure u).PinsWith more := by
  have failed := ok.failUpload p
  unfold Switch.settleFailure
  split
  · rename_i file
    refine failed.dropFile fun st found => ?_
    rw [story_eq_storyIn, failUpload_slots hu ((store.records.counted p u hu).file file).2] at found
    obtain ⟨st', found', filing⟩ := (store.records.stories p u hu).file file
    rw [found'] at found
    cases found
    exact (store.records.listed _ st (storyIn_eq_some.1 found').2).2.2 filing
  · exact failed.frame (still_resumeLease _ _)
  · exact failed

theorem abandonUpload (ok : s.PinsWith more) (store : s.StoreInOrder) (p : PortId) : (s.abandonUpload p).PinsWith more := by
  unfold Switch.abandonUpload
  split
  · exact ok
  · rename_i u hu
    dsimp only
    split
    · rename_i file
      have := ok.settleFailure store hu
      unfold Switch.settleFailure at this
      rwa [file] at this
    · exact ok.failUpload p

/-! ### An upload that completes (R25, R48) -/

theorem complete (ok : s.PinsWith more) {p : PortId} {u : Upload} {st st' : Story} (hu : s.uploads.get p = some u)
    (found : s.story u.handle = some st) (order : versionsInOrder st.versions)
    (versions : st'.versions = keptVersions u st ++ [s.madeVersion u st]) (status : st'.status ≠ .spiked true) :
    ((s.makeVersion p u st).1.setStory u.handle.slot st').PinsWith more := by
  obtain ⟨released, e⟩ := s.makeVersion_eq p u st
  rw [e]
  refine ok.withSlots (ok.agree.make hu found (by rfl) (by rfl) (newNumber_fresh (kept := keptVersions u st) order List.filter_sublist).2 versions) (fun j x hx spiked => ?_) rfl rfl
  simp only [setStory_fields, Bank.get_set] at hx
  split at hx
  · cases hx
    exact absurd spiked status
  · exact ok.wait j x hx spiked

theorem completeFile (ok : s.PinsWith more) {h : Head} {u : Upload} (order : ∀ st, s.story u.handle = some st → versionsInOrder st.versions)
    (hu : s.uploads.get h.port = some u) : (s.completeFile h u).PinsWith more := by
  unfold Switch.completeFile
  split
  · exact ok
  · rename_i st found
    obtain ⟨released, e⟩ := s.makeVersion_eq h.port u st
    have completed := ok.complete hu found (order st found)
      (st' := { (s.makeVersion h.port u st).2.1 with status := .filed }) (by rw [e]) nofun
    dsimp only
    exact (completed.post _ _).answer _ _ _

theorem postChanged (ok : s.PinsWith more) (a : Handle) (st : Story) (r : Reason) (n : Nat) : (s.postChanged a st r n).PinsWith more :=
  ok.frame (.of_same rfl rfl rfl rfl)

theorem completeCheckin (ok : s.PinsWith more) {h : Head} {u : Upload} {keep : Bool} (order : ∀ st, s.story u.handle = some st → versionsInOrder st.versions)
    (hu : s.uploads.get h.port = some u) : (s.completeCheckin h u keep).PinsWith more := by
  unfold Switch.completeCheckin
  split
  · exact ok
  · rename_i st found
    obtain ⟨released, e⟩ := s.makeVersion_eq h.port u st
    dsimp only
    have completed (x : Status) (hx : x ≠ .spiked true) := ok.complete hu found (order st found)
      (st' := { (s.makeVersion h.port u st).2.1 with status := x }) (by rw [e]) hx
    split
    · exact ((completed _ (by split <;> nofun)).postChanged _ _ _ _).answer _ _ _
    · rw [e]
      exact (ok.frame (s.still_setUpload h.port (x := none) nofun)).frame (.of_same rfl rfl rfl rfl)

/-! ### Detach, port reset and counted faults (R161, R162, R165) -/

theorem abandonCommand (ok : s.PinsWith more) (store : s.StoreInOrder) (p : PortId) : (s.abandonCommand p).PinsWith more :=
  ((ok.abandonUpload store p).frame (still_orphanSave _ p)).endStream p

theorem detach (ok : s.PinsWith more) (store : s.StoreInOrder) (p : PortId) : (s.detach p).PinsWith more := by
  have gone : PinFrame s (s.setPort p { s.port p with standing := .detached, quietStart := s.wall }) :=
    s.still_setPort p (Port.keepsPins_of_same (by rfl) (by rfl))
  have store' : (s.setPort p { s.port p with standing := .detached, quietStart := s.wall }).StoreInOrder := store.frame (setPort_storeFrame _ _ rfl)
  have emptied := ((ok.frame gone).abandonCommand store' p).frame
    ((still_releaseLocks _ p).trans (.of_same (t := ((Switch.releaseLocks _ p).dropWatches fun w => w.port == p).emptyInbox p) rfl rfl rfl rfl))
  exact (emptied.frame (still_expireOffersTo _ p)).post _ _

theorem clearPort (ok : s.PinsWith more) (store : s.StoreInOrder) (p : PortId) : (clearPort p s).PinsWith more := by
  have raised : PinFrame s (s.setPort p { s.port p with resetLine := true }) := s.still_setPort p (Port.keepsPins_of_same (by rfl) (by rfl))
  have store' : (s.setPort p { s.port p with resetLine := true }).StoreInOrder := store.frame (setPort_storeFrame _ _ rfl)
  exact ((ok.frame raised).abandonCommand store' p).frame ((still_releaseLocks _ p).trans (.of_same rfl rfl rfl rfl))

theorem countFault (ok : s.PinsWith more) (store : s.StoreInOrder) (p : PortId) {k : Switch → Switch} (did : (k s).PinsWith more) :
    (s.countFault p k).PinsWith more := by
  unfold Switch.countFault
  split
  · exact ok.detach store p
  · exact did.frame (still_setPort _ p (Port.keepsPins_of_same (by rfl) (by rfl)))

/-! ### The data phase (R158) -/

theorem failDataPhase (ok : s.PinsWith more) (store : s.StoreInOrder) (p : PortId) (code : Code) : (failDataPhase p code s).PinsWith more := by
  unfold Switch.failDataPhase
  split
  · exact ok
  · rename_i u hu
    have phase := store.phases.command p (by rw [show s.uploads.get p = some u from hu]; nofun)
    have ports : ((s.failUpload p).settleFailure u).ports = s.ports := (settleFailure_frame _ u).ports.trans (failUpload_ports s p)
    exact ((ok.settleFailure store hu).setPort_of_phase (by rw [ports, phase]; nofun) (by rfl)).refuse _ _

theorem toIdle_of_command (ok : t.PinsWith more) {p : PortId} (phase : (t.ports.get p).phase = .command) : (t.toIdle p).PinsWith more :=
  ok.setPort_of_phase (by rw [phase]; nofun) (by rfl)

theorem completeFile_phase (s : Switch) (h : Head) (u : Upload) (p : PortId) :
    ((s.completeFile h u).ports.get p).phase = (s.ports.get p).phase := by
  unfold Switch.completeFile
  split
  · rfl
  · rename_i st _
    obtain ⟨released, e⟩ := s.makeVersion_eq h.port u st
    dsimp only
    refine ((answer_storeFrame _ _ _ _).phase p).trans ?_
    rw [e]
    rfl

theorem completeCheckin_phase (s : Switch) (h : Head) (u : Upload) (keep : Bool) (p : PortId) :
    ((s.completeCheckin h u keep).ports.get p).phase = (s.ports.get p).phase := by
  unfold Switch.completeCheckin
  split
  · rfl
  · rename_i st _
    obtain ⟨released, e⟩ := s.makeVersion_eq h.port u st
    dsimp only
    split
    · refine ((answer_storeFrame _ _ _ _).phase p).trans ?_
      rw [e]
      rfl
    · rw [e]

theorem endUpload (ok : s.PinsWith more) (store : s.StoreInOrder) {p : PortId} {u : Upload} (hu : s.uploads.get p = some u) :
    (s.endUpload p u).PinsWith more := by
  have phase := store.phases.command p (by rw [hu]; nofun)
  have order (st : Story) (found : s.story u.handle = some st) := (store.records.listed _ st (story_eq_some.1 found).2).1
  unfold Switch.endUpload
  dsimp only
  split
  · exact ((ok.failUpload p).toIdle_of_command (by rw [failUpload_ports, phase])).refuse _ _
  · exact (ok.completeFile (h := s.runningHead p) order hu).toIdle_of_command (by rw [completeFile_phase, phase])
  · exact (ok.completeCheckin (h := s.runningHead p) order hu).toIdle_of_command (by rw [completeCheckin_phase, phase])

theorem takeText (ok : s.PinsWith more) (store : s.StoreInOrder) {p : PortId} {u : Upload} (hu : s.uploads.get p = some u) {text : List Byte}
    (owed : u.taken + text.length ≤ u.declared) : (s.takeText p u text).PinsWith more := by
  obtain ⟨frame, handle, victim, same⟩ := still_handText s u text
  have handed := store.handText hu owed
  have same : (s.handText u text).1.uploads.get p = some u := by rw [same, hu]
  unfold Switch.takeText
  generalize s.handText u text = r at frame handed same handle victim
  obtain ⟨w, v⟩ := r
  dsimp only at frame handed same handle victim ⊢
  have kept : PinFrame w (w.setUpload p (some v)) := w.still_setUpload p (by rintro _ ⟨⟩ -; exact ⟨u, same, handle, victim⟩)
  have taken := ((ok.frame frame).frame kept).frame (still_setPort _ p (x := { (w.setUpload p (some v)).port p with
    dataStart := (w.setUpload p (some v)).wall }) (Port.keepsPins_of_same (by rfl) (by rfl)))
  split
  · exact taken.endUpload (handed.frame (setPort_storeFrame _ p rfl)) (Bank.get_set_same _ _ _)
  · exact taken

theorem dataFrame (ok : s.PinsWith more) (store : s.StoreInOrder) (p : PortId) (tag : Byte) (text : List Byte) :
    (dataFrame p tag text s).PinsWith more := by
  unfold Switch.dataFrame
  dsimp only
  split
  · split
    · exact ok
    · rename_i u hu
      split
      · exact ok.countFault store p (ok.failDataPhase store p _)
      · rename_i owed
        exact ok.takeText store hu (by omega)
  · exact ok

theorem lapseDataWindow (ok : s.PinsWith more) (store : s.StoreInOrder) (p : PortId) : (lapseDataWindow p s).PinsWith more := by
  unfold Switch.lapseDataWindow
  split
  · exact ok.countFault store p (ok.failDataPhase store p _)
  · exact ok

/-! ### The result phase (R159) -/

/-- A stream in RESULT goes on to another stream that holds the same. -/
theorem setStream (ok : s.PinsWith more) {p : PortId} {x : Stream} (phase : (s.ports.get p).phase = .result)
    (held : ({ s.ports.get p with stream := some x } : Port).held = (s.ports.get p).held) : (s.setStream p x).PinsWith more :=
  ok.setPort (congrArg (· + more) held) fun _ => phase

theorem sendNext (ok : s.PinsWith more) (p : PortId) : (sendNext p s).PinsWith more := by
  unfold Switch.sendNext
  dsimp only
  split
  · rename_i due
    have phase : (s.ports.get p).phase = .result := due.1
    have sent (payload : List Byte) : (s.sendResultData p payload).PinsWith more := ok.frame (.of_same rfl rfl rfl rfl)
    split
    · exact ok.endStream p
    · rename_i k n count stream
      unfold sendText
      split
      · exact ok.endStream p
      · dsimp only
        split
        · exact (sent _).endStream p
        · exact (sent _).setStream phase (Port.held_of_read (n := n) (by rfl) |>.trans (Port.held_of_read stream).symm)
    · rename_i owed stream
      have none : (s.ports.get p).held = 0 := by
        unfold Port.held
        rw [show (s.ports.get p).stream = _ from stream]
      unfold sendNotice
      dsimp only
      split
      · exact ok.endStream p
      · have taken (payload : List Byte) (box : Inbox) : ((s.sendResultData p payload).setInbox p box).PinsWith more :=
          (sent payload).frame (.of_same rfl rfl rfl rfl)
        split
        · exact (taken _ _).endStream p
        · exact (taken _ _).setStream phase none.symm
    · rename_i frames stream
      have none : (s.ports.get p).held = 0 := by
        unfold Port.held
        rw [show (s.ports.get p).stream = _ from stream]
      unfold sendReport
      split
      · exact ok.endStream p
      · dsimp only
        split
        · exact (sent _).endStream p
        · exact (sent _).setStream phase none.symm
  · exact ok

theorem lapseResultWindow (ok : s.PinsWith more) (store : s.StoreInOrder) (p : PortId) : (lapseResultWindow p s).PinsWith more := by
  unfold Switch.lapseResultWindow
  split
  · exact ok.countFault store p (ok.endStream p)
  · exact ok

theorem faultyFrame (ok : s.PinsWith more) (store : s.StoreInOrder) (p : PortId) : (faultyFrame p s).PinsWith more := by
  unfold Switch.faultyFrame
  dsimp only
  split
  · exact ok
  · split
    · exact ok.frame (s.still_setPort p (Port.keepsPins_of_same (by rfl) (by rfl)))
    · exact ok.countFault store p (ok.frame (.of_same rfl rfl rfl rfl))

end PinsWith

end Switch
end Sys2Proof.Machine
end

section
/-! SUPPORT. The pins through the commands of the directory, of custody, of passing and of the notice unit (spec/01 to spec/05). -/

namespace Sys2Proof.Machine

/-- Slots in which a version has been marked, and the record of the upload whose victim it is (R46). -/
theorem HoldsAgree.mark {slots : Bank 1024 Slot} {uploads : Bank 6 (Option Upload)} {holders : Multiset (Handle × Nat)}
    (ok : HoldsAgree slots uploads holders) {k : Handle} {st : Story} {v : Version} (found : storyIn slots k = some st) (hv : v ∈ st.versions)
    (free : v.pins = 0) (unmarked : v.retiring = false) (notLast : ∀ w, st.versions.getLast? = some w → w.number ≠ v.number) {p : PortId}
    (closed : uploads.get p = none) {u : Upload} (handle : u.handle = k) (victim : u.victim = some v.number) :
    HoldsAgree (changedSlots slots k st v.number fun x => { x with retiring := true }) (uploads.set p (some u)) holders := by
  have own := (storyIn_eq_some.1 found).2
  have alone : ∀ w ∈ st.versions, w.number = v.number → w = v := fun w hw number => List.inj_on_of_nodup_map (ok.numbers _ st own) hw hv number
  have others {q : PortId} {y : Upload} (hy : (uploads.set p (some u)).get q = some y) : q = p ∧ y = u ∨ uploads.get q = some y := by
    rw [Bank.get_set] at hy
    split at hy
    · rename_i e
      cases hy
      exact .inl ⟨e.symm, rfl⟩
    · exact .inr hy
  have notNamed {q : PortId} {y : Upload} (hy : uploads.get q = some y) (same : y.handle = k) : y.victim ≠ some v.number := by
    intro named
    obtain ⟨st', w, found', hw, number, retiring⟩ := ok.victims q y _ hy named
    rw [same, found] at found'
    cases found'
    rw [alone w hw number, unmarked] at retiring
    cases retiring
  refine ok.change found ⟨fun _ => rfl, fun w _ _ was => was, fun x _ => rfl, fun w hw number _ _ => ?_, fun w last number _ => ?_,
    fun _ => ⟨v, hv, rfl⟩⟩ (fun q y m hy hm => ?_) fun q q' y y' hy hy' same some_ victims => ?_
  · rw [alone w hw number]
    exact free
  · exact absurd number (notLast w last)
  · rcases others hy with ⟨-, rfl⟩ | old
    · rw [victim] at hm
      exact .inl ⟨handle, (Option.some.inj hm).symm, v, hv, rfl, rfl⟩
    · refine .inr ⟨Decidable.not_and_iff_not_or_not.1 fun same => notNamed old same.1 (same.2 ▸ hm), y, old, rfl, hm⟩
  · rcases others hy with ⟨rfl, rfl⟩ | old <;> rcases others hy' with ⟨rfl, rfl⟩ | old'
    · rfl
    · exact absurd (victims.symm.trans victim) (notNamed old' (same.symm.trans handle))
    · exact absurd (victims.trans victim) (notNamed old (same.trans handle))
    · exact ok.apart q q' y y' old old' same some_ victims

namespace Switch

/-- What opening an upload leaves beside its slot and its record. -/
theorem opening_pages (s : Switch) (i : SlotId) (st : Story) (p : PortId) (u : Upload) : (s.opening i st p u).pages = s.pages := by
  obtain ⟨tight, boxes, e⟩ := reserve_eq ((s.setStory i st).setUpload p (some u)) u.remaining
  unfold opening
  rw [e]
  rfl

namespace PinsWith

variable {s t : Switch} {more : Multiset (Handle × Nat)}

theorem taken (ok : s.PinsWith more) {h : Head} {c : Cmd} {a : Option α} {body : α → Switch → Switch}
    (did : ∀ x, a = some x → (s.ports.get h.port).phase = .idle → (body x s).PinsWith more) : (s.takeCommand h c a body).PinsWith more :=
  takeCommand_of (P := fun w => w.PinsWith more) ok (fun _ _ => ok.refuse _ _) fun x hx takes => did x hx takes.2.2.1

theorem onStory (ok : s.PinsWith more) {h : Head} {k : Handle} {f : Story → Switch} (did : ∀ st, s.story k = some st → (f st).PinsWith more) :
    (s.onStory h k f).PinsWith more :=
  onStory_of (P := fun w => w.PinsWith more) (ok.refuse h) did

theorem withRight (ok : s.PinsWith more) {h : Head} {d : DeskId} (did : t.PinsWith more) : (s.withRight h d t).PinsWith more :=
  withRight_of (P := fun w => w.PinsWith more) (ok.refuse h) did

theorem unlessFilingOrSpiked (ok : s.PinsWith more) {h : Head} {st : Story} (did : t.PinsWith more) :
    (s.unlessFilingOrSpiked h st t).PinsWith more :=
  unlessFilingOrSpiked_of (P := fun w => w.PinsWith more) (ok.refuse h) did

theorem asHolder (ok : s.PinsWith more) {h : Head} {screen : ScreenNo} {st : Story} {k : Lock → Switch}
    (did : ∀ l, st.status = .opened l → l.holder = { port := h.port, number := screen } → (k l).PinsWith more) :
    (s.asHolder h screen st k).PinsWith more :=
  asHolder_of (P := fun w => w.PinsWith more) (ok.refuse h) did

theorem onOffer (ok : s.PinsWith more) {h : Head} {st : Story} {d : DeskId} {k : Offer → Switch}
    (did : ∀ o, st.status = .offered o → (k o).PinsWith more) : (s.onOffer h st d k).PinsWith more :=
  onOffer_of (P := fun w => w.PinsWith more) (ok.refuse h) did

theorem servingDesk (ok : s.PinsWith more) {h : Head} {d : DeskId} (did : t.PinsWith more) : (s.servingDesk h d t).PinsWith more :=
  servingDesk_of (P := fun w => w.PinsWith more) (ok.refuse h) did

/-- A stream opens on an IDLE port, and records what it holds. -/
theorem openStream {h : Head} {x : Stream} {held : Multiset (Handle × Nat)} (ok : s.PinsWith (held + more))
    (idle : (s.ports.get h.port).phase = .idle) (c : Cmd) (values : List Byte) (holds : ∀ y : Port, y.stream = some x → y.held = held) :
    (s.openStream h c values x).PinsWith more := by
  have answered := ok.answer h .ok values
  have phase : ((s.answer h .ok values).ports.get h.port).phase ≠ .result := by
    rw [(s.answer_storeFrame h .ok values).phase, idle]
    nofun
  refine answered.setPort ?_ fun _ => rfl
  rw [holds _ rfl, Port.held_of_none (answered.stream_none phase), zero_add]

theorem report (ok : s.PinsWith more) {h : Head} (idle : (s.ports.get h.port).phase = .idle) (c : Cmd) (data : List Byte) :
    (s.report h c data).PinsWith more := by
  rw [← zero_add more] at ok
  refine ok.openStream idle c [] fun y stream => ?_
  unfold Port.held
  rw [stream]

/-! ### The directory (spec/01) -/

theorem openDataPhase (ok : s.PinsWith more) {h : Head} (idle : (s.ports.get h.port).phase = .idle) (c : Cmd) :
    (s.openDataPhase h c).PinsWith more :=
  ok.setPort_of_phase (by rw [idle]; nofun) (ok.stream_none (by rw [idle]; nofun))

/-- An upload has been opened: the slot's versions and the record of the upload agree with the holders. -/
theorem opening (ok : s.PinsWith more) {i : SlotId} {st : Story} {p : PortId} {u : Upload}
    (agree : HoldsAgree (s.slots.set i { s.slots.get i with story := some st }) (s.uploads.set p (some u)) (s.holders + more))
    (status : st.status ≠ .spiked true) : (s.opening i st p u).PinsWith more := by
  obtain ⟨-, -, -, slots, uploads, ports, -⟩ := s.opening_fields i st p u
  refine ok.withSlots (by rwa [slots, uploads]) (fun j x hx spiked => ?_) ports (s.opening_pages i st p u)
  rw [slots, Bank.get_set] at hx
  split at hx
  · cases hx
    exact absurd spiked status
  · exact ok.wait j x hx spiked

theorem story_opening {s : Switch} {k : Handle} {st : Story} {p : PortId} {u : Upload} (gen : (s.slots.get k.slot).gen = k.gen) :
    (s.opening k.slot st p u).story k = some st := by
  have slots := (s.opening_fields k.slot st p u).2.2.2.1
  refine story_eq_some.2 ?_
  rw [slots, Bank.get_set_same]
  exact ⟨gen, rfl⟩

theorem takeFile (ok : s.PinsWith more) {h : Head} {a : FileParams} {i : SlotId} (idle : (s.ports.get h.port).phase = .idle)
    (vacant : (s.slots.get i).story = none) : (s.takeFile h a i).PinsWith more := by
  have opened := ok.opening (i := i) (st := fileStory a) (p := h.port) (u := fileUpload h a (s.handleAt i))
    (ok.agree.fill vacant rfl rfl (.set _ _ (by rintro _ ⟨⟩ named; exact absurd rfl named))) nofun
  have uploads := (s.opening_fields i (fileStory a) h.port (fileUpload h a (s.handleAt i))).2.2.2.2.1
  have ports := (s.opening_fields i (fileStory a) h.port (fileUpload h a (s.handleAt i))).2.2.2.2.2.1
  unfold Switch.takeFile
  dsimp only
  rw [show ((s.setStory i (fileStory a)).setUpload h.port (some (fileUpload h a (s.handleAt i)))).reserve (blocksFor a.length) =
    s.opening i (fileStory a) h.port (fileUpload h a (s.handleAt i)) from rfl]
  split
  · refine opened.completeFile (fun st found => ?_) (by rw [uploads, Bank.get_set_same])
    have own : (s.opening i (fileStory a) h.port (fileUpload h a (s.handleAt i))).story (fileUpload h a (s.handleAt i)).handle =
      some (fileStory a) := story_opening (k := s.handleAt i) rfl
    rw [own] at found
    cases found
    exact ⟨by simp [fileStory], by simp [fileStory], by simp [fileStory]⟩
  · exact opened.openDataPhase (by rw [ports]; exact idle) .file

theorem fileCommand (ok : s.PinsWith more) {h : Head} (idle : (s.ports.get h.port).phase = .idle) (a : FileParams) :
    (fileCommand h a s).PinsWith more := by
  unfold Switch.fileCommand
  split
  · exact ok.refuse _ _
  · refine ok.withRight ?_
    split
    · exact ok.refuse _ _
    · split
      · exact ok.refuse _ _
      · rename_i i vacant
        split
        · exact ok.refuse _ _
        · split
          · exact ok.refuse _ _
          · exact ok.takeFile idle (Option.isNone_iff_eq_none.1 ((Bank.head?_indices_eq_some _ _ _).1 vacant).1)

theorem findCommand (ok : s.PinsWith more) (h : Head) (slug : List Byte) : (findCommand h slug s).PinsWith more := by
  unfold Switch.findCommand
  split
  · exact ok.refuse _ _
  · exact ok.answer _ _ _

/-- A story's fields that no pin reads, by its handle. -/
theorem setStory (ok : s.PinsWith more) {k : Handle} {st st' : Story} (found : s.story k = some st) (versions : st'.versions = st.versions)
    (pending : st'.status = .spiked true → st.status = .spiked true) : (s.setStory k.slot st').PinsWith more :=
  ok.frame (still_setStory (story_eq_some.1 found).2 versions pending)

theorem reclassifyCommand (ok : s.PinsWith more) (h : Head) (a : ReclassifyParams) : (reclassifyCommand h a s).PinsWith more := by
  refine ok.onStory fun st found => ok.withRight (ok.unlessFilingOrSpiked ?_)
  have changed (st' : Story) (versions : st'.versions = st.versions) (status : st'.status = st.status) :
      (s.setStory a.handle.slot st').PinsWith more := ok.setStory found versions fun spiked => status ▸ spiked
  dsimp only
  refine PinsWith.answer (PinsWith.postChanged ?_ _ _ _ _) _ _ _
  split
  · exact (changed _ (by rfl) (by rfl)).post _ _
  · exact changed _ (by rfl) (by rfl)

theorem routeCommand (ok : s.PinsWith more) (h : Head) (a : Handle × List DeskId) : (routeCommand h a s).PinsWith more :=
  ok.onStory fun _ found => ok.withRight (ok.unlessFilingOrSpiked
    ((ok.setStory found (by rfl) (by exact id)).answer _ _ _))

theorem spikeCommand (ok : s.PinsWith more) (h : Head) (a : Handle) : (spikeCommand h a s).PinsWith more := by
  refine ok.onStory fun st found => ok.withRight ?_
  have spiked : (s.setStory a.slot { st with status := .spiked false }).PinsWith more := ok.setStory found (by rfl) (by nofun)
  dsimp only
  split
  · exact (spiked.postChanged _ _ _ _).answer _ _ _
  · exact ok.answer _ _ _
  · split
    · exact ((spiked.postChanged _ _ _ _).post _ _).answer _ _ _
    · exact ok.refuse _ _
  all_goals exact ok.refuse _ _

theorem restoreCommand (ok : s.PinsWith more) (h : Head) (a : Handle) : (restoreCommand h a s).PinsWith more := by
  refine ok.onStory fun st found => ok.withRight ?_
  split
  · exact ((ok.setStory found (by rfl) (by nofun)).postChanged _ _ _ _).answer _ _ _
  all_goals exact ok.refuse _ _

theorem purgeCommand (ok : s.PinsWith more) (h : Head) (a : Handle) : (purgeCommand h a s).PinsWith more := by
  refine ok.onStory fun st found => ?_
  split
  · exact (ok.requestPurge _).answer _ _ _
  all_goals exact ok.refuse _ _

theorem mem_of_namedVersion {st : Story} {n : Option Nat} {v : Version} (h : namedVersion st n = some v) : v ∈ st.versions := by
  unfold namedVersion at h
  split at h
  · exact List.mem_of_getLast? h
  · exact List.mem_of_find?_eq_some h

theorem readCommand (ok : s.PinsWith more) {h : Head} (idle : (s.ports.get h.port).phase = .idle) (a : Handle × Option Nat) :
    (readCommand h a s).PinsWith more := by
  refine ok.onStory fun st found => ?_
  dsimp only
  split
  · exact ok.refuse _ _
  · rename_i v named
    have hv : v ∈ st.versions := by
      split at named
      · cases named
      · exact mem_of_namedVersion named
    split
    · exact ok.refuse _ _
    · split
      · exact ok.refuse _ _
      · rename_i unmarked
        split
        · exact ok.answer _ _ _
        · have pinned := ok.pin found hv (by simpa using unmarked)
          rw [← Multiset.singleton_add] at pinned
          refine pinned.openStream ?_ _ _ fun y stream => Port.held_of_read stream
          rw [show (s.pin a.1 v.number).ports = s.ports from (modifyVersions_frame s a.1 _).ports]
          exact idle

/-! ### Custody (spec/03) -/

theorem checkoutCommand (ok : s.PinsWith more) (h : Head) (a : ScreenNo × Handle) : (checkoutCommand h a s).PinsWith more := by
  refine ok.onStory fun st found => ?_
  split
  · exact ok.refuse _ _
  · refine ok.withRight ?_
    dsimp only
    split
    · exact (ok.setStory found (by rfl) (by nofun)).answer _ _ _
    · split
      · exact (ok.setStory found (by rfl) (by nofun)).answer _ _ _
      · exact ok.refuse _ _
    all_goals exact ok.refuse _ _

theorem renewCommand (ok : s.PinsWith more) (h : Head) (a : ScreenNo × Handle) : (renewCommand h a s).PinsWith more :=
  ok.onStory fun _ found => ok.asHolder fun _ _ _ => (ok.setStory found (by rfl) (by nofun)).answer _ _ _

theorem abandonCommandFrame (ok : s.PinsWith more) (h : Head) (a : ScreenNo × Handle) : (abandonCommandFrame h a s).PinsWith more :=
  ok.onStory fun _ found => ok.asHolder fun _ _ _ => (ok.setStory found (by rfl) (by nofun)).answer _ _ _

theorem takeCheckin (ok : s.PinsWith more) {h : Head} (idle : (s.ports.get h.port).phase = .idle) {a : CheckinParams} {st : Story} {l : Lock}
    {victim : Option Version} (closed : s.uploads.get h.port = none) (found : s.story a.handle = some st) (order : versionsInOrder st.versions)
    (held : ∀ v, victim = some v → v ∈ st.versions.dropLast ∧ v.pins = 0 ∧ v.retiring = false) :
    (s.takeCheckin h a st l victim).PinsWith more := by
  obtain ⟨gen, own⟩ := story_eq_some.1 found
  have opened := ok.opening (i := a.handle.slot) (st := StoreInOrder.checkinStory st l victim) (p := h.port) (u := checkinUpload h a victim) ?_ nofun
  · obtain ⟨-, -, -, -, uploads, ports, -⟩ :=
      s.opening_fields a.handle.slot (StoreInOrder.checkinStory st l victim) h.port (checkinUpload h a victim)
    rw [StoreInOrder.takeCheckin_eq]
    split
    · refine opened.completeCheckin (fun st' found' => ?_) (by rw [uploads, Bank.get_set_same])
      rw [show (checkinUpload h a victim).handle = a.handle from rfl, story_opening gen] at found'
      cases found'
      exact (versionsInOrder_congr (StoreInOrder.markedVersions_shape st victim)).2 order
    · exact opened.openDataPhase (by rw [ports]; exact idle) .checkin
  · cases victim with
    | none =>
      refine ok.agree.keep (fun j => ?_) (.set _ _ (by rintro _ ⟨⟩ named; exact absurd rfl named))
      rw [Bank.get_set]
      split
      · rename_i e
        subst e
        exact .of_story own (by rfl) (by rfl) (by rfl)
      · exact (Slot.KeepsPins.refl _).toSameVersions
    | some v =>
      obtain ⟨before, free, unmarked⟩ := held v rfl
      have hv : v ∈ st.versions := List.dropLast_subset _ before
      have notLast (w : Version) (last : st.versions.getLast? = some w) : w.number ≠ v.number := by
        intro number
        have split_ := List.dropLast_append_getLast? w last
        have nodup := order.2.1
        rw [← split_, List.map_append, List.nodup_append] at nodup
        exact nodup.2.2 _ (List.mem_map_of_mem before) _ (List.mem_map_of_mem (List.mem_singleton_self w)) number.symm
      have marked := ok.agree.mark found hv free unmarked notLast closed (u := checkinUpload h a (some v)) rfl rfl
      refine marked.keep (fun j => ?_) (.refl _)
      unfold changedSlots
      rw [Bank.get_set, Bank.get_set]
      split
      · exact .of_story (by rfl) (by rfl) (by rfl) (by rfl)
      · exact (Slot.KeepsPins.refl _).toSameVersions

theorem checkinCommand (ok : s.PinsWith more) (store : s.StoreInOrder) {h : Head} (idle : (s.ports.get h.port).phase = .idle)
    (a : CheckinParams) : (checkinCommand h a s).PinsWith more := by
  refine ok.onStory fun st found => ok.asHolder fun l _ _ => ?_
  have order := (store.records.listed _ st (story_eq_some.1 found).2).1
  have closed := store.closed_of_phase (p := h.port) (by rw [idle]; nofun)
  split
  · exact ok.refuse _ _
  · split
    · exact ok.refuse _ _
    · split
      · split
        · exact ok.refuse _ _
        · rename_i v victim
          refine ok.takeCheckin idle closed found order ?_
          rintro _ ⟨⟩
          have chosen := List.find?_some victim
          simp only [Bool.and_eq_true, beq_iff_eq, Bool.not_eq_true'] at chosen
          exact ⟨List.mem_of_find?_eq_some victim, chosen⟩
      · exact ok.takeCheckin idle closed found order nofun

theorem breakCommand (ok : s.PinsWith more) (h : Head) (a : Handle) : (breakCommand h a s).PinsWith more := by
  refine ok.onStory fun st found => ?_
  split
  · exact ((ok.frame (still_endLock _ _ (story_eq_some.1 found).2)).frame (still_drainUpload _ _ _)).answer _ _ _
  all_goals exact ok.refuse _ _

theorem expireLease (ok : s.PinsWith more) (i : SlotId) : (expireLease i s).PinsWith more := by
  unfold Switch.expireLease
  split
  · exact ok
  · rename_i st own
    split
    · split
      · exact ok.frame (still_endLock _ _ own)
      · exact ok
    · exact ok

/-! ### Passing (spec/04) -/

theorem offerCommand (ok : s.PinsWith more) (h : Head) (a : OfferParams) : (offerCommand h a s).PinsWith more := by
  refine ok.onStory fun st found => ?_
  split
  · exact ok.refuse _ _
  · refine ok.withRight ?_
    split
    · exact ok.refuse _ _
    · split
      · exact ok.refuse _ _
      · split
        · exact ok.refuse _ _
        · split
          · exact ok.refuse _ _
          · exact ((ok.setStory found (by rfl) (by nofun)).post _ _).answer _ _ _

theorem acceptCommand (ok : s.PinsWith more) (h : Head) (a : Handle × DeskId) : (acceptCommand h a s).PinsWith more :=
  ok.onStory fun _ found => ok.servingDesk <| ok.onOffer fun _ _ =>
    ((ok.setStory found (by rfl) (by nofun)).post _ _).answer _ _ _

theorem declineCommand (ok : s.PinsWith more) (h : Head) (a : Handle × DeskId × Byte) : (declineCommand h a s).PinsWith more :=
  ok.onStory fun _ found => ok.servingDesk <| ok.onOffer fun _ _ =>
    ((ok.setStory found (by rfl) (by nofun)).post _ _).answer _ _ _

theorem withdrawCommand (ok : s.PinsWith more) (h : Head) (a : Handle × DeskId) : (withdrawCommand h a s).PinsWith more :=
  ok.onStory fun _ found => ok.withRight <| ok.onOffer fun _ _ =>
    ((ok.setStory found (by rfl) (by nofun)).post _ _).answer _ _ _

theorem lapseOffer (ok : s.PinsWith more) (i : SlotId) : (lapseOffer i s).PinsWith more := by
  unfold Switch.lapseOffer
  split
  · exact ok
  · split
    · split
      · exact ok.frame (still_expireOffer _ s i)
      · exact ok
    · exact ok

/-! ### Notices (spec/05) -/

theorem collectCommand (ok : s.PinsWith more) {h : Head} (idle : (s.ports.get h.port).phase = .idle) (count : Nat) :
    (collectCommand h count s).PinsWith more := by
  have taken (x : Inbox) : (s.setInbox h.port x).PinsWith more := ok.frame (.of_same rfl rfl rfl rfl)
  unfold Switch.collectCommand
  dsimp only
  split
  · exact (taken _).answer _ _ _
  · have moved (x : Inbox) : (s.setInbox h.port x).PinsWith (0 + more) := by
      rw [zero_add]
      exact taken x
    refine (moved _).openStream idle _ _ fun y stream => ?_
    · unfold Port.held
      rw [stream]

theorem watchCommand (ok : s.PinsWith more) (h : Head) (a : ScreenNo × Handle) : (watchCommand h a s).PinsWith more := by
  refine ok.onStory fun _ _ => ?_
  dsimp only
  split
  · exact ok.answer _ _ _
  · split
    · exact ok.refuse _ _
    · exact PinsWith.answer (ok.frame (.of_same (by rfl) (by rfl) (by rfl) (by rfl))) _ _ _

theorem unwatchCommand (ok : s.PinsWith more) (h : Head) (a : ScreenNo × Handle) : (unwatchCommand h a s).PinsWith more :=
  ok.onStory fun _ _ => PinsWith.answer (ok.frame (.of_same (by rfl) (by rfl) (by rfl) (by rfl))) _ _ _

end PinsWith

end Switch
end Sys2Proof.Machine
end

section
/-! SUPPORT. The pins through the release queue, the clock, the page commands and the feed (spec/06 to spec/08). -/

namespace Sys2Proof.Machine

namespace Switch

/-! ### What leaves the pins alone -/

/-- A job changed but for its entries. -/
theorem still_changeJob (s : Switch) (q : PageId) {f : Job → Job} (entries : ∀ j, (f j).entries = j.entries) :
    PinFrame s (s.changeJob q f) := by
  refine s.still_setPage q ⟨?_, ?_⟩
  · unfold Page.held
    change heldBy ((((s.pages.get q).job.map f).map Job.entries).getD []) = _
    rw [Option.map_map, show Job.entries ∘ f = Job.entries from funext entries]
  · change (s.pages.get q).job.map f = none ∨ _
    cases job : (s.pages.get q).job with
    | none => exact .inl rfl
    | some j => exact .inr (.inr ⟨nofun, rfl⟩)

/-- A page's state alone. -/
theorem still_setState (s : Switch) (q : PageId) {state : PageState} (good : state = .queued ∨ state = .sending) :
    PinFrame s (s.setPage q { s.page q with state := state }) := s.still_setPage q ⟨rfl, .inr (.inl good)⟩

theorem still_beginAttempt (s : Switch) (l : LinkId) (q : PageId) : PinFrame s (s.beginAttempt l q) := by
  unfold beginAttempt
  dsimp only
  refine ((s.still_changeJob q fun _ => ?_).trans (still_setState _ q (.inr (by rfl)))).trans (.of_same rfl rfl rfl rfl)
  rfl

theorem still_returnPage (s : Switch) (q : PageId) : PinFrame s (s.returnPage q) := by
  unfold returnPage
  dsimp only
  refine ((s.still_changeJob q fun _ => ?_).trans (still_setState _ q (.inl (by rfl)))).trans (.of_same rfl rfl rfl rfl)
  rfl

theorem still_judgeGroups (s before : Switch) : PinFrame s (s.judgeGroups before) := .of_same rfl rfl rfl rfl

theorem still_setChannel (s : Switch) (c : ChannelId) (x : Channel) : PinFrame s (s.setChannel c x) := .of_same rfl rfl rfl rfl

theorem still_postChannel (s : Switch) (c : ChannelId) (k : NoticeKind) (u : Urgency) (note : Option Byte) :
    PinFrame s (s.postChannel c k u note) := s.still_post _ _

theorem still_setLink (s : Switch) (l : LinkId) (x : Link) : PinFrame s (s.setLink l x) := .of_same rfl rfl rfl rfl

theorem still_failOver (s : Switch) (l : LinkId) (q : Option PageId) : PinFrame s (s.failOver l q) := by
  unfold failOver
  split <;> exact .of_same rfl rfl rfl rfl

theorem still_takeOver (s : Switch) (l : LinkId) : PinFrame s (s.takeOver l) := by
  unfold takeOver
  dsimp only
  split
  · split <;> exact .of_same rfl rfl rfl rfl
  · exact .refl s

theorem still_returnHome (s : Switch) : PinFrame s s.returnHome := by
  unfold returnHome
  dsimp only
  split
  · exact .of_same rfl rfl rfl rfl
  · exact .refl s

theorem still_dropLink (s : Switch) (l : LinkId) : PinFrame s (s.dropLink l) := by
  unfold dropLink
  dsimp only
  split
  · exact (s.still_setLink l _).trans (still_failOver _ _ _)
  · exact s.still_setLink l _

theorem still_engineIdled (s : Switch) (l : LinkId) : PinFrame s (s.engineIdled l) := by
  unfold engineIdled
  dsimp only
  refine PinFrame.trans ?_ (still_returnHome _)
  split
  · split
    · exact (s.still_setLink l _).trans (still_failOver _ _ _)
    · exact s.still_setLink l _
  · exact .refl s

theorem still_emitPresented (s : Switch) (l : LinkId) : PinFrame s (s.emitPresented l) := by
  unfold emitPresented
  split
  · exact .refl s
  · exact .of_same rfl rfl rfl rfl

theorem still_voidAttempt (s : Switch) (q : PageId) (edition : Nat) : PinFrame s (s.voidAttempt q edition) := by
  unfold voidAttempt
  dsimp only
  split
  · exact .of_same rfl rfl rfl rfl
  · exact .refl s

namespace PinsWith

variable {s t : Switch} {more : Multiset (Handle × Nat)}

/-! ### Jobs formed, replaced and ended (R31, R122, R123, R126, R127, R129, R130) -/

theorem releasePage (ok : s.PinsWith more) {q : PageId} (none : (s.pages.get q).job = none) (d : PageDef) (rush : Bool) :
    (s.releasePage q d rush).PinsWith more := by
  have snapped := ok.snapshot (s.page q).layout
  rw [releasePage_eq_releasing]
  have pages : (s.snapshot (s.page q).layout).1.pages = s.pages := by rw [snapshot_fst]
  refine (snapped.setPage (q := q) (x := { s.page q with state := .queued, job := some (s.releaseJob d rush (s.snapshot (s.page q).layout).2) })
    (more' := more) ?_ fun _ => .inl rfl).frame (.of_same rfl ?_ ?_ ?_)
  · rw [pages, Page.held_of_none none, zero_add, Page.held_of_some rfl]
    rfl
  all_goals
    rw [snapshot_fst]
    rfl

theorem again {q : PageId} {x y : Page} (ok : ((s.setPage q x).setPage q y).PinsWith more) : (s.setPage q y).PinsWith more :=
  ok.frame (.of_same (by rfl) (by rfl) (by rfl) (by simp only [setPage_fields, Bank.set_set]))

theorem reRelease (ok : s.PinsWith more) {q : PageId} {old : Job} (held : (s.pages.get q).job = some old) (d : PageDef) :
    (s.reRelease q d old).PinsWith more := by
  have moved : (s.setPage q { s.page q with job := none }).PinsWith (heldBy old.entries + more) := by
    refine ok.setPage ?_ nofun
    rw [Page.held_of_none (by rfl), zero_add, Page.held_of_some held]
  have on : s.PinsOn (heldBy old.entries + ((s.setPage q { s.page q with job := none }).holders + more)) := by
    rw [add_left_comm]
    exact ⟨moved.agree, moved.wait⟩
  have released := on.releasePins old.entries
  have frame := releasePins_frame s old.entries
  have pages := frame.pages
  have ports := frame.ports
  unfold Switch.reRelease
  dsimp only
  generalize s.releasePins old.entries = w at released pages ports
  have snapped := released.snapshot (w.page q).layout
  have shape := w.snapshot_fst (w.page q).layout
  have pages' : (w.snapshot (w.page q).layout).1.pages = s.pages := by rw [shape]; exact pages
  have ports' : (w.snapshot (w.page q).layout).1.ports = s.ports := by rw [shape]; exact ports
  generalize w.snapshot (w.page q).layout = snap at snapped pages' ports'
  obtain ⟨t, entries⟩ := snap
  dsimp only at snapped pages' ports' ⊢
  have waiting : (t.setPage q { s.page q with job := none }).PinsWith (heldBy entries + more) := by
    refine moved.withSlots ?_ snapped.wait ports' (by simp only [setPage_fields, pages'])
    rw [add_left_comm]
    exact snapped.agree
  have state : (t.page q).state = .queued ∨ (t.page q).state = .sending := by
    rw [page_def, pages']
    exact ok.jobs q (by rw [held]; nofun)
  have none : ((t.setPage q { s.page q with job := none }).pages.get q).job = none := by simp only [setPage_fields, Bank.get_set_same]
  refine PinsWith.again (q := q) (PinsWith.setPage waiting (more' := more) (q := q) ?_ fun _ => state)
  rw [Page.held_of_none none, zero_add, Page.held_of_some (by rfl)]

/-- A job's pins go as it ends. -/
theorem endJob (ok : s.PinsWith more) (q : PageId) (x : Page) : (s.endJob q x).PinsWith more := by
  unfold Switch.endJob
  dsimp only
  refine releasePins ?_
  have moved : (s.setPage q { x with job := none }).PinsWith (heldBy (((s.pages.get q).job.map Job.entries).getD []) + more) := by
    refine ok.setPage ?_ fun job => absurd rfl job
    rw [Page.held_of_none (by rfl), zero_add]
    rfl
  exact moved.frame (.of_same rfl rfl rfl rfl)

theorem faultPage (ok : s.PinsWith more) (q : PageId) (r : Reason) : (s.faultPage q r).PinsWith more := (ok.endJob q _).post _ _

theorem completePage (ok : s.PinsWith more) (q : PageId) : (s.completePage q).PinsWith more :=
  ((ok.endJob q _).post _ _).frame (still_judgeGroups _ s)

theorem job_none (ok : s.PinsWith more) {q : PageId} (queued : (s.pages.get q).state ≠ .queued) (sending : (s.pages.get q).state ≠ .sending) :
    (s.pages.get q).job = none := by
  by_contra job
  exact (ok.jobs q job).elim queued sending

/-! ### Automatic releases and the channels (R101, R107 to R110, R113, R114, R131) -/

theorem autoReleasePage (ok : s.PinsWith more) (c : ChannelId) {q : PageId} (none : (s.pages.get q).job = none) :
    (autoReleasePage c s q).PinsWith more := by
  unfold Switch.autoReleasePage
  split
  · exact ok
  · split
    · exact ok.releasePage none _ _
    · exact ok.post _ _

theorem autoRelease (ok : s.PinsWith more) (c : ChannelId) (reference : Nat) : (s.autoRelease c reference).PinsWith more := by
  have free : ∀ q ∈ s.autoSelected c reference, (s.pages.get q).job = none := fun q hq =>
    ok.job_none (by rcases state_of_mem_autoSelected hq with h | h <;> rw [page_def] at h <;> simp [h])
      (by rcases state_of_mem_autoSelected hq with h | h <;> rw [page_def] at h <;> simp [h])
  have nodup := s.autoSelected_nodup c reference
  unfold Switch.autoRelease
  generalize s.autoSelected c reference = l at free nodup
  induction l generalizing s with
  | nil => exact ok
  | cons q l ih =>
    obtain ⟨absent, nodup⟩ := List.nodup_cons.1 nodup
    refine ih (ok.autoReleasePage c (free q List.mem_cons_self)) (fun k hk => ?_) nodup
    rw [autoReleasePage_page_ne c s (ne_of_mem_of_not_mem hk absent)]
    exact free k (List.mem_cons_of_mem _ hk)

theorem setChannel (ok : s.PinsWith more) (c : ChannelId) (x : Channel) : (s.setChannel c x).PinsWith more := ok.frame (still_setChannel s c x)

theorem takeMatch (ok : s.PinsWith more) (c : ChannelId) : (takeMatch c s).PinsWith more := by
  unfold Switch.takeMatch
  dsimp only
  split
  · split
    · exact ok.setChannel _ _
    · split
      · exact PinsWith.autoRelease ((ok.setChannel _ _).frame (still_postChannel _ _ _ _ _)) c _
      · exact (ok.setChannel _ _).frame (still_postChannel _ _ _ _ _)
  · exact ok

theorem matchIfDue (ok : s.PinsWith more) (c : ChannelId) : (matchIfDue c s).PinsWith more := by
  unfold Switch.matchIfDue
  split
  · exact ok.takeMatch c
  · exact ok

theorem setActive (ok : s.PinsWith more) (c : ChannelId) (deadline : Nat) : (s.setActive c deadline).PinsWith more := by
  unfold Switch.setActive
  dsimp only
  split
  · exact ok
  · exact (ok.setChannel _ _).matchIfDue c

theorem turnChannel (ok : s.PinsWith more) (ended : Nat) (c : ChannelId) : (turnChannel ended s c).PinsWith more := by
  unfold Switch.turnChannel
  dsimp only
  split
  · exact (ok.setChannel c _).autoRelease c _
  · exact ok.setChannel c _

/-! ### The clock (spec/06) -/

theorem forgetSent (ok : s.PinsWith more) : s.forgetSent.PinsWith more := by
  refine ok.frame { PinFrame.refl s with pages := fun q => ?_ }
  simp only [Switch.forgetSent, Bank.get_map]
  split
  · rename_i sent
    exact ⟨rfl, .inl (ok.job_none (q := q) (by rw [sent]; nofun) (by rw [sent]; nofun))⟩
  · exact .refl _

theorem turnEdition (ok : s.PinsWith more) : s.turnEdition.PinsWith more := by
  have begun : s.beginTurn.PinsWith more := ok.frame (.of_same rfl rfl rfl rfl)
  rw [turnEdition_eq]
  exact forgetSent (foldl (fun _ h i => h.requestPurge i) _ (foldl (fun _ h c => h.turnChannel _ c) _ begun))

theorem tick (ok : s.PinsWith more) : s.tick.PinsWith more := by
  have raised : s.raiseWall.PinsWith more := ok.frame (.of_same rfl rfl rfl rfl)
  unfold Switch.tick
  split
  · exact raised.turnEdition
  · split
    · exact raised.frame (.of_same rfl rfl rfl rfl)
    · exact raised

theorem turnTick (ok : s.PinsWith more) : s.turnTick.PinsWith more := by
  have raised : s.raiseWall.PinsWith more := ok.frame (.of_same rfl rfl rfl rfl)
  unfold Switch.turnTick
  split
  · exact raised.turnEdition
  · exact ok

theorem clockStartCommand (ok : s.PinsWith more) (h : Head) (a : Unit) : (clockStartCommand h a s).PinsWith more := by
  unfold Switch.clockStartCommand
  split
  · exact ok.answer _ _ _
  · have running : ({ s with clock := { s.clock with running := true } } : Switch).PinsWith more := ok.frame (.of_same rfl rfl rfl rfl)
    exact (foldl (fun _ h c => h.matchIfDue c) _ running).answer _ _ _

theorem clockStopCommand (ok : s.PinsWith more) (h : Head) (a : Unit) : (clockStopCommand h a s).PinsWith more := by
  unfold Switch.clockStopCommand
  split
  · have stopped : ({ s with clock := { s.clock with running := false } } : Switch).PinsWith more := ok.frame (.of_same rfl rfl rfl rfl)
    exact stopped.answer _ _ _
  · exact ok.answer _ _ _

theorem turnCommand (ok : s.PinsWith more) (h : Head) (a : Option Nat) : (turnCommand h a s).PinsWith more := by
  unfold Switch.turnCommand
  split
  · exact ok.turnEdition.answer _ _ _
  · exact ok.refuse _ _

theorem setGroups (ok : s.PinsWith more) (g : Groups) : (s.setGroups g).PinsWith more := ok.frame (.of_same rfl rfl rfl rfl)

theorem editionLengthCommand (ok : s.PinsWith more) (h : Head) (length : Nat) : (editionLengthCommand h length s).PinsWith more := by
  unfold Switch.editionLengthCommand
  dsimp only
  exact (ok.frame (.of_same (by rfl) (by rfl) (by rfl) (by rfl))).answer _ _ _

theorem deadlineCommand (ok : s.PinsWith more) (h : Head) (a : ChannelId × Nat) : (deadlineCommand h a s).PinsWith more := by
  unfold Switch.deadlineCommand
  dsimp only
  refine PinsWith.answer ?_ _ _ _
  split
  · exact (ok.setGroups _).setActive _ _
  · exact ok.setGroups _

theorem channelCommand (ok : s.PinsWith more) (h : Head) (a : ChannelParams) : (channelCommand h a s).PinsWith more := by
  unfold Switch.channelCommand
  dsimp only
  refine PinsWith.answer ?_ _ _ _
  split
  · exact ((ok.setGroups _).setChannel _ _).setActive _ _
  · exact (ok.setGroups _).setChannel _ _

theorem takeWarning (ok : s.PinsWith more) (c : ChannelId) : (takeWarning c s).PinsWith more := by
  unfold Switch.takeWarning
  dsimp only
  split
  · split
    · exact (ok.setChannel _ _).frame (still_postChannel _ _ _ _ _)
    · exact ok.setChannel _ _
  · exact ok

theorem takeLateTick (ok : s.PinsWith more) (c : ChannelId) : (takeLateTick c s).PinsWith more := by
  unfold Switch.takeLateTick
  dsimp only
  split
  · split
    · split
      · exact (ok.setChannel _ _).frame (still_postChannel _ _ _ _ _)
      · exact ok.setChannel _ _
    · exact ok
  · exact ok

/-! ### The page commands (spec/07) -/

theorem onPage (ok : s.PinsWith more) {h : Head} {q : PageId} {k : PageDef → Switch} (did : ∀ d, s.pageDef q = some d → (k d).PinsWith more) :
    (s.onPage h q k).PinsWith more := by
  unfold Switch.onPage
  split
  · exact ok.refuse _ _
  · rename_i d defined
    exact ok.withRight (did d defined)

theorem definePage (ok : s.PinsWith more) (queue : s.QueueInOrder) (h : Head) (q : PageId) (d : PageDef) : (definePage h q d s).PinsWith more := by
  unfold Switch.definePage
  split
  · exact ok.refuse _ _
  · have new : (if (s.pageDef q).isNone then s.setPage q Page.fresh else s).PinsWith more := by
      split
      · rename_i undefined
        have fresh := queue.queue.table.undefined q (Option.isNone_iff_eq_none.1 undefined)
        exact ok.frame (s.still_setPage q (by rw [fresh]; exact .refl _))
      · exact ok
    exact ((new.setGroups _).frame (still_judgeGroups _ s)).answer _ _ _

theorem undefinePage (ok : s.PinsWith more) (h : Head) (q : PageId) : (undefinePage h q s).PinsWith more := by
  unfold Switch.undefinePage
  split
  · exact ok.answer _ _ _
  · split
    · rename_i making
      rw [page_def] at making
      have none := ok.job_none (q := q) (by rw [making]; nofun) (by rw [making]; nofun)
      have cleared : (s.setPage q Page.fresh).PinsWith more :=
        ok.setPage (by rw [Page.held_of_none none, Page.held_of_none (by rfl)]) fun job => absurd rfl job
      exact ((cleared.setGroups _).frame (still_judgeGroups _ s)).answer _ _ _
    · exact ok.refuse _ _

theorem pageCommand (ok : s.PinsWith more) (queue : s.QueueInOrder) (h : Head) (a : PageId × Option PageDef) :
    (pageCommand h a s).PinsWith more := by
  unfold Switch.pageCommand
  split
  · exact ok.definePage queue _ _ _
  · exact ok.undefinePage _ _

theorem layOut (ok : s.PinsWith more) (h : Head) (q : PageId) (layout : List Placement) : (s.layOut h q layout).PinsWith more := by
  have laid : (s.setPage q { s.page q with layout := layout }).PinsWith more := ok.setPage (by rfl) (ok.jobs q)
  exact (laid.frame (still_judgeGroups _ s)).answer _ _ _

theorem placeCommand (ok : s.PinsWith more) (h : Head) (a : PlaceParams) : (placeCommand h a s).PinsWith more := by
  unfold Switch.placeCommand
  dsimp only
  split
  · exact ok.refuse _ _
  · refine ok.onPage fun d _ => ok.onStory fun st _ => ?_
    split
    · exact ok.refuse _ _
    · exact ok.layOut _ _ _

theorem unplaceCommand (ok : s.PinsWith more) (h : Head) (a : PageId × Nat) : (unplaceCommand h a s).PinsWith more := by
  unfold Switch.unplaceCommand
  dsimp only
  split
  · exact ok.refuse _ _
  · exact ok.onPage fun d _ => ok.layOut _ _ _

theorem releaseCommand (ok : s.PinsWith more) (queue : s.QueueInOrder) (h : Head) (a : PageId × Bool) : (releaseCommand h a s).PinsWith more := by
  refine ok.onPage fun d _ => ?_
  dsimp only
  split
  · exact ok.refuse _ _
  · rename_i notSending
    split
    · exact ok.refuse _ _
    · split
      · rename_i old _ held
        exact (ok.reRelease held d).answer _ _ _
      · rename_i notHeld
        unfold releaseNew
        split
        · refine (ok.releasePage (ok.job_none (fun queued => ?_) notSending) d _).answer _ _ _
          obtain ⟨j, hj⟩ := queue.queue.table.job_of_queued ((queue.queue.table.queued a.1).2 queued)
          exact notHeld j queued hj
        · exact ok.refuse _ _

theorem recallCommand (ok : s.PinsWith more) (h : Head) (q : PageId) : (recallCommand h q s).PinsWith more := by
  refine ok.onPage fun d _ => ?_
  dsimp only
  split
  · exact (ok.endJob _ _).answer _ _ _
  · exact ((ok.endJob _ _).frame (still_voidAttempt _ _ _)).answer _ _ _
  all_goals exact ok.refuse _ _

theorem pageStatusCommand (ok : s.PinsWith more) {h : Head} (idle : (s.ports.get h.port).phase = .idle) (a : Option PageId) :
    (pageStatusCommand h a s).PinsWith more := by
  unfold Switch.pageStatusCommand
  split
  · exact ok.report idle _ _
  · dsimp only
    split
    · have used : s.useFree.PinsWith more := ok.frame (.of_same rfl rfl rfl rfl)
      exact used.report idle _ _
    · exact ok.report idle _ _

/-! ### The feed (spec/08) -/

theorem abandonAttempt (ok : s.PinsWith more) (l : LinkId) (q : PageId) : (s.abandonAttempt l q).PinsWith more := by
  have discarded : s.discardWindow.PinsWith more := ok.frame (.of_same rfl rfl rfl rfl)
  unfold Switch.abandonAttempt
  dsimp only
  split
  · exact (discarded.faultPage _ _).frame (still_failOver _ _ _)
  · split
    · have active : (s.discardWindow.activate l.other).PinsWith more := discarded.frame (.of_same rfl rfl rfl rfl)
      exact (active.frame (still_beginAttempt _ _ _)).post _ _
    · exact (discarded.frame (still_returnPage _ _)).post _ _

theorem setLink (ok : s.PinsWith more) (l : LinkId) (x : Link) : (s.setLink l x).PinsWith more := ok.frame (still_setLink s l x)

theorem breakOff (ok : s.PinsWith more) (l : LinkId) (state : LinkState) : (s.breakOff l state).PinsWith more := by
  unfold Switch.breakOff
  dsimp only
  split
  · exact (ok.setLink _ _).abandonAttempt _ _
  · exact (ok.setLink _ _).abandonAttempt _ _
  · exact (ok.setLink _ _).frame (still_failOver _ _ _)

theorem fallReady (ok : s.PinsWith more) (l : LinkId) : (fallReady l s).PinsWith more := by
  have fallen : (s.setLink l { s.link l with ready := false }).PinsWith more := ok.setLink _ _
  unfold Switch.fallReady
  dsimp only
  split
  · exact fallen.setLink _ _
  · split
    · exact fallen.frame (still_dropLink _ _)
    · exact fallen
  all_goals exact fallen

theorem settleLink (ok : s.PinsWith more) (l : LinkId) : (settleLink l s).PinsWith more := by
  unfold Switch.settleLink
  split
  · exact ((ok.setLink _ _).frame (still_takeOver _ _)).frame (still_returnHome _)
  · exact ok

theorem stallLink (ok : s.PinsWith more) (l : LinkId) : (stallLink l s).PinsWith more := by
  unfold Switch.stallLink
  split
  · exact ok.breakOff _ _
  · exact ok

theorem startPage (ok : s.PinsWith more) : s.startPage.PinsWith more := by
  unfold Switch.startPage
  split
  · exact ok
  · split
    · have taken : ({ s with queue := s.queue.tail } : Switch).PinsWith more := ok.frame (.of_same rfl rfl rfl rfl)
      exact taken.frame (still_beginAttempt _ _ _)
    · exact ok.faultPage _ _

theorem takePageByte (ok : s.PinsWith more) (l : LinkId) (length : Nat) : (s.takePageByte l length).PinsWith more := by
  have shown := ok.frame (still_emitPresented s l)
  unfold Switch.takePageByte
  dsimp only
  split <;> exact shown.frame (.of_same (by rfl) (by rfl) (by rfl) (by rfl))

theorem takeVoidByte (ok : s.PinsWith more) (l : LinkId) : (s.takeVoidByte l).PinsWith more := by
  have shown := ok.frame (still_emitPresented s l)
  unfold Switch.takeVoidByte
  dsimp only
  split
  · exact (shown.setLink _ _).frame (still_engineIdled _ _)
  · exact shown.setLink _ _

theorem takeStrobe (ok : s.PinsWith more) (l : LinkId) : (takeStrobe l s).PinsWith more := by
  unfold Switch.takeStrobe
  split
  · exact ok.takePageByte _ _
  · exact ok.takeVoidByte _
  · exact ok

theorem acceptPage (ok : s.PinsWith more) (l : LinkId) : (acceptPage l s).PinsWith more := by
  unfold Switch.acceptPage
  split
  · exact ok
  · exact ((ok.completePage _).setLink _ _).frame (still_engineIdled _ _)

theorem rejectPage (ok : s.PinsWith more) (l : LinkId) : (rejectPage l s).PinsWith more := by
  unfold Switch.rejectPage
  split
  · exact ok
  · split
    · exact ok.frame (still_beginAttempt _ _ _)
    · exact ((ok.faultPage _ _).setLink _ _).frame (still_engineIdled _ _)

theorem testRisk (ok : s.PinsWith more) (c : ChannelId) : (s.testRisk c).PinsWith more := by
  unfold Switch.testRisk
  split
  · exact (ok.frame (still_postChannel _ _ _ _ _)).setChannel _ _
  · exact ok

theorem closeWindow (ok : s.PinsWith more) : s.closeWindow.PinsWith more := by
  unfold Switch.closeWindow
  split
  · exact ok
  · rename_i w _
    have sampled : (s.addSample w.count).openWindow.PinsWith more := ok.frame (.of_same rfl rfl rfl rfl)
    exact foldl (fun _ h c => h.testRisk c) _ sampled

theorem linksCommand (ok : s.PinsWith more) (h : Head) (a : PerLink Bool × LinkId) : (linksCommand h a s).PinsWith more := by
  have switched : (s.switched a.1).PinsWith more := ok.frame (.of_same rfl rfl rfl rfl)
  have settled : (s.settled a.1).PinsWith more := by
    unfold Switch.settled
    split
    · unfold settleDisabled
      split
      · split
        · exact switched.frame (still_failOver _ _ _)
        · exact switched
      · exact switched.breakOff _ _
    · exact switched
  have homed : ((s.settled a.1).homed a.2).PinsWith more := PinsWith.frame (settled.setGroups _) (still_returnHome _)
  rw [linksCommand_eq]
  exact homed.answer _ _ _

end PinsWith

end Switch
end Sys2Proof.Machine
end

section
/-! SUPPORT. The pins through the settings, start-up and every row, and the most pins a version holds (spec/09, spec/10, R31). -/

namespace Sys2Proof.Machine

open Switch in
/-- What a restart leaves of a story: its versions unpinned and unmarked, and no purge pending (R20, R38). -/
theorem story_restartSlot {x : Slot} {st : Story} (h : (restartSlot x).story = some st) :
    ∃ old, x.story = some old ∧ st.versions = old.versions.map unpinnedVersion ∧ st.status ≠ .spiked true := by
  unfold restartSlot at h
  cases found : x.story with
  | none =>
    rw [found] at h
    dsimp only at h
    rw [found] at h
    cases h
  | some old =>
    rw [found] at h
    dsimp only at h
    split at h
    all_goals
      cases h
    all_goals exact ⟨old, rfl, rfl, nofun⟩

/-- Slots without pins and without marks agree with no holders. -/
theorem HoldsAgree.of_unpinned {slots : Bank 1024 Slot} {uploads : Bank 6 (Option Upload)}
    (free : ∀ i st v, (slots.get i).story = some st → v ∈ st.versions → v.pins = 0 ∧ v.retiring = false)
    (numbers : ∀ i st, (slots.get i).story = some st → (st.versions.map Version.number).Nodup) (closed : ∀ p, uploads.get p = none) :
    HoldsAgree slots uploads 0 where
  pins i st v hst hv := by rw [(free i st v hst hv).1, Multiset.count_zero]
  marked i st v hst hv _ := (free i st v hst hv).1
  current i st v hst last := (free i st v hst (List.mem_of_getLast? last)).2
  numbers := numbers
  held x hx := absurd hx (Multiset.notMem_zero x)
  victims p u n hu := by
    rw [closed] at hu
    cases hu
  apart p p' u u' hu := by
    rw [closed] at hu
    cases hu

theorem Bank.holds_eq_zero {f : α → Multiset γ} {b : Bank n α} (h : ∀ i, f (b.get i) = 0) : b.holds f = 0 := by
  unfold Bank.holds
  exact Finset.sum_eq_zero fun i _ => h i

namespace Switch

theorem holders_eq_zero {s : Switch} (jobs : ∀ q, (s.pages.get q).job = none) (streams : ∀ p, (s.ports.get p).stream = none) : s.holders = 0 := by
  rw [holders, Bank.holds_eq_zero fun q => Page.held_of_none (jobs q), Bank.holds_eq_zero fun p => Port.held_of_none (streams p), add_zero]

namespace PinsWith

variable {s t : Switch} {more : Multiset (Handle × Nat)}

/-- A switch with no pin, no job and no stream. -/
theorem of_unpinned (agree : HoldsAgree s.slots s.uploads 0) (wait : PurgesWait s.slots) (jobs : ∀ q, (s.pages.get q).job = none)
    (streams : ∀ p, (s.ports.get p).stream = none) : s.PinsWith 0 :=
  ⟨⟨by rwa [holders_eq_zero jobs streams], wait⟩, fun p stream => absurd (streams p) stream, fun q job => absurd (jobs q) job⟩

/-! ### Ports and settings (spec/09, spec/10) -/

theorem unknownFrame (ok : s.PinsWith more) (h : Head) : (unknownFrame h s).PinsWith more := by
  obtain e | ⟨tag, code, -, e⟩ := s.unknownFrame_cases h <;> rw [e]
  · exact ok
  · exact ok.refuse _ _

/-- A port's record with the same stream in the same phase. -/
theorem setPort_of_same (ok : s.PinsWith more) (p : PortId) {x : Port} (stream : x.stream = (s.ports.get p).stream)
    (phase : x.phase = (s.ports.get p).phase) : (s.setPort p x).PinsWith more :=
  ok.frame (s.still_setPort p (Port.keepsPins_of_same stream phase))

theorem attach (ok : s.PinsWith more) (p : PortId) : (s.attach p).PinsWith more := ok.setPort_of_same p (by rfl) (by rfl)

theorem attachCommand (ok : s.PinsWith more) (h : Head) (a : Unit) : (attachCommand h a s).PinsWith more := by
  unfold Switch.attachCommand
  split
  · split
    · exact (ok.attach _).answer _ _ _
    · exact ok.refuse _ _
  · exact ok.refuse _ _

theorem reattachCommand (ok : s.PinsWith more) (h : Head) (p : PortId) : (reattachCommand h p s).PinsWith more := by
  unfold Switch.reattachCommand
  split
  · exact (ok.attach _).answer _ _ _
  · exact ok.refuse _ _

theorem filterCommand (ok : s.PinsWith more) (h : Head) (a : Fin 24 × Filter) : (filterCommand h a s).PinsWith more := by
  unfold Switch.filterCommand
  dsimp only
  exact (ok.setGroups _).answer _ _ _

theorem maskCommand (ok : s.PinsWith more) (h : Head) (a : Fin 4 × Mask) : (maskCommand h a s).PinsWith more := by
  unfold Switch.maskCommand
  dsimp only
  exact (ok.setGroups _).answer _ _ _

theorem settingsCommand (ok : s.PinsWith more) (h : Head) (a : SettingsParams) : (settingsCommand h a s).PinsWith more := by
  unfold Switch.settingsCommand
  split
  · split
    · exact (ok.setGroups _).answer _ _ _
    · exact ok.refuse _ _
  · exact (ok.setGroups _).answer _ _ _
  · exact (ok.setGroups _).answer _ _ _

theorem saveCommand (ok : s.PinsWith more) {h : Head} (idle : (s.ports.get h.port).phase = .idle) (a : Unit) :
    (saveCommand h a s).PinsWith more := by
  unfold Switch.saveCommand
  split
  · exact ok.refuse _ _
  · have begun : ({ s with saving := some { copy := s.groups, port := some h.port }, image := none } : Switch).PinsWith more :=
      ok.frame (.of_same rfl rfl rfl rfl)
    exact begun.setPort_of_phase (by rw [show (s.ports.get h.port).phase = .idle from idle]; nofun)
      (begun.stream_none (p := h.port) (by rw [show (s.ports.get h.port).phase = .idle from idle]; nofun))

theorem endSave (ok : s.PinsWith more) (store : s.StoreInOrder) : s.endSave.PinsWith more := by
  unfold Switch.endSave
  split
  · exact ok
  · rename_i x saving
    have ended : ({ s with saving := none, image := some x.copy.image } : Switch).PinsWith more := ok.frame (.of_same rfl rfl rfl rfl)
    dsimp only
    split
    · exact ended
    · rename_i p port
      have executing := store.phases.executing x p saving port
      exact PinsWith.answer (ended.setPort_of_phase (p := p) (by rw [show (s.ports.get p).phase = .executing from executing]; nofun) (by rfl))
        _ _ _

theorem beginRestart (store : s.StoreInOrder) (cause : StartCause) : (beginRestart cause s).PinsWith 0 := by
  have slots := StoreInOrder.beginRestart_slots s cause
  have pages := s.beginRestart_pages cause
  refine of_unpinned (.of_unpinned (fun i st v hst hv => ?_) (fun i st hst => ?_) fun p => Bank.get_replicate _ p) (fun i st hst spiked => ?_)
    (fun q => ?_) fun p => ?_
  · rw [slots, Bank.get_map] at hst
    obtain ⟨old, -, versions, -⟩ := story_restartSlot hst
    rw [versions] at hv
    obtain ⟨w, -, rfl⟩ := List.mem_map.1 hv
    exact ⟨rfl, rfl⟩
  · rw [slots, Bank.get_map] at hst
    obtain ⟨old, own, versions, -⟩ := story_restartSlot hst
    rw [versions, List.map_map]
    exact (store.records.listed i old own).1.2.1
  · rw [slots, Bank.get_map] at hst
    obtain ⟨-, -, -, status⟩ := story_restartSlot hst
    exact absurd spiked status
  · rw [pages, Bank.get_map]
    rfl
  · change ((s.restartStore.emptyInboxes.ports.map restartPort).get p).stream = none
    rw [Bank.get_map]
    rfl

theorem powerOn (s : Switch) : s.powerOn.PinsWith 0 := by
  have vacant (i : SlotId) (st : Story) (hst : (s.powerOn.slots.get i).story = some st) : False := by
    change ((Bank.replicate 1024 ({ gen := 0, story := none } : Slot)).get i).story = some st at hst
    rw [Bank.get_replicate] at hst
    cases hst
  refine of_unpinned (.of_unpinned (fun i st v hst => (vacant i st hst).elim) (fun i st hst => (vacant i st hst).elim)
    fun p => Bank.get_replicate _ p) (fun i st hst => (vacant i st hst).elim) (fun q => ?_) fun p => ?_
  · change ((Bank.replicate 128 Page.fresh).get q).job = none
    rw [Bank.get_replicate]
    rfl
  · change ((s.ports.map fun x : Port => { Port.fresh with holdLine := x.holdLine, resetLine := x.resetLine }).get p).stream = none
    rw [Bank.get_map]
    rfl

theorem judgeTight (ok : s.PinsWith more) : s.judgeTight.PinsWith more := by
  unfold Switch.judgeTight
  split
  all_goals exact ok.frame (.of_same rfl rfl rfl rfl)

theorem emptyBeforeEnd (ok : s.PinsWith more) : s.emptyBeforeEnd.PinsWith more := by
  unfold Switch.emptyBeforeEnd
  split
  · exact ok
  · exact ok.frame (.of_same rfl rfl rfl rfl)

theorem endStartUp (ok : s.PinsWith more) (queue : s.QueueInOrder) : s.endStartUp.PinsWith more := by
  unfold Switch.endStartUp
  split
  · rename_i starting
    obtain ⟨g, defaulted, loaded⟩ := s.loadSettings_eq
    have defined : (takeDefinitions s s.loadSettings.takeLength).PinsWith more := by
      rw [loaded]
      refine ok.frame { PinFrame.refl s with pages := fun q => ?_ }
      unfold takeDefinitions
      rw [Bank.get_mapIdx]
      split
      · exact .refl _
      · exact ⟨by rw [Page.held_of_none (by rfl), Page.held_of_none (queue.idle_of_starting starting q).2.2], .inl rfl⟩
    dsimp only
    generalize takeDefinitions s s.loadSettings.takeLength = w at defined
    have deadlines : w.takeDeadlines.PinsWith more := foldl (fun _ ok c => ok.setActive c _) _ defined
    have judged := (deadlines.frame (still_judgeGroups _ s)).emptyBeforeEnd.judgeTight
    generalize ((w.takeDeadlines.judgeGroups s).emptyBeforeEnd).judgeTight = w at judged
    exact judged.frame (.of_same rfl rfl rfl rfl)
  · exact ok

theorem easedTest (ok : s.PinsWith more) : s.easedTest.PinsWith more := by
  unfold Switch.easedTest
  split
  · exact ok.frame (.of_same rfl rfl rfl rfl)
  · exact ok

end PinsWith

/-! ### Every row -/

/-- The pins are in accord, with the orders that a pin leans on. -/
structure PinsInOrder (s : Switch) : Prop where
  store : s.StoreInOrder
  queue : s.QueueInOrder
  pins : s.PinsWith 0

end Switch

open Switch in
/-- The work of every row keeps the pins in accord. -/
theorem pins_work (i : Instr) (s : Switch) (order : s.PinsInOrder) : (work i s).PinsWith 0 := by
  obtain ⟨store, queue, ok⟩ := order
  refine ?row
  cases i
  case file => exact ok.taken fun _ _ idle => ok.fileCommand idle _
  case find => exact ok.taken fun _ _ _ => ok.findCommand _ _
  case describe => exact ok.taken fun _ _ idle => ok.onStory fun _ _ => ok.report idle _ _
  case reclassify => exact ok.taken fun _ _ _ => ok.reclassifyCommand _ _
  case route => exact ok.taken fun _ _ _ => ok.routeCommand _ _
  case spike => exact ok.taken fun _ _ _ => ok.spikeCommand _ _
  case restore => exact ok.taken fun _ _ _ => ok.restoreCommand _ _
  case purge => exact ok.taken fun _ _ _ => ok.purgeCommand _ _
  case read => exact ok.taken fun _ _ idle => ok.readCommand idle _
  case storeStatus => exact ok.taken fun _ _ _ => ok.answer _ _ _
  case checkout => exact ok.taken fun _ _ _ => ok.checkoutCommand _ _
  case renew => exact ok.taken fun _ _ _ => ok.renewCommand _ _
  case abandon => exact ok.taken fun _ _ _ => ok.abandonCommandFrame _ _
  case checkin => exact ok.taken fun _ _ idle => ok.checkinCommand store idle _
  case leaseExpiry => exact ok.expireLease _
  case breakLock => exact ok.taken fun _ _ _ => ok.breakCommand _ _
  case offer => exact ok.taken fun _ _ _ => ok.offerCommand _ _
  case accept => exact ok.taken fun _ _ _ => ok.acceptCommand _ _
  case decline => exact ok.taken fun _ _ _ => ok.declineCommand _ _
  case withdraw => exact ok.taken fun _ _ _ => ok.withdrawCommand _ _
  case offerExpiry => exact ok.lapseOffer _
  case collect => exact ok.taken fun _ _ idle => ok.collectCommand idle _
  case filter => exact ok.taken fun _ _ _ => ok.filterCommand _ _
  case mask => exact ok.taken fun _ _ _ => ok.maskCommand _ _
  case watch => exact ok.taken fun _ _ _ => ok.watchCommand _ _
  case unwatch => exact ok.taken fun _ _ _ => ok.unwatchCommand _ _
  case tick => exact ok.tick
  case editionTurn => exact ok.turnTick
  case clockStart => exact ok.taken fun _ _ _ => ok.clockStartCommand _ _
  case clockStop => exact ok.taken fun _ _ _ => ok.clockStopCommand _ _
  case turn => exact ok.taken fun _ _ _ => ok.turnCommand _ _
  case editionLength => exact ok.taken fun _ _ _ => ok.editionLengthCommand _ _
  case deadline => exact ok.taken fun _ _ _ => ok.deadlineCommand _ _
  case channel => exact ok.taken fun _ _ _ => ok.channelCommand _ _
  case warningPoint => exact ok.takeWarning _
  case deadlineMatch => exact ok.matchIfDue _
  case lateTick => exact ok.takeLateTick _
  case clockStatus => exact ok.taken fun _ _ idle => ok.report idle _ _
  case page => exact ok.taken fun _ _ _ => ok.pageCommand queue _ _
  case place => exact ok.taken fun _ _ _ => ok.placeCommand _ _
  case unplace => exact ok.taken fun _ _ _ => ok.unplaceCommand _ _
  case release => exact ok.taken fun _ _ _ => ok.releaseCommand queue _ _
  case row.recall => exact ok.taken fun _ _ _ => ok.recallCommand _ _
  case pageStatus => exact ok.taken fun _ _ idle => ok.pageStatusCommand idle _
  case readyLineRise => exact ok.setLink _ _
  case readyLineFall => exact ok.fallReady _
  case linkSettled => exact ok.settleLink _
  case linkStall => exact ok.stallLink _
  case pageStart => exact ok.startPage
  case takeStrobe => exact ok.takeStrobe _
  case typesetterAccept => exact ok.acceptPage _
  case typesetterReject => exact ok.rejectPage _
  case paceWindowClose => exact ok.closeWindow
  case links => exact ok.taken fun _ _ _ => ok.linksCommand _ _
  case feedStatus => exact ok.taken fun _ _ idle => ok.report idle _ _
  case dataFrame => exact ok.dataFrame store _ _ _
  case dataWindowLapse => exact ok.lapseDataWindow store _
  case resultDataFrameSent => exact ok.sendNext _
  case holdLineRise => exact ok.setPort_of_same _ (by rfl) (by rfl)
  case holdLineFall => exact ok.setPort_of_same _ (by rfl) (by rfl)
  case resultWindowLapse => exact ok.lapseResultWindow store _
  case frameFault => exact ok.faultyFrame store _
  case frameGapTimeout => exact ok.faultyFrame store _
  case unexpectedFrame => exact ok
  case unknownCommand => exact ok.unknownFrame _
  case attach => exact ok.taken fun _ _ _ => ok.attachCommand _ _
  case reattach => exact ok.taken fun _ _ _ => ok.reattachCommand _ _
  case portResetLineRise => exact ok.clearPort store _
  case portResetLineFall => exact ok.setPort_of_same _ (by rfl) (by rfl)
  case portStatus => exact ok.taken fun _ _ _ => ok.answer _ _ _
  case settings => exact ok.taken fun _ _ _ => ok.settingsCommand _ _
  case save => exact ok.taken fun _ _ idle => ok.saveCommand idle _
  case saveWriteEnd => exact ok.endSave store
  case dump => exact ok.taken fun _ _ idle => ok.report idle _ _
  case hold => exact ok.taken fun _ _ _ => PinsWith.answer (ok.frame (.of_same (by rfl) (by rfl) (by rfl) (by rfl))) _ _ _
  case unhold => exact ok.taken fun _ _ _ => PinsWith.answer (ok.frame (.of_same (by rfl) (by rfl) (by rfl) (by rfl))) _ _ _
  case restart => exact ok.taken fun _ _ _ => PinsWith.beginRestart (store.answer _ _ _) _
  case identify => exact ok.taken fun _ _ _ => ok.answer _ _ _
  case powerOn => exact PinsWith.powerOn s
  case resetLineRise => exact PinsWith.beginRestart store _
  case startUpEnd => exact ok.endStartUp queue

namespace Switch

/-! ### The most pins a version holds (R31) -/

theorem Port.count_held_le (x : Port) (c : Handle × Nat) : x.held.count c ≤ 1 := by
  unfold Port.held
  split
  · exact (Multiset.count_le_card _ _).trans (Multiset.card_singleton _).le
  · exact Nat.zero_le 1

theorem card_heldBy_le (entries : List Entry) : (heldBy entries).card ≤ entries.length := List.length_filterMap_le _ _

/-- The pages that hold a place in the queue, with the one that is SENDING. -/
def placed (s : Switch) : List PageId := s.sending.toList ++ s.queue

theorem QueueInOrder.placed_length_le {s : Switch} (ok : s.QueueInOrder) : s.placed.length ≤ 32 := by
  have places := ok.queue.table.places
  unfold placed
  cases sending : s.sending <;> rw [sending] at places <;> simp at places ⊢ <;> omega

/-- A page holds a version as often as its job has entries, and only in its place. -/
theorem QueueInOrder.count_held_le {s : Switch} (ok : s.QueueInOrder) (q : PageId) (c : Handle × Nat) :
    (s.pages.get q).held.count c ≤ if q ∈ s.placed.toFinset then 16 else 0 := by
  cases job : (s.pages.get q).job with
  | none => rw [Page.held_of_none job, Multiset.count_zero]; exact Nat.zero_le _
  | some j =>
    have member : q ∈ s.placed := by
      rw [placed, List.mem_append, Option.mem_toList]
      rcases (ok.queue.table.jobs q).1 (by rw [job]; nofun) with state | state
      · exact .inr ((ok.queue.table.queued q).2 state)
      · exact .inl ((ok.queue.table.inFlight q).2 state)
    rw [if_pos (List.mem_toFinset.2 member), Page.held_of_some job]
    calc (heldBy j.entries).count c ≤ (heldBy j.entries).card := Multiset.count_le_card _ _
      _ ≤ j.entries.length := card_heldBy_le _
      _ ≤ 16 := (ok.queue.table.sizes q).2 j job

/-- At most 518 holds are on one version: 32 places of 16 entries, and 6 ports. -/
theorem QueueInOrder.count_holders_le {s : Switch} (ok : s.QueueInOrder) (c : Handle × Nat) : s.holders.count c ≤ 518 := by
  have pages : (s.pages.holds Page.held).count c ≤ 512 := by
    rw [Bank.count_holds, Bank.total_eq_sum]
    calc ∑ q, (s.pages.get q).held.count c ≤ ∑ q, if q ∈ s.placed.toFinset then 16 else 0 := Finset.sum_le_sum fun q _ => ok.count_held_le q c
      _ = s.placed.toFinset.card * 16 := by rw [Finset.sum_ite_mem, Finset.univ_inter, Finset.sum_const, smul_eq_mul]
      _ ≤ 32 * 16 := Nat.mul_le_mul_right 16 ((List.toFinset_card_le _).trans ok.placed_length_le)
  have ports : (s.ports.holds Port.held).count c ≤ 6 := by
    rw [Bank.count_holds, Bank.total_eq_sum]
    calc ∑ p, (s.ports.get p).held.count c ≤ ∑ _p : PortId, 1 := Finset.sum_le_sum fun p _ => Port.count_held_le _ c
      _ = 6 := rfl
  rw [holders, Multiset.count_add]
  omega

/-- Every step keeps the pins in accord, with the orders of the store and of the queue. -/
theorem step_pinsInOrder (s t : State) (ok : s.sw.PinsInOrder) (next : step s = .next t) : t.sw.PinsInOrder := by
  refine step_keeps (P := PinsInOrder) (fun s ok => ?_) (fun i s ok => ?_) (fun s ok => ?_) (fun s p ok => ?_) s t ok next
  · exact ⟨ok.store.frame ⟨rfl, rfl, rfl, rfl, rfl, rfl, fun _ => rfl⟩, ok.queue.frame (by constructor <;> rfl),
      ok.pins.frame (.of_same rfl rfl rfl rfl)⟩
  · exact ⟨store_work i s ok.store, queue_work i s ok.queue, pins_work i s ok⟩
  · exact ⟨ok.store.easedTest, ok.queue.desk (desk_easedTest s), ok.pins.easedTest⟩
  · exact ⟨ok.store.frame ⟨rfl, rfl, rfl, rfl, rfl, rfl, fun _ => rfl⟩, ok.queue.frame (by constructor <;> rfl),
      ok.pins.frame (.of_same rfl rfl rfl rfl)⟩

end Switch

/-- Settles O59: each operation that takes, records or gives up a hold keeps the pins the count of the holders, a multiset; and 32 places of 16
entries with 6 streams are 518 holders at most. -/
theorem stepsKeepThePinsInAccord : Obligations.StepsKeepThePinsInAccord := by
  unfold Obligations.StepsKeepThePinsInAccord
  refine ⟨fun s t store queue pins next => ?_, fun s queue pins i st v hst hv => ?_⟩
  · exact (Switch.step_pinsInOrder s t ⟨store, queue, pins.pinsWith store queue⟩ next).pins.pinsAgree
  · rw [pins.pins i st v hst hv, pinsOn_eq]
    exact queue.count_holders_le _

end Sys2Proof.Machine
end

section
/-! SUPPORT. One step, the reset, and the checks that a port makes of a command frame (spec/09 R156, R165). -/

namespace Sys2Proof.Machine

/-- Settles O1: the queue's front is taken off, and its row is executed on the rest. -/
theorem stepTakesTheFrontCommand : Obligations.StepTakesTheFrontCommand := fun _ _ => rfl

/-- Settles O2: a row is its work as one event, or that with an inbox emptied after it. -/
theorem everyCommandGoesOn : Obligations.EveryCommandGoesOn := by
  intro c s
  obtain e | ⟨p, -, e⟩ := exec_eq c s
  · exact ⟨_, e⟩
  · exact ⟨_, e⟩

/-! ### The reset -/

theorem blocksFrom_getElem? {k : Nat} (hk : k < 8192) : (blocksFrom 0 8192)[k]? = some k := by
  rw [Switch.StoreInOrder.blocksFrom_eq_range', List.getElem?_range' hk, Nat.zero_add, Nat.one_mul]

/-- Settles O3: each record of the reset is a constant, and the pool counts its blocks from 0. -/
theorem resetLeavesThePowerOnRecords : Obligations.ResetLeavesThePowerOnRecords := by
  unfold Obligations.ResetLeavesThePowerOnRecords
  have length : State.reset.sw.store.freePool.length = 8192 := by
    rw [show State.reset.sw.store.freePool = blocksFrom 0 8192 from rfl, Switch.StoreInOrder.blocksFrom_eq_range', List.length_range']
  refine ⟨fun i => Bank.get_replicate _ i, length, fun k hk => blocksFrom_getElem? hk, rfl, rfl, rfl, fun p => Bank.get_replicate _ p, rfl,
    fun p => Bank.get_replicate _ p, rfl, rfl, rfl, rfl, fun c => ?_, fun q => ?_, rfl, rfl, rfl, fun l => ?_, rfl, rfl, rfl, fun p => ?_, rfl,
    rfl, rfl, rfl, rfl⟩
  · rw [show State.reset.sw.channels.get c = _ from Bank.get_replicate _ c]
    exact ⟨rfl, rfl, rfl, rfl⟩
  · rw [show State.reset.sw.pages.get q = _ from Bank.get_replicate _ q]
    exact ⟨rfl, rfl, rfl, rfl⟩
  · cases l <;> exact ⟨rfl, rfl, rfl, rfl⟩
  · rw [show State.reset.sw.ports.get p = _ from Bank.get_replicate _ p]
    exact ⟨rfl, rfl, rfl, rfl, rfl, rfl, rfl⟩

/-- The reset is what power-on leaves of it (R171). -/
theorem powerOn_reset : Switch.reset.powerOn = Switch.reset := rfl

open Switch in
/-- Settles O52: the orders of the store, of the queue and of the pins hold of any power-on, and of the reset as one; the other records are
constants in their ranges. -/
theorem resetMeetsTheInvariants : Obligations.ResetMeetsTheInvariants := by
  have store : reset.StoreInOrder := powerOn_reset ▸ StoreInOrder.powerOn reset
  have queue : reset.QueueInOrder := powerOn_reset ▸ QueueInOrder.powerOn reset
  have pins : reset.PinsWith 0 := powerOn_reset ▸ PinsWith.powerOn reset
  refine ⟨Memory.reset_wf, fun p => ?_, ⟨Groups.factory_inRange, by decide, by decide, by decide, by decide, fun _ => rfl⟩, fun p => ?_, store, queue,
    pins.pinsAgree, Nat.zero_le _, .nil, nofun⟩
  · rw [show State.reset.sw.inboxes.get p = _ from Bank.get_replicate _ p]
    exact ⟨Nat.zero_le _, .nil, Nat.zero_le _⟩
  · rw [show State.reset.sw.ports.get p = _ from Bank.get_replicate _ p]
    exact ⟨Nat.zero_le _, .inr rfl⟩

end Sys2Proof.Machine
end

section
/-! SUPPORT. The port's own checks of a command frame (spec/09 R156, R165), as they meet every row. -/

namespace Sys2Proof.Machine

namespace Switch

/-- A command frame refused by its port: the row's work is the refusal (R156). -/
def gatedBy (i : Instr) (h : Head) (c : Option Cmd) : Prop :=
  ∀ s : Switch, (s.portCheck h c = .unread → work i s = s) ∧
    ∀ tag code, s.portCheck h c = .refused tag code → work i s = s.refuse { h with tag := tag } code

theorem gatedBy_takeCommand {i : Instr} {h : Head} {c : Cmd} {a : Option α} {body : α → Switch → Switch}
    (row : work i = fun s => s.takeCommand h c a body) : gatedBy i h (some c) := by
  intro s
  rw [row]
  constructor
  · intro e
    simp only [takeCommand, e]
  · intro tag code e
    simp only [takeCommand, e]

theorem gatedBy_unknownFrame (h : Head) (b : Option Byte) : gatedBy (.unknownCommand h b) h none := by
  intro s
  change (_ → s.unknownFrame h = s) ∧ ∀ tag code, _ → s.unknownFrame h = _
  constructor
  · intro e
    simp only [unknownFrame, e]
  · intro tag code e
    simp only [unknownFrame, e]

/-- Every command frame meets its port's checks before anything else. -/
theorem gatedBy_row {i : Instr} {h : Head} {c : Option Cmd} (row : anyCommandRow i = some (h, c)) : gatedBy i h c := by
  cases i
  case unknownCommand =>
    cases row
    exact gatedBy_unknownFrame _ _
  all_goals cases row <;> exact gatedBy_takeCommand rfl

/-- A command frame is one event, with nothing after it. -/
theorem exec_row {i : Instr} {h : Head} {c : Option Cmd} (row : anyCommandRow i = some (h, c)) (s : State) : exec i s = s.run (work i) := by
  obtain e | ⟨p, rfl, -⟩ := exec_eq i s
  · exact e
  · cases row

theorem exec_of_unread {i : Instr} {h : Head} {c : Option Cmd} {s : State} (row : anyCommandRow i = some (h, c))
    (unread : s.sw.portCheck h c = .unread) : exec i s = .next { s with sw := s.sw.quietly } := by
  rw [exec_row row]
  exact s.run_eq _ _ ((gatedBy_row row s.sw.quietly).1 unread) rfl

/-- A refusal at the port is the whole of its event. -/
theorem exec_of_refused {i : Instr} {h : Head} {c : Option Cmd} {s : State} {code : Code} (row : anyCommandRow i = some (h, c))
    (refused : s.sw.portCheck h c = .refused h.tag code) : exec i s = .next { s with sw := s.sw.replied h code [] } := by
  rw [exec_row row]
  exact s.run_eq _ _ (((gatedBy_row row s.sw.quietly).2 _ _ refused).trans (answer_eq_replied _ _ _ _ rfl)) rfl

end Switch

open Switch in
/-- Settles O4: the port's checks are one decision list, and each answer of it is the whole of its event. -/
theorem portsRefuseInTheirOrder : Obligations.PortsRefuseInTheirOrder := by
  refine ⟨fun i h c s row => ⟨fun up => exec_of_unread row ?_, fun down => ⟨fun starting => exec_of_refused row ?_, fun live =>
    ⟨fun busy => exec_of_refused row ?_, fun idle => ⟨fun zero => exec_of_refused row ?_, fun tag =>
      ⟨fun detached other => exec_of_refused row ?_, fun k hk attached control desk => exec_of_refused row ?_⟩⟩⟩⟩⟩,
    fun h code s down live idle tag attached => exec_of_refused (c := none) rfl ?_, fun p kind s => s.run_eq _ _ rfl rfl⟩
  all_goals simp_all [portCheck, port_def, isDetached, isControl]

end Sys2Proof.Machine
end

section
/-! SUPPORT. What a block's command sends: its refusal alone, or an OK and no other result frame of its tag (spec/09 R155, R156). -/

namespace Sys2Proof.Machine

theorem resultCodes_byte (c : Code) : resultCodes[c.byte.toNat]? = some c := by cases c <;> rfl

theorem Code.byte_injective {c d : Code} (h : c.byte = d.byte) : c = d := by
  have e := resultCodes_byte c
  rw [h, resultCodes_byte d] at e
  exact (Option.some.inj e).symm

theorem code_of_resultFrame {h : Head} {c d : Code} {x y : List Byte} (e : resultFrame h c x = resultFrame h d y) : c = d := by
  unfold resultFrame at e
  injection e with _ frame
  injection frame with _ _ payload
  injection payload with byte _
  exact Code.byte_injective byte

namespace Switch

/-- A command's work from a state that has sent nothing: its refusal alone, or no result frame but of OK. -/
def Replies (s : Switch) (h : Head) (t : Switch) : Prop :=
  (∃ code, t = s.refuse h code) ∨ ∀ code values, resultFrame h code values ∈ t.last.sent → code = .ok

namespace Replies

variable {s t : Switch} {h : Head}

theorem refuse (s : Switch) (h : Head) (code : Code) : Replies s h (s.refuse h code) := .inl ⟨code, rfl⟩

theorem silent (quiet : t.last.sent = []) : Replies s h t := by
  refine .inr fun code values sent => ?_
  rw [quiet] at sent
  cases sent

theorem sent_answer (quiet : t.last.sent = []) (code : Code) (values : List Byte) :
    (t.answer h code values).last.sent = [resultFrame h code values] := by
  rw [answer_eq, quiet]
  rfl

theorem answer (quiet : t.last.sent = []) (values : List Byte) : Replies s h (t.answer h .ok values) := by
  refine .inr fun code other sent => ?_
  rw [sent_answer quiet, List.mem_singleton] at sent
  exact code_of_resultFrame sent

theorem openStream (quiet : t.last.sent = []) (c : Cmd) (values : List Byte) (x : Stream) : Replies s h (t.openStream h c values x) := by
  refine .inr fun code other sent => ?_
  change resultFrame h code other ∈ (t.answer h .ok values).last.sent at sent
  rw [sent_answer quiet, List.mem_singleton] at sent
  exact code_of_resultFrame sent

theorem report (quiet : t.last.sent = []) (c : Cmd) (data : List Byte) : Replies s h (t.report h c data) := openStream quiet c [] _

theorem onStory {k : Handle} {f : Story → Switch} (did : ∀ st, s.story k = some st → Replies s h (f st)) : Replies s h (s.onStory h k f) :=
  onStory_of (P := Replies s h) (refuse s h) did

theorem withRight {d : DeskId} (did : Replies s h t) : Replies s h (s.withRight h d t) := withRight_of (P := Replies s h) (refuse s h) did

theorem unlessFilingOrSpiked {st : Story} (did : Replies s h t) : Replies s h (s.unlessFilingOrSpiked h st t) :=
  unlessFilingOrSpiked_of (P := Replies s h) (refuse s h) did

theorem asHolder {screen : ScreenNo} {st : Story} {k : Lock → Switch} (did : ∀ l, Replies s h (k l)) : Replies s h (s.asHolder h screen st k) :=
  asHolder_of (P := Replies s h) (refuse s h) fun l _ _ => did l

theorem onOffer {st : Story} {d : DeskId} {k : Offer → Switch} (did : ∀ o, Replies s h (k o)) : Replies s h (s.onOffer h st d k) :=
  onOffer_of (P := Replies s h) (refuse s h) fun o _ => did o

theorem servingDesk {d : DeskId} (did : Replies s h t) : Replies s h (s.servingDesk h d t) := servingDesk_of (P := Replies s h) (refuse s h) did

theorem onPage {q : PageId} {k : PageDef → Switch} (did : ∀ d, Replies s h (k d)) : Replies s h (s.onPage h q k) := by
  unfold Switch.onPage
  split
  · exact refuse _ _ _
  · exact withRight (did _)

/-! ### What a completion sends -/

theorem returnChains_sent (l : List Version) (s : Switch) : (l.foldl (fun s v => (s.returnChain v.chain).markReleased) s).last.sent = s.last.sent :=
  (StoryFrame.foldl (fun s (v : Version) => (returnChain_frame s v.chain).trans (markReleased_frame _)) l s).sent

theorem makeVersion_sent (s : Switch) (p : PortId) (u : Upload) (st : Story) : (s.makeVersion p u st).1.last.sent = s.last.sent :=
  returnChains_sent _ s

theorem completeFile {w : Switch} (quiet : w.last.sent = []) (u : Upload) : Replies s h (w.completeFile h u) := by
  unfold Switch.completeFile
  split
  · exact silent quiet
  · dsimp only
    exact answer (by exact (makeVersion_sent w h.port u _).trans quiet) _

theorem completeCheckin {w : Switch} (quiet : w.last.sent = []) (u : Upload) (keep : Bool) : Replies s h (w.completeCheckin h u keep) := by
  unfold Switch.completeCheckin
  split
  · exact silent quiet
  · dsimp only
    split
    · exact answer (by exact (makeVersion_sent w h.port u _).trans quiet) _
    · exact silent ((makeVersion_sent w h.port u _).trans quiet)

theorem opening_sent (s : Switch) (i : SlotId) (st : Story) (p : PortId) (u : Upload) : (s.opening i st p u).last.sent = s.last.sent := by
  obtain ⟨tight, boxes, e⟩ := reserve_eq ((s.setStory i st).setUpload p (some u)) u.remaining
  unfold opening
  rw [e]
  rfl

/-! ### The directory, custody and passing (spec/01 to spec/04) -/

variable (quiet : s.last.sent = [])
include quiet

theorem fileCommand (a : FileParams) : Replies s h (fileCommand h a s) := by
  unfold Switch.fileCommand
  split
  · exact refuse _ _ _
  · refine withRight ?_
    split
    · exact refuse _ _ _
    · split
      · exact refuse _ _ _
      · rename_i i _
        split
        · exact refuse _ _ _
        · split
          · exact refuse _ _ _
          · have opened : (s.opening i (fileStory a) h.port (fileUpload h a (s.handleAt i))).last.sent = [] := (opening_sent _ _ _ _ _).trans quiet
            unfold takeFile
            dsimp only
            split
            · exact completeFile opened _
            · exact silent opened

theorem findCommand (slug : List Byte) : Replies s h (findCommand h slug s) := by
  unfold Switch.findCommand
  split
  · exact refuse _ _ _
  · exact answer (by exact quiet) _

theorem reclassifyCommand (a : ReclassifyParams) : Replies s h (reclassifyCommand h a s) := by
  refine onStory fun st _ => withRight (unlessFilingOrSpiked ?_)
  dsimp only
  split <;> exact answer (by exact quiet) _

theorem spikeCommand (a : Handle) : Replies s h (spikeCommand h a s) := by
  refine onStory fun st _ => withRight ?_
  dsimp only
  split
  · exact answer (by exact quiet) _
  · exact answer (by exact quiet) _
  · split
    · exact answer (by exact quiet) _
    · exact refuse _ _ _
  all_goals exact refuse _ _ _

theorem restoreCommand (a : Handle) : Replies s h (restoreCommand h a s) := by
  refine onStory fun st _ => withRight ?_
  split
  · exact answer (by exact quiet) _
  all_goals exact refuse _ _ _

theorem purgeCommand (a : Handle) : Replies s h (purgeCommand h a s) := by
  refine onStory fun st _ => ?_
  split
  · exact answer ((requestPurge_frame s _).sent.trans quiet) _
  all_goals exact refuse _ _ _

theorem readCommand (a : Handle × Option Nat) : Replies s h (readCommand h a s) := by
  refine onStory fun st _ => ?_
  dsimp only
  split
  · exact refuse _ _ _
  · split
    · exact refuse _ _ _
    · split
      · exact refuse _ _ _
      · split
        · exact answer (by exact quiet) _
        · exact openStream ((modifyVersions_frame s _ _).sent.trans quiet) _ _ _

theorem checkoutCommand (a : ScreenNo × Handle) : Replies s h (checkoutCommand h a s) := by
  refine onStory fun st _ => ?_
  split
  · exact refuse _ _ _
  · refine withRight ?_
    dsimp only
    split
    · exact answer (by exact quiet) _
    · split
      · exact answer (by exact quiet) _
      · exact refuse _ _ _
    all_goals exact refuse _ _ _

theorem checkinCommand (a : CheckinParams) : Replies s h (checkinCommand h a s) := by
  refine onStory fun st _ => asHolder fun l => ?_
  have took (victim : Option Version) : Replies s h (s.takeCheckin h a st l victim) := by
    have opened := (opening_sent s a.handle.slot (StoreInOrder.checkinStory st l victim) h.port (checkinUpload h a victim)).trans quiet
    rw [StoreInOrder.takeCheckin_eq]
    split
    · exact completeCheckin opened _ _
    · exact silent opened
  split
  · exact refuse _ _ _
  · split
    · exact refuse _ _ _
    · split
      · split
        · exact refuse _ _ _
        · exact took _
      · exact took _

theorem drainUpload_sent (p : PortId) (k : Handle) : (s.drainUpload p k).last.sent = [] := by
  unfold drainUpload
  repeat' split
  all_goals exact quiet

theorem breakCommand (a : Handle) : Replies s h (breakCommand h a s) := by
  refine onStory fun st _ => ?_
  split
  · exact answer (drainUpload_sent (s := s.endLock a.slot st _ .lockBroken) quiet _ _) _
  all_goals exact refuse _ _ _

theorem offerCommand (a : OfferParams) : Replies s h (offerCommand h a s) := by
  refine onStory fun st _ => ?_
  split
  · exact refuse _ _ _
  · refine withRight ?_
    split
    · exact refuse _ _ _
    · split
      · exact refuse _ _ _
      · split
        · exact refuse _ _ _
        · split
          · exact refuse _ _ _
          · exact answer (by exact quiet) _

theorem collectCommand (count : Nat) : Replies s h (collectCommand h count s) := by
  unfold Switch.collectCommand
  dsimp only
  split
  · exact answer (by exact quiet) _
  · exact openStream (by exact quiet) _ _ _

theorem watchCommand (a : ScreenNo × Handle) : Replies s h (watchCommand h a s) := by
  refine onStory fun _ _ => ?_
  dsimp only
  split
  · exact answer (by exact quiet) _
  · split
    · exact refuse _ _ _
    · exact answer (by exact quiet) _

/-! ### The clock and the pages (spec/06, spec/07) -/

omit quiet in
theorem matchIfDue_sent (c : ChannelId) (s : Switch) : (matchIfDue c s).last.sent = s.last.sent := by
  unfold matchIfDue
  split
  · unfold takeMatch
    dsimp only
    split
    · split
      · rfl
      · split
        · obtain ⟨_, _, _, _, _, e⟩ := autoRelease_eq _ c _
          rw [e]
          rfl
        · rfl
    · rfl
  · rfl

omit quiet in
theorem setActive_sent (c : ChannelId) (deadline : Nat) (s : Switch) : (s.setActive c deadline).last.sent = s.last.sent := by
  unfold setActive
  dsimp only
  split
  · rfl
  · exact matchIfDue_sent c _

omit quiet in
theorem foldl_sent {f : Switch → α → Switch} (same : ∀ s a, (f s a).last.sent = s.last.sent) (l : List α) (s : Switch) :
    (l.foldl f s).last.sent = s.last.sent := by
  induction l generalizing s with
  | nil => rfl
  | cons a l ih => exact (ih _).trans (same s a)

omit quiet in
theorem autoRelease_sent (s : Switch) (c : ChannelId) (reference : Nat) : (s.autoRelease c reference).last.sent = s.last.sent := by
  obtain ⟨_, _, _, _, _, e⟩ := autoRelease_eq s c reference
  rw [e]

omit quiet in
theorem turnChannel_sent (ended : Nat) (s : Switch) (c : ChannelId) : (turnChannel ended s c).last.sent = s.last.sent := by
  unfold turnChannel
  dsimp only
  split
  · exact autoRelease_sent _ _ _
  · rfl

omit quiet in
theorem turnEdition_sent (s : Switch) : s.turnEdition.last.sent = s.last.sent := by
  rw [turnEdition_eq]
  have turned := foldl_sent (turnChannel_sent s.clock.edition) (allBelow 16) s.beginTurn
  generalize (allBelow 16).foldl (turnChannel s.clock.edition) s.beginTurn = w at turned
  have purged : w.purgeSpiked.last.sent = w.last.sent := foldl_sent (fun s i => (requestPurge_frame s i).sent) _ w
  exact purged.trans turned

theorem clockStartCommand (a : Unit) : Replies s h (clockStartCommand h a s) := by
  unfold Switch.clockStartCommand
  split
  · exact answer quiet _
  · exact answer (by exact (foldl_sent (fun s c => matchIfDue_sent c s) _ _).trans quiet) _

theorem clockStopCommand (a : Unit) : Replies s h (clockStopCommand h a s) := by
  unfold Switch.clockStopCommand
  split <;> exact answer (by exact quiet) _

theorem turnCommand (a : Option Nat) : Replies s h (turnCommand h a s) := by
  unfold Switch.turnCommand
  split
  · exact answer (by exact (turnEdition_sent s).trans quiet) _
  · exact refuse _ _ _

theorem deadlineCommand (a : ChannelId × Nat) : Replies s h (deadlineCommand h a s) := by
  unfold Switch.deadlineCommand
  dsimp only
  refine answer ?_ _
  split
  · exact (setActive_sent _ _ _).trans quiet
  · exact quiet

theorem channelCommand (a : ChannelParams) : Replies s h (channelCommand h a s) := by
  unfold Switch.channelCommand
  dsimp only
  refine answer ?_ _
  split
  · exact (setActive_sent _ _ _).trans quiet
  · exact quiet

theorem pageCommand (a : PageId × Option PageDef) : Replies s h (pageCommand h a s) := by
  unfold Switch.pageCommand
  split
  · unfold definePage
    split
    · exact refuse _ _ _
    · dsimp only
      refine answer ?_ _
      split <;> exact quiet
  · unfold undefinePage
    split
    · exact answer quiet _
    · split
      · exact answer (by exact quiet) _
      · exact refuse _ _ _

theorem placeCommand (a : PlaceParams) : Replies s h (placeCommand h a s) := by
  unfold Switch.placeCommand
  dsimp only
  split
  · exact refuse _ _ _
  · refine onPage fun d => onStory fun st _ => ?_
    split
    · exact refuse _ _ _
    · exact answer (by exact quiet) _

theorem unplaceCommand (a : PageId × Nat) : Replies s h (unplaceCommand h a s) := by
  unfold Switch.unplaceCommand
  dsimp only
  split
  · exact refuse _ _ _
  · exact onPage fun d => answer (by exact quiet) _

omit quiet in
theorem releasePage_sent (s : Switch) (q : PageId) (d : PageDef) (rush : Bool) : (s.releasePage q d rush).last.sent = s.last.sent := by
  rw [releasePage_eq_releasing]
  rfl

omit quiet in
theorem reRelease_sent (s : Switch) (q : PageId) (d : PageDef) (old : Job) : (s.reRelease q d old).last.sent = s.last.sent := by
  have released := (releasePins_frame s old.entries).sent
  unfold reRelease
  dsimp only
  generalize s.releasePins old.entries = w at released
  have shape := w.snapshot_fst (w.page q).layout
  generalize w.snapshot (w.page q).layout = snap at shape
  rw [shape]
  exact released

theorem releaseCommand (a : PageId × Bool) : Replies s h (releaseCommand h a s) := by
  refine onPage fun d => ?_
  dsimp only
  split
  · exact refuse _ _ _
  · split
    · exact refuse _ _ _
    · split
      · exact answer ((reRelease_sent _ _ _ _).trans quiet) _
      · unfold releaseNew
        split
        · exact answer ((releasePage_sent _ _ _ _).trans quiet) _
        · exact refuse _ _ _

omit quiet in
theorem endJob_sent (s : Switch) (q : PageId) (x : Page) : (s.endJob q x).last.sent = s.last.sent := (releasePins_frame _ _).sent

omit quiet in
theorem voidAttempt_sent (s : Switch) (q : PageId) (edition : Nat) : (s.voidAttempt q edition).last.sent = s.last.sent := by
  unfold voidAttempt
  dsimp only
  split <;> rfl

theorem recallCommand (q : PageId) : Replies s h (recallCommand h q s) := by
  refine onPage fun d => ?_
  dsimp only
  split
  · exact answer ((endJob_sent _ _ _).trans quiet) _
  · exact answer ((voidAttempt_sent _ _ _).trans ((endJob_sent _ _ _).trans quiet)) _
  all_goals exact refuse _ _ _

theorem pageStatusCommand (a : Option PageId) : Replies s h (pageStatusCommand h a s) := by
  unfold Switch.pageStatusCommand
  split
  · exact report quiet _ _
  · dsimp only
    split <;> exact report (by exact quiet) _ _

/-! ### The feed, the ports and the settings (spec/08 to spec/10) -/

omit quiet in
theorem failOver_sent (s : Switch) (l : LinkId) (q : Option PageId) : (s.failOver l q).last.sent = s.last.sent := by
  unfold failOver
  split <;> rfl

omit quiet in
theorem abandonAttempt_sent (s : Switch) (l : LinkId) (q : PageId) : (s.abandonAttempt l q).last.sent = s.last.sent := by
  unfold abandonAttempt
  dsimp only
  split
  · exact (failOver_sent _ _ _).trans (endJob_sent _ _ _)
  · split <;> rfl

omit quiet in
theorem breakOff_sent (s : Switch) (l : LinkId) (state : LinkState) : (s.breakOff l state).last.sent = s.last.sent := by
  unfold breakOff
  dsimp only
  split
  · exact abandonAttempt_sent _ _ _
  · exact abandonAttempt_sent _ _ _
  · exact failOver_sent _ _ _

omit quiet in
theorem returnHome_sent (s : Switch) : s.returnHome.last.sent = s.last.sent := by
  unfold returnHome
  dsimp only
  split <;> rfl

omit quiet in
theorem settled_sent (s : Switch) (enable : PerLink Bool) : (s.settled enable).last.sent = s.last.sent := by
  unfold settled
  split
  · unfold settleDisabled
    split
    · split
      · exact failOver_sent _ _ _
      · rfl
    · exact breakOff_sent _ _ _
  · rfl

theorem linksCommand (a : PerLink Bool × LinkId) : Replies s h (linksCommand h a s) := by
  have homed : ((s.settled a.1).homed a.2).last.sent = [] := (returnHome_sent _).trans ((settled_sent s a.1).trans quiet)
  rw [linksCommand_eq]
  exact answer homed _

theorem attachCommand (a : Unit) : Replies s h (attachCommand h a s) := by
  unfold Switch.attachCommand
  split
  · split
    · exact answer (by exact quiet) _
    · exact refuse _ _ _
  · exact refuse _ _ _

theorem reattachCommand (p : PortId) : Replies s h (reattachCommand h p s) := by
  unfold Switch.reattachCommand
  split
  · exact answer (by exact quiet) _
  · exact refuse _ _ _

theorem settingsCommand (a : SettingsParams) : Replies s h (settingsCommand h a s) := by
  unfold Switch.settingsCommand
  split
  · split
    · exact answer (by exact quiet) _
    · exact refuse _ _ _
  · exact answer (by exact quiet) _
  · exact answer (by exact quiet) _

theorem saveCommand (a : Unit) : Replies s h (saveCommand h a s) := by
  unfold Switch.saveCommand
  split
  · exact refuse _ _ _
  · exact silent quiet

omit quiet in
theorem beginRestart_last (s : Switch) (cause : StartCause) : (beginRestart cause s).last = s.last := by
  unfold beginRestart restartStore
  rw [returnChain_foldl]
  rfl

theorem restartCommand (a : Unit) : Replies s h (restartCommand h a s) := by
  refine .inr fun code values sent => ?_
  rw [Switch.restartCommand, beginRestart_last, sent_answer quiet, List.mem_singleton] at sent
  exact code_of_resultFrame sent

/-! ### Every command -/

omit quiet in
/-- A port's refusal carries the frame's own tag (R156). -/
theorem tag_of_portCheck {c : Option Cmd} {tag : Byte} {code : Code} (refused : s.portCheck h c = .refused tag code) : tag = h.tag := by
  unfold portCheck at refused
  repeat' split at refused
  all_goals
    cases refused
  all_goals simp_all

theorem taken {c : Cmd} {a : Option α} {body : α → Switch → Switch} (did : ∀ x, Replies s h (body x s)) :
    Replies s h (s.takeCommand h c a body) := by
  unfold takeCommand
  split
  · exact silent quiet
  · rename_i tag code refused
    cases tag_of_portCheck refused
    exact refuse s h code
  · split
    · exact refuse _ _ _
    · exact did _

theorem unknownFrame : Replies s h (unknownFrame h s) := by
  unfold Switch.unknownFrame
  split
  · exact silent quiet
  · rename_i tag code refused
    cases tag_of_portCheck refused
    exact refuse s h code
  · exact silent quiet

end Replies

end Switch

open Switch in
/-- The work of a command frame is its refusal alone, or sends no result frame but of OK. -/
theorem replies_work {i : Instr} {h : Head} {c : Option Cmd} (row : anyCommandRow i = some (h, c)) {s : Switch} (quiet : s.last.sent = []) :
    Replies s h (work i s) := by
  cases i <;> cases row
  case unknownCommand => exact .unknownFrame quiet
  case file => exact .taken quiet fun _ => .fileCommand quiet _
  case find => exact .taken quiet fun _ => .findCommand quiet _
  case describe => exact .taken quiet fun _ => .onStory fun _ _ => .report quiet _ _
  case reclassify => exact .taken quiet fun _ => .reclassifyCommand quiet _
  case route => exact .taken quiet fun _ => .onStory fun _ _ => .withRight (.unlessFilingOrSpiked (.answer (by exact quiet) _))
  case spike => exact .taken quiet fun _ => .spikeCommand quiet _
  case restore => exact .taken quiet fun _ => .restoreCommand quiet _
  case purge => exact .taken quiet fun _ => .purgeCommand quiet _
  case read => exact .taken quiet fun _ => .readCommand quiet _
  case storeStatus => exact .taken quiet fun _ => .answer quiet _
  case checkout => exact .taken quiet fun _ => .checkoutCommand quiet _
  case renew => exact .taken quiet fun _ => .onStory fun _ _ => .asHolder fun _ => .answer (by exact quiet) _
  case abandon => exact .taken quiet fun _ => .onStory fun _ _ => .asHolder fun _ => .answer (by exact quiet) _
  case checkin => exact .taken quiet fun _ => .checkinCommand quiet _
  case breakLock => exact .taken quiet fun _ => .breakCommand quiet _
  case offer => exact .taken quiet fun _ => .offerCommand quiet _
  case accept => exact .taken quiet fun _ => .onStory fun _ _ => .servingDesk (.onOffer fun _ => .answer (by exact quiet) _)
  case decline => exact .taken quiet fun _ => .onStory fun _ _ => .servingDesk (.onOffer fun _ => .answer (by exact quiet) _)
  case withdraw => exact .taken quiet fun _ => .onStory fun _ _ => .withRight (.onOffer fun _ => .answer (by exact quiet) _)
  case collect => exact .taken quiet fun _ => .collectCommand quiet _
  case filter => exact .taken quiet fun _ => .answer (by exact quiet) _
  case mask => exact .taken quiet fun _ => .answer (by exact quiet) _
  case watch => exact .taken quiet fun _ => .watchCommand quiet _
  case unwatch => exact .taken quiet fun _ => .onStory fun _ _ => .answer (by exact quiet) _
  case clockStart => exact .taken quiet fun _ => .clockStartCommand quiet _
  case clockStop => exact .taken quiet fun _ => .clockStopCommand quiet _
  case turn => exact .taken quiet fun _ => .turnCommand quiet _
  case editionLength => exact .taken quiet fun _ => .answer (by exact quiet) _
  case deadline => exact .taken quiet fun _ => .deadlineCommand quiet _
  case channel => exact .taken quiet fun _ => .channelCommand quiet _
  case clockStatus => exact .taken quiet fun _ => .report quiet _ _
  case page => exact .taken quiet fun _ => .pageCommand quiet _
  case place => exact .taken quiet fun _ => .placeCommand quiet _
  case unplace => exact .taken quiet fun _ => .unplaceCommand quiet _
  case release => exact .taken quiet fun _ => .releaseCommand quiet _
  case recall.refl => exact .taken quiet fun _ => .recallCommand quiet _
  case pageStatus => exact .taken quiet fun _ => .pageStatusCommand quiet _
  case links => exact .taken quiet fun _ => .linksCommand quiet _
  case feedStatus => exact .taken quiet fun _ => .report quiet _ _
  case attach => exact .taken quiet fun _ => .attachCommand quiet _
  case reattach => exact .taken quiet fun _ => .reattachCommand quiet _
  case portStatus => exact .taken quiet fun _ => .answer quiet _
  case settings => exact .taken quiet fun _ => .settingsCommand quiet _
  case save => exact .taken quiet fun _ => .saveCommand quiet _
  case dump => exact .taken quiet fun _ => .report quiet _ _
  case hold => exact .taken quiet fun _ => .answer (by exact quiet) _
  case unhold => exact .taken quiet fun _ => .answer (by exact quiet) _
  case restart => exact .taken quiet fun _ => .restartCommand quiet _
  case identify => exact .taken quiet fun _ => .answer quiet _

open Switch in
/-- Settles O50: a command that is not accepted is its refusal alone, and the eased test after it finds nothing returned. -/
theorem refusedCommandsChangeNothing : Obligations.RefusedCommandsChangeNothing := by
  intro i h c s t code values row next refused sent
  rw [exec_row row] at next
  obtain rfl : t = { s with sw := s.sw.event (work i) } := by
    cases next
    rfl
  have last : ((work i s.sw.quietly).easedTest).last = (work i s.sw.quietly).last := by simp only [easedTest_fields]
  change resultFrame h code values ∈ ((work i s.sw.quietly).easedTest).last.sent at sent
  rw [last] at sent
  obtain ⟨other, e⟩ | accepted := replies_work row (s := s.sw.quietly) rfl
  · have done : work i s.sw.quietly = s.sw.replied h other [] := e.trans (answer_eq_replied _ _ _ _ rfl)
    rw [done] at sent
    obtain rfl : code = other := code_of_resultFrame (List.mem_singleton.1 sent)
    exact congrArg (fun w => { s with sw := w }) (event_eq s.sw _ (by rw [done]; rfl) |>.trans done)
  · exact absurd (accepted code values sent) refused

end Sys2Proof.Machine
end

section
/-! SUPPORT. Pins released, new numbers and the eased test (spec/01 R17, R19, spec/02 R27 to R33), and how a job ends (spec/07). -/

namespace Sys2Proof.Machine

namespace Switch

/-- The versions of a story after a pin on one of them is released (R31). -/
def unpinnedFrom (st : Story) (n : Nat) : List Version :=
  st.versions.map fun (v : Version) => if v.number = n then { v with pins := v.pins - 1 } else v

theorem changeVersion_unpin (st : Story) (n : Nat) :
    changeVersion n (fun v => { v with pins := v.pins - 1 }) st.versions = unpinnedFrom st n := by
  unfold changeVersion unpinnedFrom
  simp only [beq_iff_eq]

/-- A pin released: the story's versions, and then the purge that may have waited for it (R19, R31). -/
theorem unpin_eq {s : Switch} {k : Handle} {st : Story} (found : s.story k = some st) (n : Nat) :
    s.unpin k n = (s.setStory k.slot { st with versions := unpinnedFrom st n }).purgeIfUnpinned k.slot := by
  unfold unpin modifyVersions
  rw [found]
  dsimp only
  rw [changeVersion_unpin]

theorem unpin_of_no_story {s : Switch} {k : Handle} (missing : s.story k = none) (n : Nat) : s.unpin k n = s := by
  unfold unpin
  rw [missing]

theorem purgeIfUnpinned_setStory (s : Switch) (i : SlotId) (st : Story) : (s.setStory i st).purgeIfUnpinned i =
    if st.status = .spiked true ∧ st.unpinned = true then (s.setStory i st).completePurge i else s.setStory i st := by
  unfold purgeIfUnpinned
  rw [show ((s.setStory i st).slot i).story = some st by simp [slot_def]]

theorem story_setStory {s : Switch} {k : Handle} {st : Story} (found : s.story k = some st) (st' : Story) :
    (s.setStory k.slot st').story k = some st' := by
  rw [story_eq_some] at found ⊢
  simp [found.1]

/-- A purge completed takes a story's slug, class and chains, whatever its pins and status were (R17). -/
theorem purged_setStory (s : Switch) (k : Handle) {st st' : Story} (slug : st'.slug = st.slug) (urgency : st'.urgency = st.urgency)
    (chains : st'.versions.map Version.chain = st.versions.map Version.chain) : (s.setStory k.slot st').purged k st' = s.purged k st := by
  have lengths : (st'.versions.map fun v => v.chain.length) = st.versions.map fun v => v.chain.length := by
    have same := congrArg (List.map List.length) chains
    rw [List.map_map, List.map_map] at same
    exact same
  unfold purged
  rw [slug, urgency, chains, lengths]
  simp only [setStory_fields, Bank.set_set]
  rfl

/-- The release of the last pin of a story whose purge waits (R19). -/
theorem unpin_last {s : Switch} {k : Handle} {st : Story} {n : Nat} (found : s.story k = some st) (waits : st.status = .spiked true)
    (last : ∀ v ∈ unpinnedFrom st n, v.pins = 0) : s.unpin k n = s.purged k st := by
  rw [unpin_eq found, purgeIfUnpinned_setStory, if_pos ⟨waits, (unpinned_iff _).2 last⟩, completePurge_purged _ _ _ (story_setStory found _)]
  refine purged_setStory s k rfl rfl ?_
  unfold unpinnedFrom
  rw [List.map_map]
  refine List.map_congr_left fun v _ => ?_
  simp only [Function.comp_apply]
  split <;> rfl

theorem unpin_not_last {s : Switch} {k : Handle} {st : Story} {n : Nat} (found : s.story k = some st)
    (more : ¬(st.status = .spiked true ∧ ∀ v ∈ unpinnedFrom st n, v.pins = 0)) :
    s.unpin k n = s.setStory k.slot { st with versions := unpinnedFrom st n } := by
  rw [unpin_eq found, purgeIfUnpinned_setStory, if_neg fun due => more ⟨due.1, (unpinned_iff _).1 due.2⟩]

end Switch

open Switch in
/-- Settles O30: each clause is the equation of one operation. -/
theorem pinsPurgesAndTheEasedTest : Obligations.PinsPurgesAndTheEasedTest := by
  refine ⟨⟨fun s k n st found => ⟨fun more => unpin_not_last found more, fun waits last => unpin_last found waits last⟩,
    fun s k n missing => unpin_of_no_story missing n, fun st kept => ⟨fun empty => newNumber_of_empty empty kept, fun v current low high few => ?_⟩⟩,
    fun s => ⟨fun released tight high => ?_, fun idle => if_neg fun due => ?_⟩, fun s => rfl, fun s e rest => ⟨fun omitted => ?_, fun n captured => ?_⟩⟩
  · obtain ⟨j, number, held, free⟩ := newNumber_next current low high few
    have range := numberFrom_range v.number j
    rw [← number] at range
    exact ⟨range.1, range.2, free, j, number, held⟩
  · exact if_pos ⟨released, tight, high⟩
  · obtain ⟨released, tight, high⟩ := due
    rcases idle with h | h | h
    · rw [h] at released
      cases released
    · rw [h] at tight
      cases tight
    · exact absurd high (Nat.not_le_of_lt h)
  · rw [releasePins, List.foldl_cons, omitted]
    rfl
  · rw [releasePins, List.foldl_cons, captured]
    rfl

namespace Switch

/-! ### Jobs that end (R127, R129, R130, R147) -/

/-- A page's job at its end: the page out of the queue with its new record, and the pins of its snapshot released. -/
theorem endJob_eq (s : Switch) (q : PageId) (x : Page) : s.endJob q x =
    ({ s with
      queue := s.queue.filter fun k => k != q
      sending := if s.sending = some q then none else s.sending
      pages := s.pages.set q { x with job := none } } : Switch).releasePins (((s.pages.get q).job.map Job.entries).getD []) := rfl

theorem pageOwnerPort_eq {s t : Switch} {q : PageId} {d : PageDef} (defined : s.groups.clock.pages.get q = some d)
    (groups : t.groups = s.groups) : t.pageOwnerPort q = fun p => s.groups.ports.serving.get d.owner == some p := by
  funext p
  unfold pageOwnerPort
  rw [pageDef_def, groups, defined]
  simp [serves, serving, groups]

theorem notice_eq {s t : Switch} (wall : t.wall = s.wall) (kind : NoticeKind) (cls : Urgency) :
    t.notice kind cls = { kind := kind, cls := cls, stamp := s.wall } := by rw [notice, wall]

end Switch

open Switch in
/-- Settles O32: the pins go first, and the notice is posted to the ports that the settings, which the pins leave alone, name. -/
theorem jobsEnd : Obligations.JobsEnd := by
  intro s q d j defined held
  dsimp only
  have entries : ((s.pages.get q).job.map Job.entries).getD [] = j.entries := by rw [held]; rfl
  have edition : ((s.page q).job.map Job.edition).getD 0 = j.edition := by rw [page_def, held]; rfl
  refine ⟨?_, fun reason => ?_⟩
  · obtain ⟨wall, -, -, -, -, -, -, -, -, groups, -⟩ := s.endJob_fields q
      { s.page q with lastSent := j.edition, state := if j.edition = s.clock.edition then .sent else .making }
    unfold completePage
    dsimp only
    rw [edition, notice_eq wall, pageOwnerPort_eq defined groups, endJob_eq, entries]
    rfl
  · obtain ⟨wall, -, -, -, -, -, -, -, -, groups, -⟩ := s.endJob_fields q { s.page q with state := .faulted }
    unfold faultPage
    dsimp only
    have control (p : PortId) : (s.endJob q { s.page q with state := .faulted }).isControl p = (s.groups.ports.privilege.get p == .control) := by
      rw [isControl, groups]
    simp only [edition, notice_eq wall, pageOwnerPort_eq defined groups, control]
    rw [endJob_eq, entries]
    rfl

end Sys2Proof.Machine
end

section
/-! SUPPORT. Snapshots, their pins, and a page's place in the queue (spec/07 R123, R125). -/

namespace Sys2Proof.Machine

/-- A slot with a pin more on each version for each entry that captured it (R31, R123). -/
def Slot.pinned (x : Slot) (i : SlotId) (entries : List Entry) : Slot :=
  { x with
    story := x.story.map fun st =>
      { st with
        versions := st.versions.map fun v =>
          { v with pins := v.pins + entries.countP fun e => e.handle == { slot := i, gen := x.gen } && e.version == some v.number } } }

theorem Slot.pinned_nil (x : Slot) (i : SlotId) : x.pinned i [] = x := by
  obtain ⟨gen, story⟩ := x
  cases story with
  | none => rfl
  | some st => simp [pinned]

theorem Slot.pinned_cons (x : Slot) (i : SlotId) (e : Entry) (l : List Entry) : x.pinned i (e :: l) = (x.pinned i [e]).pinned i l := by
  obtain ⟨gen, story⟩ := x
  cases story with
  | none => rfl
  | some st =>
    simp only [pinned, Option.map_some, List.map_map, Function.comp_def, List.countP_cons, List.countP_nil, Nat.zero_add]
    simp only [Nat.add_assoc, Nat.add_comm]

theorem Slot.pinned_of_none {e : Entry} (omitted : e.version = none) (x : Slot) (i : SlotId) : x.pinned i [e] = x := by
  obtain ⟨gen, story⟩ := x
  cases story with
  | none => rfl
  | some st => simp [pinned, omitted]

/-- What a snapshot reads of a story: neither its pins nor its marks. -/
theorem entryOf_pinned (pl : Placement) (x : Option Story) (f : Version → Nat) :
    entryOf pl (x.map fun st => { st with versions := st.versions.map fun v => { v with pins := f v } }) = entryOf pl x := by
  cases x with
  | none => rfl
  | some st =>
    simp only [entryOf, Option.map_some, Story.current, List.getLast?_map]
    cases st.versions.getLast? <;> cases st.status <;> rfl

namespace Switch

/-- The pin that one entry of a snapshot takes. -/
def takePin (s : Switch) (e : Entry) : Switch :=
  match e.version with
  | none => s
  | some n => s.pin e.handle n

theorem snapshot_cons (s : Switch) (pl : Placement) (l : List Placement) : s.snapshot (pl :: l) =
    (((s.takePin (entryOf pl (s.story pl.handle))).snapshot l).1,
      entryOf pl (s.story pl.handle) :: ((s.takePin (entryOf pl (s.story pl.handle))).snapshot l).2) := rfl

theorem takePin_slot (s : Switch) (pl : Placement) (i : SlotId) : (s.takePin (entryOf pl (s.story pl.handle))).slots.get i =
    (s.slots.get i).pinned i [entryOf pl (s.story pl.handle)] := by
  unfold takePin
  split
  · rename_i omitted
    rw [Slot.pinned_of_none omitted]
  · rename_i n captured
    obtain ⟨st, v, found, -, -, handle⟩ := PinsOn.entryOf_version captured
    obtain ⟨gen, own⟩ := story_eq_some.1 found
    rw [handle, pin, PinsOn.modifyVersions_eq found]
    simp only [changedSlots, Bank.get_set]
    split
    · rename_i here
      subst here
      simp only [Slot.pinned, own, Option.map_some, changeVersion, List.countP_cons, List.countP_nil, captured, handle, gen]
      congr 3
      refine List.map_congr_left fun w _ => ?_
      by_cases same : w.number = n
      · simp [same]
      · simp [same, Ne.symm same]
    · rename_i elsewhere
      have other : ((entryOf pl (s.story pl.handle)).handle == { slot := i, gen := (s.slots.get i).gen }) = false := by
        rw [handle]
        refine beq_eq_false_iff_ne.2 fun e => elsewhere ?_
        rw [e]
      generalize s.slots.get i = x at other
      obtain ⟨gen', story'⟩ := x
      cases story' with
      | none => rfl
      | some st' => simp [Slot.pinned, other]

theorem story_of_pinned {s t : Switch} {entries : List Entry} (slots : ∀ i, t.slots.get i = (s.slots.get i).pinned i entries) (k : Handle) :
    ∃ f : Version → Nat, t.story k = (s.story k).map fun st => { st with versions := st.versions.map fun v => { v with pins := f v } } := by
  refine ⟨fun v => v.pins + entries.countP fun e =>
    e.handle == { slot := k.slot, gen := (s.slots.get k.slot).gen } && e.version == some v.number, ?_⟩
  unfold story
  rw [slot_def, slot_def, slots]
  by_cases gen : (s.slots.get k.slot).gen = k.gen
  · rw [if_pos gen]
    exact if_pos gen
  · rw [if_neg gen]
    exact if_neg gen

/-- A snapshot's entries are its layout's, and each has left its pin (R123). -/
theorem snapshot_closed (l : List Placement) : ∀ s : Switch, (s.snapshot l).2 = l.map (fun pl => entryOf pl (s.story pl.handle)) ∧
    ∀ i, (s.snapshot l).1.slots.get i = (s.slots.get i).pinned i (s.snapshot l).2 := by
  induction l with
  | nil => exact fun s => ⟨rfl, fun i => (Slot.pinned_nil _ i).symm⟩
  | cons pl l ih =>
    intro s
    obtain ⟨entries, slots⟩ := ih (s.takePin (entryOf pl (s.story pl.handle)))
    have taken := s.takePin_slot pl
    rw [snapshot_cons]
    refine ⟨?_, fun i => ?_⟩
    · change _ :: _ = _ :: _
      rw [entries]
      refine congrArg (_ :: ·) (List.map_congr_left fun pl' _ => ?_)
      obtain ⟨f, e⟩ := story_of_pinned taken pl'.handle
      rw [e, entryOf_pinned]
    · rw [slots, taken, ← Slot.pinned_cons]

/-- A snapshot reads and changes the slots alone. -/
theorem snapshot_congr {s t : Switch} (same : t.slots = s.slots) (l : List Placement) :
    (t.snapshot l).2 = (s.snapshot l).2 ∧ (t.snapshot l).1.slots = (s.snapshot l).1.slots := by
  have entries : (t.snapshot l).2 = (s.snapshot l).2 := by
    rw [(snapshot_closed l t).1, (snapshot_closed l s).1]
    unfold story slot
    rw [same]
  refine ⟨entries, Bank.ext_get fun i => ?_⟩
  rw [(snapshot_closed l t).2, (snapshot_closed l s).2, same, entries]

/-- A page placed in a queue whose standings do not fall stands after every page it does not precede. -/
theorem enqueue_splits_of_rank (s : Switch) (q : PageId) {l : List PageId}
    (ordered : l.Pairwise fun a b => ¬rankBefore (s.queueRank b) (s.queueRank a) = true) :
    ∃ before after, l = before ++ after ∧ s.enqueue q l = before ++ q :: after ∧
      (∀ x ∈ before, ¬rankBefore (s.queueRank q) (s.queueRank x) = true) ∧ ∀ x ∈ after, rankBefore (s.queueRank q) (s.queueRank x) = true := by
  induction l with
  | nil => exact ⟨[], [], rfl, rfl, nofun, nofun⟩
  | cons x l ih =>
    obtain ⟨first, rest⟩ := List.pairwise_cons.1 ordered
    by_cases precedes : rankBefore (s.queueRank q) (s.queueRank x) = true
    · refine ⟨[], x :: l, rfl, if_pos precedes, nofun, List.forall_mem_cons.2 ⟨precedes, fun y hy => ?_⟩⟩
      have follows := first y hy
      rw [rankBefore_iff] at precedes follows ⊢
      omega
    · obtain ⟨before, after, rfl, inserted, higher, lower⟩ := ih rest
      refine ⟨x :: before, after, rfl, ?_, List.forall_mem_cons.2 ⟨precedes, higher⟩, lower⟩
      rw [enqueue, if_neg precedes, inserted]
      rfl

end Switch

open Switch in
/-- Settles O29: the snapshot's closed form, and the place of a page in a queue that stands in order. -/
theorem snapshotsPinAndPagesQueue : Obligations.SnapshotsPinAndPagesQueue := by
  refine ⟨fun s layout => ?_, fun s q queue => ?_⟩
  · obtain ⟨entries, slots⟩ := snapshot_closed layout s
    refine ⟨entries.trans (List.map_congr_left fun pl _ => ?_), s.snapshot_fst layout, slots⟩
    cases s.story pl.handle with
    | none => rfl
    | some st =>
      simp only [entryOf, Story.current]
      cases st.versions.getLast? <;> cases st.status <;> rfl
  · intro standing precedes order
    have rank (k : PageId) : s.queueRank k = standing k := rfl
    have before (k k' : PageId) : rankBefore (s.queueRank k) (s.queueRank k') = true ↔ precedes k k' := by
      rw [rankBefore_iff, rank, rank]
    obtain ⟨l, r, split, placed, higher, lower⟩ := s.enqueue_splits_of_rank q (order.imp fun h => by rwa [before])
    exact ⟨l, r, split, placed, fun k hk => by rw [← before]; exact higher k hk, fun k hk => (before _ _).1 (lower k hk)⟩

end Sys2Proof.Machine
end

section
/-! SUPPORT. A command taken with its parameters in range: what it answers, what stream it opens, and what it leaves to the eased test
(spec/09 R155, R156); and the page commands (spec/07). -/

namespace Sys2Proof.Machine

namespace State

variable {s : State} {h : Head} {c : Cmd} {a : Option α} {x : α} {body : α → Switch → Switch}

/-- A command whose whole work is a change of the state and one reply. -/
theorem answers (taken : s.sw.takes h c) (checked : a = some x) {w : Switch} {code : Code} {values : List Byte}
    (does : body x s.sw.quietly = w.quietly.answer h code values) : s.command h c a body = .next { s with sw := w.replied h code values } := by
  rw [checked]
  exact s.command_replied h c x body code values w taken does

/-- A command whose whole work is to refuse. -/
theorem refuses (taken : s.sw.takes h c) (checked : a = some x) {code : Code} (does : body x s.sw.quietly = s.sw.quietly.refuse h code) :
    s.command h c a body = .next { s with sw := s.sw.replied h code [] } := answers taken checked does

/-- A command whose whole work is a change of the state and a result stream. -/
theorem streams (taken : s.sw.takes h c) (checked : a = some x) {w : Switch} {values : List Byte} {y : Stream}
    (does : body x s.sw.quietly = w.quietly.openStream h c values y) : s.command h c a body = .next { s with sw := w.streaming h c values y } := by
  rw [checked]
  exact s.command_streaming h c x body values y w taken does

/-- A command's work, with the eased test still to make. -/
theorem eases (taken : s.sw.takes h c) (checked : a = some x) {w : Switch} (does : body x s.sw.quietly = w) :
    s.command h c a body = .next { s with sw := w.easedTest } := by
  rw [checked, s.command_some h c x body taken, does]

/-- A command that returns no block. -/
theorem acts (taken : s.sw.takes h c) (checked : a = some x) {w : Switch} (does : body x s.sw.quietly = w) (kept : w.last.released = false) :
    s.command h c a body = .next { s with sw := w } := by
  rw [eases taken checked does, Switch.easedTest_idle _ kept]

end State

theorem below_eq {n : Nat} {b : BitVec w} {i : Fin n} (h : b.toNat = i.val) : below n b = some i := by
  unfold below
  rw [finOf?_eq_some]
  exact h.symm

namespace Switch

theorem onPage_of_right {s : Switch} {h : Head} {q : PageId} {d : PageDef} (defined : s.groups.clock.pages.get q = some d)
    (right : s.hasRight h.port d.owner) (k : PageDef → Switch) : s.onPage h q k = k d := by
  unfold onPage
  rw [pageDef_def, defined]
  exact withRight_of_hasRight right _

/-! ### RECALL (R127) -/

theorem voidAttempt_of_flying {s : Switch} {q : PageId} {edition : Nat} {l : LinkId} {links : PerLink Link} {pace : Pace} {wall : Word32}
    (hactive : s.active = l) (hlinks : s.links = links) (hpace : s.pace = pace) (hwall : s.wall = wall) (page : (links.get l).page = some q)
    (flying : (links.get l).engine = .presenting ∨ (links.get l).engine = .awaiting) : s.voidAttempt q edition =
      { s with
        links := links.set l
          { links.get l with
            engine := .voiding, page := none, taken := 0, trailerTaken := 0, voided := some (q, edition), progress := wall }
        pace := { pace with window := none } } := by
  subst hactive hlinks hpace hwall
  exact if_pos ⟨page, flying⟩

end Switch

open Switch in
/-- Settles O31: the job ends as any job does, and the void order finds the link as the job's end leaves it. -/
theorem recallFreesThePage : Obligations.RecallFreesThePage := by
  intro s h b q d taken number defined right
  have work (k : PageDef → Switch) : s.sw.quietly.onPage h q k = k d := onPage_of_right (s := s.sw.quietly) defined right k
  have ended := endJob_eq s.sw.quietly q { s.sw.pages.get q with state := .making }
  obtain ⟨wall, -, -, -, -, links, active, pace, -⟩ := s.sw.quietly.endJob_fields q { s.sw.pages.get q with state := .making }
  dsimp only
  refine ⟨fun queued => ?_, fun sending page flying => ?_, fun idle => ?_⟩
  · refine State.eases taken (below_eq number) ?_
    rw [recallCommand, work]
    dsimp only
    rw [show (s.sw.quietly.page q).state = .queued from queued]
    exact congrArg (fun w : Switch => w.answer h .ok []) ended
  · refine State.eases taken (below_eq number) ?_
    rw [recallCommand, work]
    dsimp only
    rw [show (s.sw.quietly.page q).state = .sending from sending]
    refine congrArg (fun w : Switch => w.answer h .ok []) ?_
    rw [show s.sw.quietly.page q = s.sw.pages.get q from rfl, voidAttempt_of_flying active links pace wall page flying, ended]
    rfl
  · refine State.refuses taken (below_eq number) ?_
    rw [recallCommand, work]
    dsimp only
    rcases idle with e | e | e
    all_goals rw [show (s.sw.quietly.page q).state = _ from e]

namespace Switch

/-! ### RELEASE (R122 to R126) -/

/-- A page's job replaced in place (R126). -/
def reReleasing (s : Switch) (q : PageId) (d : PageDef) (old : Job) (entries : List Entry) : Page :=
  { s.pages.get q with
    job := some
      { old with
        entries := entries, edition := s.clock.edition, length := jobLength entries, attempts := 0, stamp := s.wall
        label := d.label, owner := d.owner, binding := d.binding } }

theorem reRelease_eq (s : Switch) (q : PageId) (d : PageDef) (old : Job) : s.reRelease q d old =
    { ((s.releasePins old.entries).snapshot (s.pages.get q).layout).1 with
      pages := s.pages.set q
        (s.reReleasing q d old ((s.releasePins old.entries).snapshot (s.pages.get q).layout).2) } := by
  have frame := releasePins_frame s old.entries
  unfold reRelease reReleasing
  dsimp only
  rw [page_def, frame.pages]
  have shape := (s.releasePins old.entries).snapshot_fst (s.pages.get q).layout
  generalize (s.releasePins old.entries).snapshot (s.pages.get q).layout = snap at shape
  obtain ⟨t, entries⟩ := snap
  dsimp only at shape ⊢
  have pages : t.pages = s.pages := by rw [shape]; exact frame.pages
  have clock : t.clock = s.clock := by rw [shape]; exact frame.clock
  have wall : t.wall = s.wall := by rw [shape]; exact frame.wall
  unfold setPage
  rw [page_def, pages, clock, wall]

theorem omittedCount_eq (entries : List Entry) : omittedCount entries = entries.countP fun e => e.version.isNone :=
  (List.countP_eq_length_filter ..).symm

theorem releaseValues_of_job {s : Switch} {q : PageId} {j : Job} (held : (s.pages.get q).job = some j) : s.releaseValues q =
    be32 j.length ++ [byte j.edition, byte (j.entries.countP fun e => e.version.isNone), byte (s.queue.idxOf q + 1)] := by
  unfold releaseValues
  rw [page_def, held, ← omittedCount_eq]
  rfl

theorem quietly_releasePage (s : Switch) (q : PageId) (d : PageDef) (rush : Bool) :
    s.quietly.releasePage q d rush = (s.releasePage q d rush).quietly := by
  obtain ⟨entries, slots⟩ := snapshot_congr (s := s) (t := s.quietly) rfl (s.page q).layout
  have releasing : s.quietly.releasing q d rush = (s.releasing q d rush).quietly := by
    unfold Switch.releasing
    rw [show s.quietly.page q = s.page q from rfl, entries, slots]
    rfl
  have places (w : Switch) (l : List PageId) : w.quietly.enqueue q l = w.enqueue q l := by
    induction l with
    | nil => rfl
    | cons k l ih =>
      unfold enqueue
      rw [ih]
      rfl
  rw [releasePage_eq_releasing, releasePage_eq_releasing, releasing, places]
  rfl

theorem releasePage_job (s : Switch) (q : PageId) (d : PageDef) (rush : Bool) : ((s.releasePage q d rush).pages.get q).job =
    some (s.releaseJob d rush (s.snapshot (s.page q).layout).2) := by
  rw [releasePage_eq_releasing]
  change ((s.pages.set q _).get q).job = _
  rw [Bank.get_set_same]

end Switch

open Switch in
/-- Settles O28: the page's state decides between a new job, a job replaced in place and the refusals. -/
theorem releaseFormsTheJob : Obligations.ReleaseFormsTheJob := by
  refine ⟨fun s q d rush => ?_, fun s h a q rush d taken checked defined right => ?_⟩
  · dsimp only
    rw [releasePage_eq_releasing, s.snapshot_fst]
    rfl
  · have work : releaseCommand h (q, rush) s.sw.quietly =
        if (s.sw.pages.get q).state = .sending then s.sw.quietly.refuse h .pageBusy
        else if (s.sw.pages.get q).layout.isEmpty then s.sw.quietly.refuse h .emptyPage
        else
          match (s.sw.pages.get q).state, (s.sw.pages.get q).job with
          | .queued, some old => (s.sw.quietly.reRelease q d old).answerRelease h q
          | _, _ => s.sw.quietly.releaseNew h q d rush :=
      onPage_of_right (s := s.sw.quietly) defined right _
    dsimp only
    refine ⟨fun sending => ?_, fun notSending empty => ?_, fun notSending notQueued laid => ?_, fun old queued laid held => ?_⟩
    · exact State.refuses taken checked (by rw [work, if_pos sending])
    · exact State.refuses taken checked (by rw [work, if_neg notSending, if_pos (by simp [empty])])
    · have new : releaseCommand h (q, rush) s.sw.quietly = s.sw.quietly.releaseNew h q d rush := by
        rw [work, if_neg notSending, if_neg (by simpa using laid)]
        split
        · rename_i state _
          exact absurd state notQueued
        · rfl
      have places : s.sw.quietly.placesHeld = s.sw.queue.length + if s.sw.sending = none then 0 else 1 := by
        unfold placesHeld
        cases sending : s.sw.sending <;> simp [sending]
      refine ⟨fun full => ?_, fun room => ⟨_, releasePage_job _ _ _ _, ?_⟩⟩
      · exact State.refuses taken checked (by rw [new, releaseNew, if_neg (by rw [places]; exact Nat.not_lt_of_le full)])
      · refine State.answers taken checked ?_
        rw [new, releaseNew, if_pos (by rw [places]; exact room), quietly_releasePage, answerRelease,
          releaseValues_of_job (s := (s.sw.releasePage q d rush).quietly) (s.sw.releasePage_job q d rush)]
        rfl
    · have again : releaseCommand h (q, rush) s.sw.quietly = (s.sw.quietly.reRelease q d old).answerRelease h q := by
        rw [work, if_neg (by rw [queued]; nofun), if_neg (by simpa using laid)]
        rw [queued, held]
      refine State.eases taken checked ?_
      have frame := releasePins_frame s.sw.quietly old.entries
      have shape := (s.sw.quietly.releasePins old.entries).snapshot_fst (s.sw.pages.get q).layout
      rw [again, answerRelease, reRelease_eq]
      generalize s.sw.quietly.releasePins old.entries = t at frame shape
      rw [show s.sw.quietly.pages.get q = s.sw.pages.get q from rfl]
      generalize t.snapshot (s.sw.pages.get q).layout = snap at shape
      obtain ⟨u, entries⟩ := snap
      dsimp only at shape ⊢
      have ports : u.ports = s.sw.ports := by rw [shape]; exact frame.ports
      have queue : u.queue = s.sw.queue := by rw [shape]; exact frame.queue
      have sent : u.last.sent = [] := by rw [shape]; exact frame.sent
      have job : ({ u with pages := s.sw.quietly.pages.set q (s.sw.quietly.reReleasing q d old entries) } : Switch).releaseValues q = _ :=
        releaseValues_of_job (by simp only [Bank.get_set_same]; rfl)
      rw [job, answer_eq, creditedPorts, creditedPorts, ports, queue, sent]
      rfl

end Sys2Proof.Machine
end

section
/-! SUPPORT. The page commands: definitions and layouts (spec/07 R119 to R121). -/

namespace Sys2Proof.Machine

theorem insertIdx_eq_take_append (x : α) : ∀ (l : List α) (i : Nat), i ≤ l.length → l.insertIdx i x = l.take i ++ x :: l.drop i
  | _, 0, _ => rfl
  | [], i + 1, h => absurd h (Nat.not_succ_le_zero i)
  | y :: l, i + 1, h => by
    rw [List.insertIdx_succ_cons, insertIdx_eq_take_append x l i (Nat.le_of_succ_le_succ h)]
    rfl

namespace Switch

theorem labelHeldElsewhere_iff (s : Switch) (q : PageId) (l : Label) :
    s.labelHeldElsewhere q l = true ↔ ∃ k d, k ≠ q ∧ s.groups.clock.pages.get k = some d ∧ d.label = l := by
  unfold labelHeldElsewhere
  rw [List.any_eq_true]
  constructor
  · rintro ⟨k, hk, other⟩
    rw [Bank.mem_indices] at hk
    cases defined : s.groups.clock.pages.get k with
    | none => simp [defined] at hk
    | some d => exact ⟨k, d, by simpa using other, defined, by simpa [defined] using hk⟩
  · rintro ⟨k, d, other, defined, label⟩
    exact ⟨k, (Bank.mem_indices _ _ _).2 (by simp [defined, label]), by simpa using other⟩

theorem layOut_eq (s : Switch) (h : Head) (q : PageId) (layout : List Placement) : s.quietly.layOut h q layout =
    (({ s with pages := s.pages.set q { s.pages.get q with layout := layout } } : Switch).judgeGroups s).quietly.answer h .ok
      [byte layout.length] := rfl

end Switch

open Switch in
/-- Settles O27: each command is its checks and one change of the page table, and the groups are judged against what they were. -/
theorem pagesAreDefinedAndLaidOut : Obligations.PagesAreDefinedAndLaidOut := by
  refine ⟨fun s h a q d taken checked => ?_, fun s h a q taken checked => ?_, fun s h a c d st taken checked defined right found => ?_,
    fun s h a q i d taken checked defined right => ?_⟩
  · dsimp only
    refine ⟨fun held => ?_, fun free => ?_⟩
    · exact State.refuses taken checked (if_pos ((labelHeldElsewhere_iff s.sw.quietly q d.label).2 held))
    · have notHeld : ¬s.sw.quietly.labelHeldElsewhere q d.label = true := fun held => by
        obtain ⟨k, d', other, defined, label⟩ := (labelHeldElsewhere_iff _ _ _).1 held
        exact free k d' other defined label
      refine State.answers taken checked ((if_neg notHeld).trans ?_)
      cases defined : s.sw.groups.clock.pages.get q with
      | none => simp [pageDef_def, defined]; rfl
      | some d' => simp [pageDef_def, defined]; rfl
  · dsimp only
    split
    · rename_i undefined
      refine State.answers (w := s.sw) taken checked ((if_pos ?_).trans rfl)
      simp [pageDef_def, undefined]
    · rename_i defined
      have notNone : ¬(s.sw.quietly.pageDef q).isNone = true := by simpa [pageDef_def] using defined
      split
      · rename_i making
        exact State.answers taken checked ((if_neg notNone).trans ((if_pos making).trans rfl))
      · rename_i busy
        exact State.refuses taken checked ((if_neg notNone).trans (if_neg busy))
  · dsimp only
    intro fits room
    refine State.answers taken checked ?_
    have page : placeCommand h c s.sw.quietly = s.sw.quietly.layOut h c.page
        ((s.sw.pages.get c.page).layout.insertIdx (c.position.getD (s.sw.pages.get c.page).layout.length) { handle := c.handle, frame := c.frame }) := by
      refine (if_neg (Nat.not_lt_of_le fits)).trans ?_
      rw [onPage_of_right (s := s.sw.quietly) defined right, onStory_some (s := s.sw.quietly) found]
      exact if_neg (Nat.not_le_of_lt room)
    rw [page, layOut_eq, List.length_insertIdx_of_le_length fits, insertIdx_eq_take_append _ _ _ fits]
  · dsimp only
    intro fits
    refine State.answers taken checked ?_
    have page : unplaceCommand h (q, i) s.sw.quietly = s.sw.quietly.layOut h q ((s.sw.pages.get q).layout.eraseIdx i) := by
      refine (if_neg (Nat.not_le_of_lt fits)).trans ?_
      rw [onPage_of_right (s := s.sw.quietly) defined right]
      rfl
    rw [page, layOut_eq, List.length_eraseIdx_of_lt fits, List.eraseIdx_eq_take_drop_succ]

end Sys2Proof.Machine
end

section
/-! SUPPORT. Uploads opened by FILE and CHECKIN, READ, the status commands and CHECKOUT, RENEW and ABANDON (spec/01 to spec/03, spec/09, spec/10). -/

namespace Sys2Proof.Machine

namespace Switch

/-! ### Reservations and uploads opened (R7, R23, R32, R46) -/

theorem reserve_cases (s : Switch) (n : Nat) : s.reserve n =
    if s.store.freeCount - (s.store.reserved + n) < s.groups.store.low ∧ s.store.tight = false then
      { s with
        store := { s.store with reserved := s.store.reserved + n, tight := true }
        inboxes := (s.postControl { kind := .storeTight, cls := .bulletin, stamp := s.wall }).inboxes }
    else { s with store := { s.store with reserved := s.store.reserved + n } } := rfl

theorem reserve_of_low {s : Switch} {n : Nat}
    (low : s.store.freeCount - (s.store.reserved + n) < s.groups.store.low ∧ s.store.tight = false) : s.reserve n =
      { s with
        store := { s.store with reserved := s.store.reserved + n, tight := true }
        inboxes := (s.postControl { kind := .storeTight, cls := .bulletin, stamp := s.wall }).inboxes } := if_pos low

theorem reserve_of_room {s : Switch} {n : Nat}
    (room : ¬(s.store.freeCount - (s.store.reserved + n) < s.groups.store.low ∧ s.store.tight = false)) : s.reserve n =
      { s with store := { s.store with reserved := s.store.reserved + n } } := if_neg room

theorem opening_eq (s : Switch) (i : SlotId) (st : Story) (p : PortId) (u : Upload) : s.opening i st p u =
    { s.reserve u.remaining with
      slots := s.slots.set i { s.slots.get i with story := some st }
      uploads := s.uploads.set p (some u) } := by
  unfold opening
  rw [reserve_cases, reserve_cases]
  by_cases tight : s.store.freeCount - (s.store.reserved + u.remaining) < s.groups.store.low ∧ s.store.tight = false
  · rw [if_pos tight]
    exact if_pos tight
  · rw [if_neg tight]
    exact if_neg tight

theorem reserve_released (s : Switch) (n : Nat) : (s.reserve n).last = s.last := by
  rw [reserve_cases]
  split <;> rfl

theorem reserve_ports (s : Switch) (n : Nat) : (s.reserve n).ports = s.ports := by
  rw [reserve_cases]
  split <;> rfl

theorem reserve_wall (s : Switch) (n : Nat) : (s.reserve n).wall = s.wall := by
  rw [reserve_cases]
  split <;> rfl

/-- What an upload's opening leaves when its port goes on to the data phase. -/
theorem opening_openDataPhase (s : Switch) (i : SlotId) (st : Story) (h : Head) (u : Upload) (c : Cmd) :
    (s.opening i st h.port u).openDataPhase h c =
      { s.reserve u.remaining with
        slots := s.slots.set i { s.slots.get i with story := some st }
        uploads := s.uploads.set h.port (some u)
        ports := s.ports.set h.port
          { s.ports.get h.port with phase := .command, running := some { tag := h.tag, cmd := c }, dataStart := s.wall } } := by
  rw [opening_eq, ← reserve_ports s u.remaining, ← reserve_wall s u.remaining]
  rfl

/-- The victim's mark, version by version (R29). -/
theorem markedVersions_eq (st : Story) (victim : Option Version) : StoreInOrder.markedVersions st victim =
    st.versions.map fun v => if victim.map Version.number = some v.number then { v with retiring := true } else v := by
  cases victim with
  | none => exact (List.map_id _).symm
  | some x =>
    refine List.map_congr_left fun v _ => ?_
    by_cases same : v.number = x.number
    · exact (if_pos (beq_iff_eq.2 same)).trans (if_pos (congrArg some same.symm)).symm
    · exact (if_neg fun e => same (beq_iff_eq.1 e)).trans (if_neg fun e => same (Option.some.inj e).symm).symm

theorem lowestVacant_eq {s : Switch} {i : SlotId} (vacant : (s.slots.get i).story = none) (lowest : ∀ j, j < i → (s.slots.get j).story ≠ none) :
    s.lowestVacant = some i := by
  refine (Bank.head?_indices_eq_some _ _ _).2 ⟨by rw [vacant]; rfl, fun j hj => ?_⟩
  simpa using Option.isSome_iff_ne_none.2 (lowest j hj)

theorem lowestVacant_eq_none {s : Switch} (taken : ∀ j, (s.slots.get j).story ≠ none) : s.lowestVacant = none := by
  refine (Bank.head?_indices_eq_none _ _).2 fun j => ?_
  simpa using Option.isSome_iff_ne_none.2 (taken j)

theorem tooTightFor_iff (s : Switch) (u : Urgency) : s.tooTightFor u = true ↔ s.store.tight = true ∧ u = .routine := by
  unfold tooTightFor
  simp

theorem not_guarded {s : Switch} {p : PortId} (active : (s.ports.get p).standing = .active) : ¬s.isGuarded p = true := by
  unfold isGuarded
  rw [port_def, active]
  nofun

/-- A FILE that passes every check takes its slot (R6, R7). -/
theorem fileCommand_of_checks {s : Switch} {h : Head} {f : FileParams} {i : SlotId} (active : (s.ports.get h.port).standing = .active)
    (right : s.hasRight h.port f.owner) (unheld : ∀ j st, (s.slots.get j).story = some st → st.slug ≠ f.slug)
    (vacant : (s.slots.get i).story = none) (lowest : ∀ j, j < i → (s.slots.get j).story ≠ none)
    (easy : ¬(s.store.tight = true ∧ f.urgency = .routine)) (room : blocksFor f.length ≤ s.available) :
    fileCommand h f s = s.takeFile h f i := by
  unfold fileCommand
  rw [if_neg (not_guarded active), withRight_of_hasRight right, if_neg (by rw [(slugHolder_eq_none s f.slug).2 unheld]; nofun),
    lowestVacant_eq vacant lowest]
  dsimp only
  rw [if_neg (by rwa [tooTightFor_iff]), if_neg (Nat.not_lt_of_le room)]

theorem asHolder_of_lock {s : Switch} {h : Head} {screen : ScreenNo} {st : Story} {l : Lock} (opened : st.status = .opened l)
    (holder : l.holder = { port := h.port, number := screen }) (k : Lock → Switch) : s.asHolder h screen st k = k l := by
  unfold asHolder
  rw [opened]
  exact if_pos holder

theorem asHolder_of_other {s : Switch} {h : Head} {screen : ScreenNo} {st : Story}
    (other : ∀ l, st.status = .opened l → l.holder ≠ { port := h.port, number := screen }) (k : Lock → Switch) :
    s.asHolder h screen st k = s.refuse h .notHolder := by
  unfold asHolder
  split
  · rename_i l opened
    exact if_neg (other l opened)
  all_goals rfl

end Switch

open Switch in
/-- Settles O6: the checks pass in their order, and what opens is one slot, one record, one reservation and the port's data phase. -/
theorem fileOpensItsDataPhase : Obligations.FileOpensItsDataPhase := by
  intro s h a f i checked taken active right unheld vacant lowest easy text room
  have opens : fileCommand h f s.sw.quietly =
      (s.sw.quietly.opening i (fileStory f) h.port (fileUpload h f (s.sw.quietly.handleAt i))).openDataPhase h .file :=
    (fileCommand_of_checks (s := s.sw.quietly) active right unheld vacant lowest easy room).trans (if_neg (Nat.ne_of_gt text))
  dsimp only
  refine State.acts taken checked (opens.trans ?_) ?_
  · rw [opening_eq]
    split
    · rename_i low
      rw [reserve_of_low (s := s.sw.quietly) (n := (fileUpload h f (s.sw.quietly.handleAt i)).remaining) low]
      rfl
    · rename_i high
      rw [reserve_of_room (s := s.sw.quietly) (n := (fileUpload h f (s.sw.quietly.handleAt i)).remaining) high]
      rfl
  · split <;> rfl

open Switch in
/-- Settles O14: the same opening, on a story whose holder sends the next version. -/
theorem checkinOpensItsDataPhase : Obligations.CheckinOpensItsDataPhase := by
  refine ⟨fun s h a c st l checked taken found opened holder easy text room => ?_, fun s n => reserve_cases s n⟩
  dsimp only
  intro ready
  have before : checkinCommand h c s.sw.quietly =
      if st.versions.length = 4 then
        match st.victim with
        | none => s.sw.quietly.refuse h .versionsPinned
        | some v => s.sw.quietly.takeCheckin h c st l (some v)
      else s.sw.quietly.takeCheckin h c st l none := by
    refine (onStory_some (s := s.sw.quietly) found h _).trans ((asHolder_of_lock opened holder _).trans ?_)
    exact (if_neg (by rwa [tooTightFor_iff])).trans
      (if_neg (show ¬s.sw.quietly.available < blocksFor c.length from Nat.not_lt_of_le room))
  have opens (victim : Option Version) : s.sw.quietly.takeCheckin h c st l victim =
      { s.sw.quietly.reserve ((c.length + 511) / 512) with
        slots := (s.sw.setStory c.handle.slot
          { st with
            status := .opened { l with suspended := true }
            versions := st.versions.map fun v => if victim.map Version.number = some v.number then { v with retiring := true } else v }).slots
        uploads := s.sw.uploads.set h.port
          (some
            { kind := .checkin c.keep, handle := c.handle, declared := c.length, taken := 0, staging := [],
              remaining := (c.length + 511) / 512, victim := victim.map Version.number, mode := .filling, author := l.holder })
        ports := s.sw.ports.set h.port
          { s.sw.ports.get h.port with
            phase := .command, running := some { tag := h.tag, cmd := .checkin }, dataStart := s.sw.wall } } := by
    have upload : checkinUpload h c victim = { checkinUpload h c victim with author := l.holder } := by rw [holder]; rfl
    rw [StoreInOrder.takeCheckin_eq, if_neg (Nat.ne_of_gt text), opening_openDataPhase, ← markedVersions_eq, upload]
    rfl
  have kept : (s.sw.quietly.reserve ((c.length + 511) / 512)).last.released = false := by rw [reserve_released]; rfl
  by_cases full : st.versions.length = 4
  · rw [if_pos full] at ready ⊢
    obtain ⟨v, victim⟩ := Option.ne_none_iff_exists'.1 (ready full)
    refine State.acts taken checked ?_ kept
    rw [before, if_pos full, show st.victim = some v from victim, victim]
    exact opens (some v)
  · rw [if_neg full]
    refine State.acts taken checked ?_ kept
    rw [before, if_neg full]
    exact opens none

end Sys2Proof.Machine
end

section
/-! SUPPORT. The status commands, READ and the locks a screen takes and lets go (spec/02, spec/03, spec/10, spec/12). -/

namespace Sys2Proof.Machine

theorem changeVersion_eq (n : Nat) (f : Version → Version) (l : List Version) :
    changeVersion n f l = l.map fun v => if v.number = n then f v else v := by
  unfold changeVersion
  simp only [beq_iff_eq]

namespace Switch

/-! ### Reports of STORE STATUS, PORT STATUS and IDENTIFY (R37, R166, R173) -/

theorem pinnedVersions_eq (s : Switch) : s.pinnedVersions =
    (s.slots.cells.flatMap fun x => (x.story.map Story.versions).getD []).countP fun v => v.pins != 0 := by
  rw [List.countP_flatMap]
  refine congrArg List.sum (List.map_congr_left fun x _ => ?_)
  cases story : x.story with
  | none => simp [story]
  | some st => simp [story, List.countP_eq_length_filter]

theorem desk_records_eq (l : List DeskId) : records l (fun d => [byte d.val]) = [byte l.length] ++ l.map fun d => byte d.val := by
  unfold records
  exact congrArg _ List.map_eq_flatMap.symm

theorem portReport_eq (s : Switch) (caller p : PortId) : s.portReport caller p =
    [if p = caller then Phase.executing.number else (s.ports.get p).phase.number] ++
      (if p = caller then [1, Cmd.code .portStatus]
       else match (s.ports.get p).running with | none => [0] | some r => [1, Cmd.code r.cmd]) ++
      [byte (s.ports.get p).faults, (s.ports.get p).standing.number, byte (s.inboxes.get p).notices.length, byte (s.inboxes.get p).lost,
        (s.groups.ports.privilege.get p).number] ++
      [byte ((allBelow 16).filter fun d => s.groups.ports.serving.get d == some p).length] ++
      ((allBelow 16).filter fun d => s.groups.ports.serving.get d == some p).map (fun d => byte d.val) ++
      [yesNo (s.ports.get p).holdLine, yesNo (s.ports.get p).resetLine] := by
  unfold portReport
  dsimp only
  rw [desk_records_eq, Phase.byte_eq, Standing.byte_eq, Privilege.byte_eq]
  by_cases own : p = caller
  · rw [if_pos own, if_pos own, if_pos own, if_pos own]
    simp only [List.append_assoc]
    rfl
  · rw [if_neg own, if_neg own, if_neg own, if_neg own, port_def]
    cases (s.ports.get p).running
    all_goals
      simp only [List.append_assoc]
      rfl

theorem identifyReport_eq (s : Switch) : s.identifyReport =
    [60, Config.revisionLetter, s.cause.number, if s.defaulted then 1 else 0] ++
      [yesNo s.holds.ports, yesNo s.holds.routing, yesNo s.holds.clock, yesNo s.holds.feed, yesNo s.holds.store] ++
      [if s.saving = none then 0 else 1] := by
  unfold identifyReport
  rw [StartCause.byte_eq]
  cases s.saving <;> rfl

theorem pin_of_story {s : Switch} {k : Handle} {st : Story} (found : s.story k = some st) (n : Nat) : s.pin k n =
    { s with
      slots := s.slots.set k.slot
        { s.slots.get k.slot with
          story := some
            { st with versions := st.versions.map fun x => if x.number = n then { x with pins := x.pins + 1 } else x } } } := by
  unfold pin Switch.modifyVersions
  rw [found]
  dsimp only
  rw [changeVersion_eq]
  rfl

end Switch

open Switch in
/-- Settles O12: each report is the reply of a command that does nothing else. -/
theorem statusesAndIdentifyReport : Obligations.StatusesAndIdentifyReport := by
  refine ⟨fun s h taken => ?_, fun s h b p taken number => ?_, fun s h taken => ?_⟩
  · rw [← pinnedVersions_eq]
    exact State.answers (w := s.sw) taken rfl rfl
  · refine Eq.trans ?_ (congrArg (fun l => Host.Outcome.next { s with sw := s.sw.replied h .ok l }) (portReport_eq s.sw h.port p))
    cases b with
    | none =>
      rw [show p = h.port from number]
      exact State.answers (w := s.sw) taken (x := none) (by rfl) (by rfl)
    | some b => exact State.answers (w := s.sw) taken (x := some p) (congrArg (Option.map some) (below_eq number)) (by rfl)
  · rw [← identifyReport_eq]
    exact State.answers (w := s.sw) taken rfl rfl

open Switch in
/-- Settles O11: the checks in their order, each with the switch as the command found it. -/
theorem readPinsItsVersion : Obligations.ReadPinsItsVersion := by
  intro s h a k n st taken checked found
  change (st.status = .filing ∨ namedVersion st n = none → _) ∧ (∀ v, st.status ≠ .filing → namedVersion st n = some v → _)
  have work : readCommand h (k, n) s.sw.quietly = _ := onStory_some (s := s.sw.quietly) found h _
  refine ⟨fun missing => State.refuses taken checked (work.trans ?_), fun v filed is => ⟨fun pending => ?_, fun waits marked => ?_,
    fun waits unmarked text => ?_, fun waits unmarked empty => ?_⟩⟩
  · rcases missing with filing | absent
    · rw [if_pos filing]
    · dsimp only
      rw [absent, ite_self]
  all_goals
    have work := work
    dsimp only at work
    rw [if_neg filed, is] at work
    dsimp only at work
  · exact State.refuses taken checked (work.trans (if_pos pending))
  · exact State.refuses taken checked (work.trans ((if_neg waits).trans (if_pos marked)))
  all_goals rw [if_neg waits, if_neg (Bool.not_eq_true _ ▸ unmarked)] at work
  · rw [if_neg (Nat.ne_of_gt text)] at work
    refine State.streams taken checked (work.trans ?_)
    refine congrArg (fun w : Switch => w.openStream h .read (be16 v.number ++ be16 v.length) (.read k v.number 0)) ?_
    exact pin_of_story (s := s.sw.quietly) found v.number
  · exact State.answers (w := s.sw) taken checked (work.trans (if_pos empty))

namespace Switch

/-! ### What a command on a story comes to, once its handle and its right are found -/

section
variable {s : State} {h : Head} {k : Handle} {st : Story} (found : s.sw.story k = some st)
include found

theorem onStory_found (f : Story → Switch) : s.sw.quietly.onStory h k f = f st := onStory_some (s := s.sw.quietly) found h f

theorem onStory_right (right : s.sw.hasRight h.port st.owner) (f : Story → Switch) :
    s.sw.quietly.onStory h k (fun st => s.sw.quietly.withRight h st.owner (f st)) = f st :=
  (onStory_found found _).trans (withRight_of_hasRight (s := s.sw.quietly) right _)

theorem onStory_lock {l : Lock} {screen : ScreenNo} (opened : st.status = .opened l) (holder : l.holder = { port := h.port, number := screen })
    (f : Story → Lock → Switch) : s.sw.quietly.onStory h k (fun st => s.sw.quietly.asHolder h screen st (f st)) = f st l :=
  (onStory_found found _).trans (asHolder_of_lock opened holder _)

theorem onStory_other {screen : ScreenNo} (other : ∀ l, st.status = .opened l → l.holder ≠ { port := h.port, number := screen })
    (f : Story → Lock → Switch) :
    s.sw.quietly.onStory h k (fun st => s.sw.quietly.asHolder h screen st (f st)) = s.sw.quietly.refuse h .notHolder :=
  (onStory_found found _).trans (asHolder_of_other other _)

end

end Switch

open Switch in
/-- Settles O13: CHECKOUT by the story's state and holder; RENEW and ABANDON by the holder alone. -/
theorem custodyPassesToAndFromAScreen : Obligations.CustodyPassesToAndFromAScreen := by
  intro s h a n k st checked found
  dsimp only
  refine ⟨fun taken active right => ?_, fun l opened holder => ⟨fun taken => ?_, fun taken => ?_⟩, fun other => ⟨fun taken => ?_, fun taken => ?_⟩⟩
  · have work : checkoutCommand h (n, k) s.sw.quietly = _ :=
      (onStory_found found _).trans ((if_neg (not_guarded active)).trans (withRight_of_hasRight (s := s.sw.quietly) right _))
    refine ⟨fun filed => State.answers taken checked (work.trans ?_), fun l opened => ⟨fun mine => State.answers taken checked (work.trans ?_),
      fun other => State.refuses taken checked (work.trans ?_)⟩⟩
    · rw [filed]
      rfl
    · rw [opened]
      exact (if_pos mine).trans (by rfl)
    · rw [opened]
      exact if_neg other
  · exact State.answers taken checked (onStory_lock found opened holder _)
  · exact State.answers taken checked (onStory_lock found opened holder _)
  · exact State.refuses taken checked (onStory_other found other _)
  · exact State.refuses taken checked (onStory_other found other _)

open Switch in
/-- Settles O10: by the story's status, and of a SPIKED story by its pins. -/
theorem purgeCompletesOrWaits : Obligations.PurgeCompletesOrWaits := by
  intro s h a k st taken checked found
  have work : purgeCommand h k s.sw.quietly = _ := onStory_found found _
  refine ⟨fun pending spiked => ?_, fun filing => State.refuses taken checked (work.trans ?_), fun other => State.refuses taken checked (work.trans ?_)⟩
  · obtain ⟨gen, own⟩ := story_eq_some.1 found
    have request := requestPurge_eq s.sw.quietly k.slot st own
    have here : s.sw.quietly.handleAt k.slot = k := by
      unfold handleAt
      exact congrArg (Handle.mk k.slot) gen
    rw [spiked] at work
    dsimp only at work
    rw [request, here] at work
    refine ⟨fun unpinned => State.eases taken checked (work.trans ?_), fun pinned => State.answers taken checked (work.trans ?_)⟩
    · rw [if_pos unpinned, purgeState, if_pos ((unpinned_iff st).2 unpinned), answer_eq]
      rfl
    · rw [if_neg pinned, purgeState, if_neg fun e => pinned ((unpinned_iff st).1 e)]
      rfl
  · rw [filing]
  · rcases other with e | ⟨l, e⟩ | ⟨o, e⟩
    all_goals rw [e]

namespace Switch

theorem unlessFilingOrSpiked_of_free {s : Switch} {h : Head} {st : Story} (filing : st.status ≠ .filing) (kept : st.status ≠ .spiked false)
    (waits : st.status ≠ .spiked true) (k : Switch) : s.unlessFilingOrSpiked h st k = k := by
  unfold unlessFilingOrSpiked
  rcases status : st.status with _ | _ | l | o | pending
  · exact absurd status filing
  · rfl
  · rfl
  · rfl
  · cases pending
    · exact absurd status kept
    · exact absurd status waits

theorem unlessFilingOrSpiked_of_busy {s : Switch} {h : Head} {st : Story}
    (busy : st.status = .filing ∨ st.status = .spiked false ∨ st.status = .spiked true) (k : Switch) :
    s.unlessFilingOrSpiked h st k = s.refuse h .storyBusy := by
  unfold unlessFilingOrSpiked
  rcases busy with e | e | e
  all_goals rw [e]

end Switch

open Switch in
/-- Settles O9: the four commands on a story's record, by its status. -/
theorem storiesAreReclassifiedRoutedSpikedAndRestored : Obligations.StoriesAreReclassifiedRoutedSpikedAndRestored := by
  refine ⟨fun s h a r st taken checked found right filing kept waits => ?_, fun s h a k plan st taken checked found right =>
    ⟨fun filing kept waits => ?_, fun busy => ?_⟩, fun s h a k st taken checked found right => ?_,
    fun s h a k st taken checked found right => ?_⟩
  · have work : reclassifyCommand h r s.sw.quietly = _ :=
      (onStory_right found right _).trans (unlessFilingOrSpiked_of_free filing kept waits _)
    refine State.answers taken checked (work.trans ?_)
    dsimp only
    split <;> rfl
  · exact State.answers taken checked ((onStory_right found right _).trans (unlessFilingOrSpiked_of_free filing kept waits _))
  · exact State.refuses taken checked ((onStory_right found right _).trans (unlessFilingOrSpiked_of_busy busy _))
  · have work : spikeCommand h k s.sw.quietly = _ := onStory_right found right _
    refine ⟨fun filed => State.answers taken checked (work.trans ?_), fun o offered => ⟨fun control => State.answers taken checked (work.trans ?_),
      fun desk => State.refuses taken checked (work.trans ?_)⟩, fun pending spiked => State.answers (w := s.sw) taken checked (work.trans ?_),
      fun busy => State.refuses taken checked (work.trans ?_)⟩
    · rw [filed]
      rfl
    · rw [offered]
      exact (if_pos (beq_iff_eq.2 control)).trans (by rfl)
    · rw [offered]
      exact if_neg fun e => by cases desk.symm.trans (beq_iff_eq.1 e)
    · rw [spiked]
    · rcases busy with e | ⟨l, e⟩
      all_goals rw [e]
  · have work : restoreCommand h k s.sw.quietly = _ := onStory_right found right _
    refine ⟨fun pending spiked => State.answers taken checked (work.trans ?_), fun filing => State.refuses taken checked (work.trans ?_),
      fun other => State.refuses taken checked (work.trans ?_)⟩
    · rw [spiked]
      rfl
    · rw [filing]
    · rcases other with e | ⟨l, e⟩ | ⟨o, e⟩
      all_goals rw [e]

end Sys2Proof.Machine
end

section
/-! SUPPORT. The end of a lock and of an offer, and the offer itself (spec/03, spec/04). -/

namespace Sys2Proof.Machine

namespace Switch

/-! ### Locks (R51, R53, R54) -/

/-- A lock's end: the story filed and one notice to the holder's port. -/
def lockEnded (s : Switch) (k : Handle) (st : Story) (l : Lock) (kind : NoticeKind) : Switch :=
  { s with
    slots := (s.setStory k.slot { st with status := .filed }).slots
    inboxes :=
      (s.post
        { kind := kind, cls := .bulletin, stamp := s.wall, handle := some k, slug := some st.slug, version := some st.currentNumber,
          note := some (byte l.holder.number.val) }
        (fun p => p == l.holder.port)).inboxes }

theorem endLock_eq (s : Switch) (i : SlotId) (st : Story) (l : Lock) (kind : NoticeKind) :
    s.endLock i st l kind = s.lockEnded (s.handleAt i) st l kind := rfl

theorem drainUpload_of_filling {s : Switch} {p : PortId} {a : Handle} {u : Upload} {keep : Bool} (upload : s.uploads.get p = some u)
    (kind : u.kind = .checkin keep) (handle : u.handle = a) (filling : u.mode = .filling) : s.drainUpload p a =
      { s with
        store :=
          { s.store with
            freePool := u.staging ++ s.store.freePool
            freeCount := s.store.freeCount + u.staging.length
            reserved := s.store.reserved - u.remaining }
        uploads := s.uploads.set p (some { u with mode := .draining, staging := [], remaining := 0 })
        last := { s.last with released := true } } := by
  unfold drainUpload
  rw [show s.upload p = some u from upload]
  dsimp only
  rw [kind]
  exact (if_pos ⟨handle, filling⟩).trans (by rfl)

theorem drainUpload_of_other {s : Switch} {p : PortId} {a : Handle}
    (other : ∀ u keep, s.uploads.get p = some u → u.kind = .checkin keep → u.handle = a → u.mode = .draining) : s.drainUpload p a = s := by
  unfold drainUpload
  split
  · rfl
  · rename_i u upload
    split
    · rename_i keep kind
      refine if_neg fun ⟨handle, filling⟩ => ?_
      cases filling.symm.trans (other u keep upload kind handle)
    · rfl

theorem expireLease_of_due {s : Switch} {i : SlotId} {st : Story} {l : Lock} (own : (s.slots.get i).story = some st) (opened : st.status = .opened l)
    (runs : l.suspended = false) (due : l.length ≤ (s.wall - l.start).toNat) : expireLease i s = s.endLock i st l .lockLapsed := by
  unfold expireLease
  rw [show (s.slot i).story = some st from own]
  dsimp only
  rw [opened]
  exact if_pos ⟨runs, decide_eq_true due⟩

theorem expireLease_of_other {s : Switch} {i : SlotId}
    (early : ∀ st l, (s.slots.get i).story = some st → st.status = .opened l → l.suspended = true ∨ (s.wall - l.start).toNat < l.length) :
    expireLease i s = s := by
  unfold expireLease
  split
  · rfl
  · rename_i st own
    split
    · rename_i l opened
      refine if_neg fun met => ?_
      obtain ⟨runs, due⟩ := met
      rcases early st l own opened with still | short
      · cases runs.symm.trans still
      · exact Nat.not_le_of_lt short (of_decide_eq_true due)
    · rfl

end Switch

open Switch in
/-- Settles O15: the lock ends one way for a lapse and a BREAK, and the BREAK drains the upload it meets in FILLING. -/
theorem locksExpireAndBreak : Obligations.LocksExpireAndBreak := by
  refine ⟨⟨fun s i st l own opened runs due => ?_, fun s i early => ?_⟩, fun s h a k st taken checked found => ⟨fun l opened => ?_, fun shut => ?_⟩⟩
  · exact State.run_eq s (expireLease i) _ ((expireLease_of_due (s := s.sw.quietly) own opened runs due).trans (endLock_eq ..)) (by rfl)
  · exact State.run_eq s (expireLease i) _ (expireLease_of_other (s := s.sw.quietly) early) (by rfl)
  · have work : breakCommand h k s.sw.quietly = ((s.sw.quietly.lockEnded k st l .lockBroken).drainUpload l.holder.port k).answer h .ok [] := by
      refine (onStory_found found _).trans ?_
      rw [opened]
      dsimp only
      rw [endLock_eq, handleAt_of_story (s := s.sw.quietly) found]
    refine ⟨fun drains => State.answers taken checked (work.trans ?_), fun u keep upload kind handle filling => State.eases taken checked (work.trans ?_)⟩
    · rw [drainUpload_of_other (s := s.sw.quietly.lockEnded k st l .lockBroken) drains]
      rfl
    · rw [drainUpload_of_filling (s := s.sw.quietly.lockEnded k st l .lockBroken) upload kind handle filling, answer_eq]
      rfl
  · refine State.refuses taken checked ((onStory_found found _).trans ?_)
    split
    · rename_i l opened
      exact absurd opened (shut l)
    all_goals rfl

namespace Switch

/-! ### Offers (R58, R61 to R68) -/

theorem offerTarget_of_named {st : Story} {target : DeskId} (other : target ≠ st.owner) : offerTarget st (some target) = .ok (target, st.route) :=
  if_neg other

theorem offerTarget_of_route {st : Story} {target : DeskId} {passed route : List DeskId} (other : target ≠ st.owner)
    (own : ∀ d ∈ passed, d = st.owner) (plan : st.route = passed ++ target :: route) : offerTarget st none = .ok (target, route) := by
  have dropped : st.route.dropWhile (· == st.owner) = target :: route := by
    rw [plan, List.dropWhile_append_of_pos fun d hd => beq_iff_eq.2 (own d hd)]
    exact List.dropWhile_cons_of_neg fun e => other (beq_iff_eq.1 e)
  unfold offerTarget
  dsimp only
  rw [dropped]

theorem onOffer_of_target {s : Switch} {h : Head} {st : Story} {o : Offer} (offered : st.status = .offered o) (k : Offer → Switch) :
    s.onOffer h st o.target k = k o := by
  unfold onOffer
  rw [offered]
  exact if_pos rfl

theorem lapseOffer_of_due {s : Switch} {i : SlotId} {st : Story} {o : Offer} (own : (s.slots.get i).story = some st) (offered : st.status = .offered o)
    (due : o.length ≤ (s.wall - o.start).toNat) : lapseOffer i s =
      (s.setStory i { st with status := .filed }).post
        { s.offerNotice .offerExpired (s.handleAt i) st o with reason := some .window } (s.ownerSide st o) := by
  unfold lapseOffer
  rw [show (s.slot i).story = some st from own]
  dsimp only
  rw [offered]
  refine (if_pos (decide_eq_true due)).trans ?_
  unfold expireOffer
  rw [show (s.slot i).story = some st from own]
  dsimp only
  rw [offered]

theorem lapseOffer_of_early {s : Switch} {i : SlotId} {st : Story} {o : Offer} (own : (s.slots.get i).story = some st) (offered : st.status = .offered o)
    (early : (s.wall - o.start).toNat < o.length) : lapseOffer i s = s := by
  unfold lapseOffer
  rw [show (s.slot i).story = some st from own]
  dsimp only
  rw [offered]
  exact if_neg fun due => Nat.not_le_of_lt early (of_decide_eq_true due)

theorem servingDesk_of_serves {s : Switch} {h : Head} {d : DeskId} (serves : s.groups.ports.serving.get d = some h.port) (k : Switch) :
    s.servingDesk h d k = k := if_pos (beq_iff_eq.2 serves)

end Switch

open Switch in
/-- Settles O16: OFFER's checks, each passed. -/
theorem offerGoesToItsTarget : Obligations.OfferGoesToItsTarget := by
  intro s h a c st target route p checked taken found filed active right other plan serving standing
  have aim : offerTarget st c.target = .ok (target, route) := by
    rcases plan with ⟨named, rfl⟩ | ⟨unnamed, passed, own, plan⟩
    · rw [named]
      exact offerTarget_of_named other
    · rw [unnamed]
      exact offerTarget_of_route other own plan
  refine State.answers taken checked ((onStory_found found _).trans ?_)
  refine (if_neg fun off => off active).trans ((withRight_of_hasRight (s := s.sw.quietly) right _).trans ?_)
  rw [if_neg fun off => off filed, aim]
  dsimp only
  rw [show s.sw.quietly.serving target = some p from serving]
  dsimp only
  refine (if_neg fun off => standing (beq_iff_eq.1 off)).trans ?_
  have side : s.sw.targetSide (s.sw.freshOffer h target c.note) = fun q => q == p := by
    funext q
    unfold targetSide
    exact (congrArg (· == some q) serving).trans (by rw [Bool.eq_iff_iff, beq_iff_eq, beq_iff_eq, Option.some_inj, eq_comm])
  rw [← side]
  rfl

open Switch in
/-- Settles O17: the four ways an offer ends. -/
theorem offersEnd : Obligations.OffersEnd := by
  intro s k st o found offered
  dsimp only
  have own := (story_eq_some.1 found).2
  have here := handleAt_of_story found
  refine ⟨fun h a taken checked serves => ?_, fun h a note taken checked serves => ?_, fun h a taken checked right => ?_, fun due => ?_, fun early => ?_⟩
  · refine State.answers taken checked ((onStory_found found _).trans ?_)
    exact (servingDesk_of_serves (s := s.sw.quietly) serves _).trans (onOffer_of_target offered _)
  · refine State.answers taken checked ((onStory_found found _).trans ?_)
    exact (servingDesk_of_serves (s := s.sw.quietly) serves _).trans (onOffer_of_target offered _)
  · refine State.answers taken checked ((onStory_right found right _).trans ?_)
    exact onOffer_of_target offered _
  · refine State.run_eq s (lapseOffer k.slot) _ ((lapseOffer_of_due (s := s.sw.quietly) own offered due).trans ?_) (by rfl)
    rw [show s.sw.quietly.handleAt k.slot = k from here]
    rfl
  · exact State.run_eq s (lapseOffer k.slot) _ (lapseOffer_of_early (s := s.sw.quietly) own offered early) (by rfl)

end Sys2Proof.Machine
end

section
/-! SUPPORT. Whom a notice goes to, and the commands of the notice unit (spec/05). -/

namespace Sys2Proof.Machine

theorem allBelow_pairwise_lt (n : Nat) : (allBelow n).Pairwise (· < ·) := by
  refine List.pairwise_lt_range.filterMap _ fun x y hxy i hi j hj => ?_
  rw [finOf?_eq_some] at hi hj
  exact Fin.lt_def.2 (by omega)

theorem within_of_mem {lo hi : Nat} {b : BitVec w} (low : lo ≤ b.toNat) (high : b.toNat ≤ hi) : within lo hi b = some b.toNat := if_pos ⟨low, high⟩

namespace Switch

/-! ### Addressed copies (R75, R88, R89, R95) -/

theorem mem_watchScreens (s : Switch) (k : Handle) (p : PortId) (sc : ScreenNo) :
    sc ∈ s.watchScreens k p ↔ ({ handle := k, port := p, screen := sc } : Watch) ∈ s.watches := by
  unfold watchScreens
  rw [List.mem_filter, List.contains_iff_mem]
  exact and_iff_right (mem_allBelow sc)

/-- A port's watching screens are the ascending list of them. -/
theorem watchScreens_eq {s : Switch} {k : Handle} {p : PortId} {screens : List ScreenNo} (ascending : screens.Pairwise (· < ·))
    (are : ∀ sc, sc ∈ screens ↔ ({ handle := k, port := p, screen := sc } : Watch) ∈ s.watches) : s.watchScreens k p = screens :=
  ((allBelow_pairwise_lt 64).filter _).eq_of_mem_iff ascending fun sc => (s.mem_watchScreens k p sc).trans (are sc).symm

theorem isDetached_eq_true (s : Switch) (p : PortId) : s.isDetached p = true ↔ (s.ports.get p).standing = .detached := by
  unfold isDetached
  rw [beq_iff_eq, port_def]

theorem isDetached_eq_false (s : Switch) (p : PortId) : s.isDetached p = false ↔ (s.ports.get p).standing ≠ .detached := by
  rw [← Bool.not_eq_true, isDetached_eq_true]

theorem post_inbox_of_sent {s : Switch} {n : Notice} {who : PortId → Bool} {p : PortId} (named : who p = true)
    (reached : (s.ports.get p).standing ≠ .detached) : (s.post n who).inboxes.get p = (s.inboxes.get p).place n :=
  (post_inbox s n who p).trans (if_pos ⟨named, (s.isDetached_eq_false p).2 reached⟩)

theorem post_inbox_of_unsent {s : Switch} {n : Notice} {who : PortId → Bool} {p : PortId}
    (out : who p = false ∨ (s.ports.get p).standing = .detached) : (s.post n who).inboxes.get p = s.inboxes.get p := by
  refine (post_inbox s n who p).trans (if_neg fun reached => ?_)
  rcases out with unnamed | detached
  · cases reached.1.symm.trans unnamed
  · exact (s.isDetached_eq_false p).1 reached.2 detached

theorem postWatchers_inbox {s : Switch} {k : Handle} {n : Notice} {p : PortId} {screens : List ScreenNo} (ascending : screens.Pairwise (· < ·))
    (are : ∀ sc, sc ∈ screens ↔ ({ handle := k, port := p, screen := sc } : Watch) ∈ s.watches) :
    (s.postWatchers k n).inboxes.get p =
      if screens = [] ∨ (s.ports.get p).standing = .detached then s.inboxes.get p
      else (s.inboxes.get p).place { n with screens := some screens } := by
  unfold postWatchers
  rw [postEach_inbox]
  dsimp only
  rw [watchScreens_eq ascending are]
  by_cases none : screens = []
  · rw [none]
    exact (if_pos (.inl rfl)).symm
  · rw [if_neg fun e => none (List.isEmpty_iff.1 e)]
    dsimp only
    by_cases detached : (s.ports.get p).standing = .detached
    · rw [if_pos ((s.isDetached_eq_true p).2 detached), if_pos (.inr detached)]
    · rw [if_neg fun e => detached ((s.isDetached_eq_true p).1 e), if_neg fun e => e.elim none detached]

/-- A filter matches a story's route key under its mask (R88). -/
def Matching (s : Switch) (st : Story) (f : Filter) : Prop :=
  f.enabled = true ∧ ((s.groups.routing.masks.get f.mask).compareDesk = true → st.owner = f.desk) ∧
    ((s.groups.routing.masks.get f.mask).compareUrgency = true → f.urgency.rank ≤ st.urgency.rank) ∧
    st.category / 2 ^ (10 - (s.groups.routing.masks.get f.mask).categoryBits) =
      f.category / 2 ^ (10 - (s.groups.routing.masks.get f.mask).categoryBits)

theorem filterMatches_iff (s : Switch) (f : Filter) (st : Story) : s.filterMatches f st = true ↔ s.Matching st f := by
  unfold filterMatches Matching
  simp [imp_iff_not_or, and_assoc]

theorem filterPorts_iff (s : Switch) (st : Story) (p : PortId) : s.filterPorts st p = true ↔
    ∃ i, s.Matching st (s.groups.routing.filters.get i) ∧ (s.groups.routing.filters.get i).destinations.getLsbD p.val = true := by
  unfold filterPorts
  rw [List.any_eq_true]
  simp only [Bank.mem_cells, Bool.and_eq_true, filterMatches_iff]
  exact ⟨fun ⟨f, ⟨i, e⟩, is⟩ => ⟨i, e ▸ is⟩, fun ⟨i, is⟩ => ⟨_, ⟨i, rfl⟩, is⟩⟩

theorem filterPorts_eq_false {s : Switch} {st : Story} {p : PortId}
    (unnamed : ∀ i, s.Matching st (s.groups.routing.filters.get i) →
      (s.groups.routing.filters.get i).destinations.getLsbD p.val = false) : s.filterPorts st p = false := by
  rw [← Bool.not_eq_true, filterPorts_iff]
  rintro ⟨i, is, bit⟩
  cases bit.symm.trans (unnamed i is)

end Switch

open Switch in
/-- Settles O20: each copy by the port's place in the post's set. -/
theorem filtersAndWatchesAddressNotices : Obligations.FiltersAndWatchesAddressNotices := by
  refine ⟨fun s n who k p => ⟨rfl, post_inbox_of_sent, post_inbox_of_unsent, rfl, rfl, fun screens ascending are =>
    postWatchers_inbox ascending are⟩, fun s k st p => ⟨fun kind => ⟨fun named reached => ?_, fun out => ?_⟩, fun reason version screens ascending are =>
    postWatchers_inbox ascending are⟩⟩
  · exact post_inbox_of_sent ((s.filterPorts_iff st p).2 named) reached
  · exact post_inbox_of_unsent (out.imp_left filterPorts_eq_false)

open Switch in
/-- Settles O21: five commands that each change one part of the state, or none. -/
theorem collectFilterMaskAndWatchAct : Obligations.CollectFilterMaskAndWatchAct := by
  refine ⟨fun s h b taken low high => ?_, ⟨fun s h a i f taken checked => State.answers taken checked rfl,
    fun s h a i m taken checked => State.answers taken checked rfl⟩, fun s h a n k st checked found => ⟨fun taken => ?_, fun taken => ?_⟩⟩
  · have checked : collectCountOf b = some b.toNat := within_of_mem low high
    dsimp only
    refine ⟨fun empty => State.answers taken checked (if_pos ?_), fun waiting => State.streams taken checked (if_neg ?_)⟩
    · change min b.toNat (s.sw.inboxes.get h.port).notices.length = 0
      rw [empty]
      exact Nat.min_zero _
    · have depth := List.length_pos_iff.2 waiting
      change min b.toNat (s.sw.inboxes.get h.port).notices.length ≠ 0
      omega
  · have work : watchCommand h (n, k) s.sw.quietly = _ := onStory_found found _
    refine ⟨fun held => State.answers (w := s.sw) taken checked (work.trans (if_pos (List.contains_iff_mem.2 held))), fun fresh room =>
      State.answers taken checked (work.trans ((if_neg fun e => fresh (List.contains_iff_mem.1 e)).trans (if_neg (Nat.not_le_of_lt room)))), fun fresh full =>
      State.refuses taken checked (work.trans ((if_neg fun e => fresh (List.contains_iff_mem.1 e)).trans (if_pos full)))⟩
  · refine State.answers taken checked ((onStory_found found _).trans ?_)
    have removed : flagByte (s.sw.watches.contains { handle := k, port := h.port, screen := n }) =
        if ({ handle := k, port := h.port, screen := n } : Watch) ∈ s.sw.watches then 1 else 0 := by
      unfold flagByte
      simp only [List.contains_iff_mem]
    rw [← removed]
    rfl

end Sys2Proof.Machine
end

section
/-! SUPPORT. The groups of the deadline channels, their automatic releases, matches and late ticks (spec/06). -/

namespace Sys2Proof.Machine

namespace Switch

/-! ### Groups (R105, R106, R111) -/

theorem mem_groupPages (s : Switch) (c : ChannelId) (q : PageId) : q ∈ s.groupPages c ↔
    (∃ d, s.groups.clock.pages.get q = some d ∧ d.binding = some c) ∧ (s.pages.get q).layout ≠ [] := by
  unfold groupPages
  rw [List.mem_filter, Bank.mem_indices, page_def]
  refine and_congr ?_ (by simp)
  cases s.groups.clock.pages.get q <;> simp

theorem groupPages_ascending (s : Switch) (c : ChannelId) : (s.groupPages c).Pairwise (· < ·) := (Bank.indices_pairwise_lt ..).filter _

theorem groupDone_iff (s : Switch) (c : ChannelId) :
    s.groupDone c = true ↔ ∀ q ∈ s.groupPages c, (s.pages.get q).lastSent = s.clock.edition := by
  unfold groupDone
  simp [page_def]

theorem judgeGroups_eq (s before : Switch) : s.judgeGroups before =
    { s with
      channels := s.channels.mapIdx fun c x =>
        if before.groupDone c = false ∧ s.groupDone c = true ∧ x.state ≠ .cleared then { x with state := .cleared, nextLate := none }
        else x } := by
  unfold judgeGroups
  refine congrArg (fun f => { s with channels := s.channels.mapIdx f }) ?_
  funext c x
  by_cases newly : before.groupDone c = false ∧ s.groupDone c = true
  · obtain ⟨open', done⟩ := newly
    rw [open', done]
    cases x.state <;> rfl
  · refine (if_neg fun e => newly ?_).trans (if_neg fun e => newly ⟨e.1, e.2.1⟩).symm
    rwa [Bool.and_eq_true, Bool.not_eq_true'] at e

theorem channelRecipients_iff (s : Switch) (c : ChannelId) (p : PortId) : s.channelRecipients c p = true ↔
    s.groups.ports.privilege.get p = .control ∨
      ∃ q ∈ s.groupPages c, ∃ d, s.groups.clock.pages.get q = some d ∧ s.groups.ports.serving.get d.owner = some p := by
  unfold channelRecipients
  rw [Bool.or_eq_true, List.any_eq_true]
  refine or_congr beq_iff_eq (exists_congr fun q => and_congr_right fun _ => ?_)
  rw [pageDef_def]
  cases s.groups.clock.pages.get q with
  | none => simp
  | some d => simp [serves, serving]

/-! ### Automatic releases (R114, R131) -/

theorem mem_autoSelected (s : Switch) (c : ChannelId) (reference : Nat) (q : PageId) : q ∈ s.autoSelected c reference ↔
    q ∈ s.groupPages c ∧ ((s.pages.get q).state = .making ∨ (s.pages.get q).state = .faulted) ∧ (s.pages.get q).lastSent ≠ reference := by
  unfold autoSelected
  simp [page_def]

theorem placesHeld_eq (s : Switch) : s.placesHeld = s.queue.length + if s.sending = none then 0 else 1 := by
  unfold placesHeld
  cases s.sending <;> rfl

theorem autoReleasePage_of_room {s : Switch} {q : PageId} {d : PageDef} (defined : s.groups.clock.pages.get q = some d)
    (room : s.placesHeld < 32) (c : ChannelId) : s.autoReleasePage c q = s.releasePage q d false := by
  unfold autoReleasePage
  rw [pageDef_def, defined]
  exact if_pos room

theorem autoReleasePage_of_full {s : Switch} {q : PageId} {d : PageDef} (defined : s.groups.clock.pages.get q = some d)
    (full : 32 ≤ s.placesHeld) (c : ChannelId) : s.autoReleasePage c q =
      { s with
        inboxes :=
          (s.post
            { kind := .releaseBlocked, cls := .flash, stamp := s.wall, page := some q, channel := some c, edition := some s.clock.edition }
            (fun p => s.groups.ports.serving.get d.owner == some p)).inboxes } := by
  unfold autoReleasePage
  rw [pageDef_def, defined]
  refine (if_neg (Nat.not_lt_of_le full)).trans ?_
  rw [pageOwnerPort_eq defined rfl]
  rfl

end Switch

open Switch in
/-- Settles O24: each part of the groups' rules is one function of the model. -/
theorem groupsAreJudgedAndReleased : Obligations.GroupsAreJudgedAndReleased := by
  refine ⟨mem_groupPages, groupDone_iff, judgeGroups_eq, channelRecipients_iff, fun s c reference =>
    ⟨rfl, (s.groupPages_ascending c).filter _, s.mem_autoSelected c reference, fun q d defined => ?_⟩⟩
  dsimp only
  rw [← placesHeld_eq]
  exact ⟨fun room => autoReleasePage_of_room defined room c, fun full => autoReleasePage_of_full defined full c⟩

namespace Switch

/-! ### The deadline match (R109) -/

/-- PAGE_LATE of a match to the channel's recipients, beside the channel's change. -/
def matchedLate (s : Switch) (c : ChannelId) : Switch :=
  { s with
    channels := s.channels.set c (s.matched c)
    inboxes :=
      (s.post
        { kind := .pageLate, cls := .flash, stamp := s.wall, channel := some c, edition := some s.clock.edition, note := some 0 }
        (s.channelRecipients c)).inboxes }

theorem takeMatch_cases (s : Switch) (c : ChannelId) : s.takeMatch c =
    if (s.channels.get c).state = .quiet ∨ (s.channels.get c).state = .warned then
      if s.groupDone c = true then { s with channels := s.channels.set c (s.matched c) }
      else if (s.groups.clock.channels.get c).releaseMode = .atDeadline then (s.matchedLate c).autoRelease c s.clock.edition
      else s.matchedLate c
    else s := by
  unfold Switch.takeMatch matchedLate
  rw [matched_eq]
  by_cases done : s.groupDone c = true
  · simp only [if_pos done]
    rfl
  · simp only [if_neg done]
    rfl

theorem matchDue_iff (s : Switch) (c : ChannelId) : s.matchDue c = true ↔
    s.clock.running = true ∧ ((s.channels.get c).state = .quiet ∨ (s.channels.get c).state = .warned) ∧
      (s.channels.get c).active ≤ s.clock.ticks := by
  unfold matchDue
  dsimp only
  rw [Bool.and_eq_true, Bool.and_eq_true, Bool.or_eq_true, beq_iff_eq, beq_iff_eq, decide_eq_true_iff, and_assoc, channel_def]

theorem matchIfDue_cases (s : Switch) (c : ChannelId) : s.matchIfDue c =
    if s.clock.running = true ∧ ((s.channels.get c).state = .quiet ∨ (s.channels.get c).state = .warned) ∧
      (s.channels.get c).active ≤ s.clock.ticks then s.takeMatch c else s := by
  unfold Switch.matchIfDue
  simp only [matchDue_iff]

/-- A match taken, as one update. -/
theorem matchIfDue_eq (s : Switch) (c : ChannelId) : ∃ slots inboxes pages queue releases, s.matchIfDue c =
    { s with
      channels :=
        if s.clock.running = true ∧ ((s.channels.get c).state = .quiet ∨ (s.channels.get c).state = .warned) ∧
          (s.channels.get c).active ≤ s.clock.ticks then s.channels.set c (s.matched c)
        else s.channels
      slots := slots, inboxes := inboxes, pages := pages, queue := queue, releases := releases } := by
  rw [matchIfDue_cases]
  by_cases due : s.clock.running = true ∧ ((s.channels.get c).state = .quiet ∨ (s.channels.get c).state = .warned) ∧
      (s.channels.get c).active ≤ s.clock.ticks
  · rw [if_pos due, if_pos due]
    have taken := takeMatch_eq c s
    rwa [if_pos due.2.1] at taken
  · rw [if_neg due, if_neg due]
    exact ⟨s.slots, s.inboxes, s.pages, s.queue, s.releases, rfl⟩

/-- Matches taken one after another, as one update of a part that no match's being due depends on. -/
theorem matches_eq (s : Switch) (l : List ChannelId) : ∃ channels slots inboxes pages queue releases, l.foldl (fun s c => matchIfDue c s) s =
    { s with channels := channels, slots := slots, inboxes := inboxes, pages := pages, queue := queue, releases := releases } := by
  induction l generalizing s with
  | nil => exact ⟨s.channels, s.slots, s.inboxes, s.pages, s.queue, s.releases, rfl⟩
  | cons c l ih =>
    obtain ⟨a, b, p, k, r, e⟩ := s.matchIfDue_eq c
    obtain ⟨x', a', b', p', k', r', e'⟩ := ih (s.matchIfDue c)
    refine ⟨x', a', b', p', k', r', ?_⟩
    rw [List.foldl_cons, e', e]

theorem matchIfDue_groupDone (s : Switch) (c d : ChannelId) : (s.matchIfDue c).groupDone d = s.groupDone d := by
  rw [matchIfDue_cases]
  split
  · exact takeMatch_groupDone c d s
  · rfl

theorem matched_congr {s t : Switch} {c : ChannelId} (channel : t.channels.get c = s.channels.get c) (done : t.groupDone c = s.groupDone c)
    (clock : t.clock = s.clock) (groups : t.groups = s.groups) : t.matched c = s.matched c := by
  unfold Switch.matched
  rw [channel, done, clock, groups]

/-- What becomes of a channel when matches are taken in turn, each channel once. -/
theorem matches_channel (s : Switch) {l : List ChannelId} (once : l.Nodup) (c : ChannelId) :
    (l.foldl (fun s c => matchIfDue c s) s).channels.get c =
      if c ∈ l ∧ s.clock.running = true ∧ ((s.channels.get c).state = .quiet ∨ (s.channels.get c).state = .warned) ∧
        (s.channels.get c).active ≤ s.clock.ticks then s.matched c
      else s.channels.get c := by
  induction l generalizing s with
  | nil => exact (if_neg fun e => nomatch e.1).symm
  | cons d l ih =>
    obtain ⟨fresh, once⟩ := List.nodup_cons.1 once
    have done := s.matchIfDue_groupDone d c
    obtain ⟨slots, inboxes, pages, queue, releases, e⟩ := s.matchIfDue_eq d
    rw [List.foldl_cons, ih _ once]
    by_cases same : d = c
    · subst same
      rw [if_neg fun e => fresh e.1, e]
      dsimp only
      split
      · rename_i due
        rw [Bank.get_set_same, if_pos ⟨List.mem_cons_self, due⟩]
      · rename_i early
        rw [if_neg fun e => early e.2]
    · have other : (s.matchIfDue d).channels.get c = s.channels.get c := by
        rw [e]
        dsimp only
        split
        · exact Bank.get_set_ne _ _ same
        · rfl
      have clock : (s.matchIfDue d).clock = s.clock := by rw [e]
      have groups : (s.matchIfDue d).groups = s.groups := by rw [e]
      rw [matched_congr other done clock groups, other, clock]
      simp only [List.mem_cons, Ne.symm same, false_or]

end Switch

end Sys2Proof.Machine
end

section
/-! SUPPORT. The commands and events of the edition clock and of the deadline channels (spec/06). -/

namespace Sys2Proof.Machine

namespace Switch

/-! ### Channel events (R104, R109, R110) -/

theorem autoRelease_last (s : Switch) (c : ChannelId) (reference : Nat) : (s.autoRelease c reference).last = s.last := by
  obtain ⟨_, _, _, _, _, e⟩ := autoRelease_eq s c reference
  rw [e]

theorem matchIfDue_of_due {s : Switch} {c : ChannelId} (runs : s.clock.running = true)
    (state : (s.channels.get c).state = .quiet ∨ (s.channels.get c).state = .warned) (passed : (s.channels.get c).active ≤ s.clock.ticks) :
    s.matchIfDue c =
      if s.groupDone c = true then { s with channels := s.channels.set c (s.matched c) }
      else if (s.groups.clock.channels.get c).releaseMode = .atDeadline then (s.matchedLate c).autoRelease c s.clock.edition
      else s.matchedLate c := by
  rw [matchIfDue_cases, if_pos ⟨runs, state, passed⟩, takeMatch_cases, if_pos state]

theorem takeLateTick_of_due {s : Switch} {c : ChannelId} {n : Nat} (due : (s.channels.get c).state = .due)
    (next : (s.channels.get c).nextLate = some n) (runs : s.clock.running = true) (reached : n ≤ s.clock.ticks) : s.takeLateTick c =
      if ((s.channels.get c).lateCount + 1) % (s.groups.clock.channels.get c).lateDivisor = 0 then
        (s.setChannel c
          { s.channels.get c with
            lateCount := (s.channels.get c).lateCount + 1
            nextLate := lateTickAfter n (s.groups.clock.channels.get c).lateInterval }).postChannel c .pageLate .flash
          (some (lateNote ((s.channels.get c).lateCount + 1)))
      else
        s.setChannel c
          { s.channels.get c with
            lateCount := (s.channels.get c).lateCount + 1
            nextLate := lateTickAfter n (s.groups.clock.channels.get c).lateInterval } := by
  unfold Switch.takeLateTick
  dsimp only
  rw [channel_def, due, next]
  exact if_pos ⟨runs, reached⟩

theorem takeLateTick_of_early {s : Switch} {c : ChannelId}
    (early : s.clock.running = false ∨ (s.channels.get c).state ≠ .due ∨ (s.channels.get c).nextLate = none ∨
      (∃ n, (s.channels.get c).nextLate = some n ∧ s.clock.ticks < n)) : s.takeLateTick c = s := by
  unfold Switch.takeLateTick
  dsimp only
  rw [channel_def]
  split
  · rename_i n due next
    refine if_neg fun reached => ?_
    rcases early with stopped | other | none | ⟨m, is, later⟩
    · cases stopped.symm.trans reached.1
    · exact other due
    · cases none.symm.trans next
    · cases is.symm.trans next
      exact Nat.not_le_of_lt later reached.2
  · rfl

end Switch

open Switch in
/-- Settles O26: each event taken when it is due, and passed over when it is not. -/
theorem channelEventsAct : Obligations.ChannelEventsAct := by
  intro s c
  dsimp only
  refine ⟨fun waits quiet open' => ?_, fun waits other => ?_, fun none => ?_, fun runs state passed => ⟨fun done => ?_, fun open' => ?_⟩, fun early => ?_,
    fun n runs due next reached => ?_, fun early => ?_⟩
  · exact State.run_eq s (takeWarning c) _ ((if_pos waits).trans (if_pos ⟨quiet, open'⟩)) (by rfl)
  · refine State.run_eq s (takeWarning c) _ ((if_pos waits).trans (if_neg fun both => ?_)) (by rfl)
    rcases other with loud | done
    · exact loud both.1
    · cases both.2.symm.trans done
  · exact State.run_eq s (takeWarning c) _ (if_neg (by rw [channel_def]; exact Bool.not_eq_true _ ▸ none)) (by rfl)
  · refine State.run_eq s (matchIfDue c) _ ((matchIfDue_of_due (s := s.sw.quietly) runs state passed).trans ((if_pos done).trans ?_)) (by rfl)
    have cleared : s.sw.quietly.matched c = { s.sw.channels.get c with state := .cleared } := if_pos done
    rw [cleared]
    rfl
  · have taken := (matchIfDue_of_due (s := s.sw.quietly) runs state passed).trans (if_neg (Bool.not_eq_true _ ▸ open'))
    refine State.run_eq s (matchIfDue c) _ taken ?_
    split
    · rw [autoRelease_last]
    · rfl
  · refine State.run_eq s (matchIfDue c) _ ((matchIfDue_cases s.sw.quietly c).trans (if_neg fun due => ?_)) (by rfl)
    obtain ⟨runs, state, passed⟩ := due
    rcases early with stopped | due | cleared | later
    · cases stopped.symm.trans runs
    · rcases state with e | e <;> cases due.symm.trans e
    · rcases state with e | e <;> cases cleared.symm.trans e
    · exact Nat.not_le_of_lt later passed
  · have taken := takeLateTick_of_due (s := s.sw.quietly) due next runs reached
    by_cases posts : ((s.sw.channels.get c).lateCount + 1) % (s.sw.groups.clock.channels.get c).lateDivisor = 0
    · rw [if_pos posts]
      exact State.run_eq s (takeLateTick c) _ (taken.trans (if_pos posts)) (by rfl)
    · rw [if_neg posts]
      exact State.run_eq s (takeLateTick c) _ (taken.trans (if_neg posts)) (by rfl)
  · exact State.run_eq s (takeLateTick c) _ (takeLateTick_of_early (s := s.sw.quietly) early) (by rfl)

namespace Switch

/-! ### The running clock (R97, R99, R101) -/

theorem turnsAtTick_iff (s : Switch) : s.turnsAtTick = true ↔ s.clock.running = true ∧ s.clock.activeLength ≤ s.clock.ticks + 1 := by
  unfold turnsAtTick
  rw [Bool.and_eq_true, decide_eq_true_iff]

theorem tick_of_stopped {s : Switch} (stopped : s.clock.running = false) : s.tick = { s with wall := s.wall + 1 } := by
  have still : ¬s.clock.running = true := Bool.not_eq_true _ ▸ stopped
  exact (if_neg fun turns => still (s.turnsAtTick_iff.1 turns).1).trans (if_neg still)

theorem warningPoint_iff (s : Switch) (c : ChannelId) (n : Nat) : s.warningPoint c = some n ↔
    0 < (s.groups.clock.channels.get c).warnLead ∧ (s.groups.clock.channels.get c).warnLead < (s.channels.get c).active ∧
      (s.channels.get c).active - (s.groups.clock.channels.get c).warnLead = n := by
  unfold warningPoint
  dsimp only
  rw [channel_def]
  split
  · rename_i within'
    rw [Option.some_inj]
    exact ⟨fun e => ⟨within'.1, within'.2, e⟩, fun e => e.2.2⟩
  · rename_i outside
    exact ⟨nofun, fun e => absurd ⟨e.1, e.2.1⟩ outside⟩

theorem tick_of_running {s : Switch} (runs : s.clock.running = true) (below : s.clock.ticks + 1 < s.clock.activeLength) : s.tick =
    { s with
      wall := s.wall + 1
      clock := { s.clock with ticks := s.clock.ticks + 1 }
      channels := s.channels.mapIdx fun c x =>
        if 0 < (s.groups.clock.channels.get c).warnLead ∧ (s.groups.clock.channels.get c).warnLead < x.active ∧
          x.active - (s.groups.clock.channels.get c).warnLead = s.clock.ticks + 1 then { x with warningDue := true }
        else x } := by
  refine (if_neg fun turns => Nat.not_le_of_lt below (s.turnsAtTick_iff.1 turns).2).trans ((if_pos runs).trans ?_)
  unfold raiseTicks raiseWall
  dsimp only
  refine congrArg (fun channels => { s with wall := s.wall + 1, clock := { s.clock with ticks := s.clock.ticks + 1 }, channels := channels }) ?_
  refine Bank.ext_get fun c => ?_
  rw [Bank.get_mapIdx, Bank.get_mapIdx]
  simp only [warningPoint_iff]

/-- Steps that are matches wherever the clock runs are matches one after another from a running clock. -/
theorem foldl_eq_matches {f : Switch → ChannelId → Switch} (step : ∀ t c, t.clock.running = true → f t c = t.matchIfDue c) (l : List ChannelId)
    {s : Switch} (runs : s.clock.running = true) : l.foldl f s = l.foldl (fun s c => matchIfDue c s) s := by
  induction l generalizing s with
  | nil => rfl
  | cons c l ih =>
    rw [List.foldl_cons, List.foldl_cons, step s c runs]
    refine ih ?_
    obtain ⟨_, _, _, _, _, e⟩ := s.matchIfDue_eq c
    rw [e]
    exact runs

theorem matchIfDue_of_running {s : Switch} (runs : s.clock.running = true) (c : ChannelId) : s.matchIfDue c =
    if ((s.channels.get c).state = .quiet ∨ (s.channels.get c).state = .warned) ∧ (s.channels.get c).active ≤ s.clock.ticks then
      if s.groupDone c = true then { s with channels := s.channels.set c (s.matched c) }
      else if (s.groups.clock.channels.get c).releaseMode = .atDeadline then (s.matchedLate c).autoRelease c s.clock.edition
      else s.matchedLate c
    else s := by
  split
  · rename_i due
    exact matchIfDue_of_due runs due.1 due.2
  · rename_i early
    rw [matchIfDue_cases, if_neg fun e => early e.2]

end Switch

open Switch in
/-- Settles O22: a tick and the two clock commands; CLOCK START's matches are a fold whose every step is one deadline match. -/
theorem theClockRunsAndStops : Obligations.TheClockRunsAndStops := by
  refine ⟨⟨fun s stopped => State.run_eq s tick _ (tick_of_stopped (s := s.sw.quietly) stopped) (by rfl), fun s runs below =>
    State.run_eq s tick _ (tick_of_running (s := s.sw.quietly) runs below) (by rfl), fun s h taken => ⟨fun runs => State.answers taken rfl (if_pos runs),
    fun stopped => State.answers (w := s.sw) taken rfl (if_neg (Bool.not_eq_true _ ▸ stopped))⟩⟩, fun s h taken => ⟨fun runs =>
    State.answers (w := s.sw) taken rfl (if_pos runs), fun stopped => ?_⟩⟩
  intro started step w
  have runs : started.clock.running = true := rfl
  have folded : (allBelow 16).foldl step started = (allBelow 16).foldl (fun s c => matchIfDue c s) started :=
    foldl_eq_matches (fun t c runs => (matchIfDue_of_running runs c).symm) _ runs
  have channel := matches_channel started (allBelow_pairwise_lt 16).nodup
  obtain ⟨channels, slots, inboxes, pages, queue, releases, e⟩ := matches_eq started (allBelow 16)
  rw [e] at channel folded
  have is : w =
      { started with
        channels := channels, slots := slots, inboxes := inboxes, pages := pages, queue := queue, releases := releases
        ports := s.sw.creditedPorts h.port
        last := { sent := [resultFrame h .ok []], released := false } } :=
    congrArg (fun t : Switch =>
      { t with ports := s.sw.creditedPorts h.port, last := { sent := [resultFrame h .ok []], released := false } }) folded
  clear_value w
  subst is
  refine ⟨State.acts taken rfl ?_ (by rfl), ⟨by rfl, by rfl, by rfl, by rfl, by rfl, by rfl, by rfl, by rfl, by rfl, by rfl, by rfl, by rfl, by rfl,
    by rfl, by rfl, by rfl⟩, by rfl, fun c => ?_⟩
  · have work : clockStartCommand h () s.sw.quietly = ((allBelow 16).foldl (fun s c => matchIfDue c s) started).answer h .ok [] :=
      if_neg (Bool.not_eq_true _ ▸ stopped)
    rw [work, e, answer_eq]
    rfl
  · refine (channel c).trans ?_
    by_cases due : ((s.sw.channels.get c).state = .quiet ∨ (s.sw.channels.get c).state = .warned) ∧
        (s.sw.channels.get c).active ≤ s.sw.clock.ticks
    · exact (if_pos ⟨mem_allBelow c, runs, due⟩).trans (if_pos due).symm
    · exact (if_neg fun e => due e.2.2).trans (if_neg due).symm

end Sys2Proof.Machine
end

section
/-! SUPPORT. The settings of the edition clock and of the deadline channels (spec/06). -/

namespace Sys2Proof.Machine

namespace Switch

/-! ### Work that does not read the record of the last event -/

theorem autoReleasePage_of_undefined {s : Switch} {q : PageId} (undefined : s.groups.clock.pages.get q = none) (c : ChannelId) :
    s.autoReleasePage c q = s := by
  unfold autoReleasePage
  rw [pageDef_def, undefined]

theorem quietly_autoReleasePage (s : Switch) (c : ChannelId) (q : PageId) : s.quietly.autoReleasePage c q = (s.autoReleasePage c q).quietly := by
  cases defined : s.groups.clock.pages.get q with
  | none => rw [autoReleasePage_of_undefined (s := s.quietly) defined, autoReleasePage_of_undefined defined]
  | some d =>
    rcases Nat.lt_or_ge s.placesHeld 32 with room | full
    · rw [autoReleasePage_of_room (s := s.quietly) defined room, autoReleasePage_of_room defined room, quietly_releasePage]
    · rw [autoReleasePage_of_full (s := s.quietly) defined full, autoReleasePage_of_full defined full]
      rfl

theorem quietly_autoRelease (s : Switch) (c : ChannelId) (reference : Nat) : s.quietly.autoRelease c reference = (s.autoRelease c reference).quietly := by
  unfold autoRelease
  rw [show s.quietly.autoSelected c reference = s.autoSelected c reference from rfl]
  generalize s.autoSelected c reference = l
  induction l generalizing s with
  | nil => rfl
  | cons q l ih => rw [List.foldl_cons, List.foldl_cons, quietly_autoReleasePage, ih]

theorem quietly_takeMatch (s : Switch) (c : ChannelId) : s.quietly.takeMatch c = (s.takeMatch c).quietly := by
  rw [takeMatch_cases, takeMatch_cases]
  by_cases state : (s.channels.get c).state = .quiet ∨ (s.channels.get c).state = .warned
  · rw [if_pos state]
    refine (if_pos state).trans ?_
    by_cases done : s.groupDone c = true
    · rw [if_pos done]
      exact if_pos done
    · rw [if_neg done]
      refine (if_neg done).trans ?_
      by_cases mode : (s.groups.clock.channels.get c).releaseMode = .atDeadline
      · rw [if_pos mode]
        exact (if_pos mode).trans (quietly_autoRelease (s.matchedLate c) c s.clock.edition)
      · rw [if_neg mode]
        exact if_neg mode
  · rw [if_neg state]
    exact if_neg state

/-! ### The active deadline (R107) -/

theorem setActive_cases (s : Switch) (c : ChannelId) (n : Nat) : s.setActive c n =
    if (s.channels.get c).active = n then s
    else if s.clock.running = true ∧ ((s.channels.get c).state = .quiet ∨ (s.channels.get c).state = .warned) ∧ n ≤ s.clock.ticks then
      takeMatch c
        { s with channels := s.channels.set c { s.channels.get c with active := n, atRisk := false, warningDue := false } }
    else { s with channels := s.channels.set c { s.channels.get c with active := n, atRisk := false, warningDue := false } } := by
  unfold Switch.setActive
  dsimp only
  rw [channel_def, matchIfDue_cases]
  simp only [setChannel_fields, Bank.get_set_same]
  rfl

theorem quietly_setActive (s : Switch) (c : ChannelId) (n : Nat) : s.quietly.setActive c n = (s.setActive c n).quietly := by
  rw [setActive_cases, setActive_cases]
  by_cases same : (s.channels.get c).active = n
  · rw [if_pos same]
    exact if_pos same
  · rw [if_neg same]
    refine (if_neg same).trans ?_
    by_cases passed : s.clock.running = true ∧ ((s.channels.get c).state = .quiet ∨ (s.channels.get c).state = .warned) ∧ n ≤ s.clock.ticks
    · rw [if_pos passed]
      exact (if_pos passed).trans (quietly_takeMatch
        { s with channels := s.channels.set c { s.channels.get c with active := n, atRisk := false, warningDue := false } } c)
    · rw [if_neg passed]
      exact if_neg passed

theorem matched_active (s : Switch) (c : ChannelId) : (s.matched c).active = (s.channels.get c).active := by
  unfold Switch.matched
  dsimp only
  split <;> rfl

theorem setActive_active (s : Switch) (c : ChannelId) (n : Nat) : ((s.setActive c n).channels.get c).active = n := by
  rw [setActive_cases]
  split
  · assumption
  · split
    · obtain ⟨_, _, _, _, _, e⟩ := takeMatch_eq c
        { s with channels := s.channels.set c { s.channels.get c with active := n, atRisk := false, warningDue := false } }
      rw [e]
      dsimp only
      split
      · rw [Bank.get_set_same, matched_active]
        dsimp only
        rw [Bank.get_set_same]
      · rw [Bank.get_set_same]
    · dsimp only
      rw [Bank.get_set_same]

end Switch

open Switch in
/-- Settles O25: the three commands write what they name, and the two functions that move an active deadline are said whole. -/
theorem clockSettingsAreWritten : Obligations.ClockSettingsAreWritten := by
  refine ⟨fun s h w taken low => ?_, fun s h a c n taken checked => ?_, fun s h a m taken checked => ?_, setActive_cases, takeMatch_cases⟩
  · have checked : editionLengthOf w = some w.toNat := within_of_mem low (by omega)
    exact State.answers taken checked rfl
  · intro old written
    have work : deadlineCommand h (c, n) s.sw.quietly = (fun t : Switch => t.answer h .ok (be16 (t.channels.get c).active))
        (if old.bufferMode = .direct ∨ s.sw.clock.running = false then written.quietly.setActive c n else written.quietly) := rfl
    split
    · rename_i moves
      rw [if_pos moves] at work
      dsimp only at work
      rw [setActive_active, quietly_setActive] at work
      exact State.answers taken checked work
    · rename_i stays
      rw [if_neg stays] at work
      exact State.answers taken checked work
  · intro channel old x late written
    have work : channelCommand h m s.sw.quietly =
        (if m.bufferMode = .direct ∧ old.bufferMode ≠ .direct then written.quietly.setActive channel old.deadline else written.quietly).answer h
          .ok [] := rfl
    have mode : old.bufferMode ≠ .direct ↔ old.bufferMode = .atTurn := by cases old.bufferMode <;> decide
    split
    · rename_i moves
      rw [if_pos ⟨moves.1, mode.2 moves.2⟩, quietly_setActive] at work
      exact State.answers taken checked work
    · rename_i stays
      rw [if_neg fun e => stays ⟨e.1, mode.1 e.2⟩] at work
      exact State.answers taken checked work

end Sys2Proof.Machine
end

section
/-! SUPPORT. The edition turn: what its releases do to stories and pages, its channels, and the purges of the SPIKED stories (spec/06). -/

namespace Sys2Proof.Machine

/-! ### Slots under snapshots -/

/-- A slot as it was but for pins raised, and as it was where its story is SPIKED, which no snapshot captures (R123). -/
structure Slot.Repinned (x y : Slot) : Prop where
  gen : y.gen = x.gen
  story : y.story.map Story.unpinnedFields = x.story.map Story.unpinnedFields
  spiked : ∀ st pending, x.story = some st → st.status = .spiked pending → y = x

namespace Slot.Repinned

theorem refl (x : Slot) : x.Repinned x := ⟨rfl, rfl, fun _ _ _ _ => rfl⟩

theorem trans {x y z : Slot} (a : x.Repinned y) (b : y.Repinned z) : x.Repinned z where
  gen := b.gen.trans a.gen
  story := b.story.trans a.story
  spiked st pending own is := by
    have same := a.spiked st pending own is
    subst same
    exact b.spiked st pending own is

/-- A story is SPIKED after the pins exactly where it was before. -/
theorem status {x y : Slot} (h : x.Repinned y) : y.story.map Story.status = x.story.map Story.status := by
  have same := congrArg (Option.map Story.status) h.story
  rwa [Option.map_map, Option.map_map] at same

end Slot.Repinned

theorem Slot.pinned_unpinnedFields (x : Slot) (i : SlotId) (l : List Entry) :
    (x.pinned i l).story.map Story.unpinnedFields = x.story.map Story.unpinnedFields := by
  unfold Slot.pinned Story.unpinnedFields
  rw [Option.map_map]
  refine congrArg (fun f => x.story.map f) (funext fun st => ?_)
  simp [Function.comp_def]

theorem Slot.pinned_of_other {x : Slot} {i : SlotId} {e : Entry} (other : e.handle ≠ { slot := i, gen := x.gen }) : x.pinned i [e] = x := by
  obtain ⟨gen, story⟩ := x
  have off : (e.handle == { slot := i, gen := gen }) = false := beq_eq_false_iff_ne.2 other
  cases story with
  | none => rfl
  | some st => simp [Slot.pinned, off]

theorem entryOf_handle (pl : Placement) (x : Option Story) : (entryOf pl x).handle = pl.handle := by
  unfold entryOf
  split
  · rfl
  · split <;> rfl

theorem entryOf_of_spiked {st : Story} {pending : Bool} (is : st.status = .spiked pending) (pl : Placement) :
    (entryOf pl (some st)).version = none := by
  unfold entryOf
  dsimp only
  rw [is]
  rfl

namespace Switch

theorem takePin_repinned (s : Switch) (pl : Placement) (i : SlotId) :
    (s.slots.get i).Repinned ((s.takePin (entryOf pl (s.story pl.handle))).slots.get i) := by
  rw [takePin_slot]
  refine ⟨rfl, Slot.pinned_unpinnedFields _ _ _, fun st pending own is => ?_⟩
  by_cases here : pl.handle = { slot := i, gen := (s.slots.get i).gen }
  · have found : s.story pl.handle = some st := by rw [here]; exact story_eq_some.2 ⟨rfl, own⟩
    rw [found]
    exact Slot.pinned_of_none (entryOf_of_spiked is pl) _ _
  · exact Slot.pinned_of_other (by rwa [entryOf_handle])

theorem snapshot_repinned (l : List Placement) : ∀ (s : Switch) (i : SlotId), (s.slots.get i).Repinned ((s.snapshot l).1.slots.get i) := by
  induction l with
  | nil => exact fun s i => .refl _
  | cons pl l ih =>
    intro s i
    rw [snapshot_cons]
    exact (s.takePin_repinned pl i).trans (ih _ i)

end Switch

/-! ### Pages under automatic releases (R114, R131) -/

/-- A page as it was, or released from MAKING or FAULTED. -/
def Page.Released (x y : Page) : Prop :=
  y = x ∨ (x.state = .making ∨ x.state = .faulted) ∧ ∃ job, y = { x with state := .queued, job := some job }

theorem Page.Released.trans {x y z : Page} (a : x.Released y) (b : y.Released z) : x.Released z := by
  rcases a with rfl | ⟨from', job, rfl⟩
  · exact b
  · rcases b with rfl | ⟨other, -⟩
    · exact .inr ⟨from', job, rfl⟩
    · rcases other with e | e <;> cases e

namespace Switch

/-- What automatic releases do to stories and pages. -/
structure AutoReleased (s t : Switch) : Prop where
  slots : ∀ i, (s.slots.get i).Repinned (t.slots.get i)
  pages : ∀ q, (s.pages.get q).Released (t.pages.get q)

namespace AutoReleased

theorem refl (s : Switch) : s.AutoReleased s := ⟨fun _ => .refl _, fun _ => .inl rfl⟩

theorem trans {s t u : Switch} (a : s.AutoReleased t) (b : t.AutoReleased u) : s.AutoReleased u :=
  ⟨fun i => (a.slots i).trans (b.slots i), fun q => (a.pages q).trans (b.pages q)⟩

theorem releasePage (s : Switch) {q : PageId} (free : (s.pages.get q).state = .making ∨ (s.pages.get q).state = .faulted) (d : PageDef)
    (rush : Bool) : s.AutoReleased (s.releasePage q d rush) := by
  rw [releasePage_eq_releasing]
  refine ⟨fun i => s.snapshot_repinned _ i |>.trans (.refl _), fun k => ?_⟩
  change (s.pages.get k).Released ((s.pages.set q _).get k)
  rw [Bank.get_set]
  split
  · rename_i same
    subst same
    exact .inr ⟨free, _, rfl⟩
  · exact .inl rfl

theorem autoReleasePage (s : Switch) (c : ChannelId) {q : PageId} (free : (s.pages.get q).state = .making ∨ (s.pages.get q).state = .faulted) :
    s.AutoReleased (s.autoReleasePage c q) := by
  unfold Switch.autoReleasePage
  split
  · exact .refl s
  · split
    · exact releasePage s free _ _
    · exact ⟨fun _ => .refl _, fun _ => .inl rfl⟩

theorem autoRelease (s : Switch) (c : ChannelId) (reference : Nat) : s.AutoReleased (s.autoRelease c reference) := by
  have free : ∀ q ∈ s.autoSelected c reference, (s.pages.get q).state = .making ∨ (s.pages.get q).state = .faulted :=
    fun q hq => state_of_mem_autoSelected hq
  have once := s.autoSelected_nodup c reference
  unfold Switch.autoRelease
  generalize s.autoSelected c reference = l at free once
  induction l generalizing s with
  | nil => exact .refl s
  | cons q l ih =>
    obtain ⟨absent, once⟩ := List.nodup_cons.1 once
    refine (autoReleasePage s c (free q List.mem_cons_self)).trans (ih _ (fun k hk => ?_) once)
    rw [autoReleasePage_page_ne c s (ne_of_mem_of_not_mem hk absent)]
    exact free k (List.mem_cons_of_mem _ hk)

end AutoReleased

/-! ### The turn at the channels (R113) -/

/-- A channel as the turn starts it (R113). -/
def turnedChannel (s : Switch) (c : ChannelId) : Channel :=
  { active :=
      if (s.groups.clock.channels.get c).bufferMode = .atTurn then (s.groups.clock.channels.get c).deadline else (s.channels.get c).active
    state := .quiet, lateCount := 0, nextLate := none, atRisk := false, warningDue := false }

theorem turnChannel_cases (ended : Nat) (s : Switch) (c : ChannelId) : s.turnChannel ended c =
    if (s.groups.clock.channels.get c).releaseMode = .atTurn then
      ({ s with channels := s.channels.set c (s.turnedChannel c) } : Switch).autoRelease c ended
    else { s with channels := s.channels.set c (s.turnedChannel c) } := by
  have mode : (match (s.channelSettings c).bufferMode with | .atTurn => (s.channelSettings c).deadline | .direct => (s.channel c).active) =
      if (s.groups.clock.channels.get c).bufferMode = .atTurn then (s.groups.clock.channels.get c).deadline else (s.channels.get c).active := by
    change (match (s.groups.clock.channels.get c).bufferMode with | .atTurn => _ | .direct => _) = _
    cases (s.groups.clock.channels.get c).bufferMode <;> rfl
  unfold turnedChannel
  rw [← mode]
  rfl

end Switch

end Sys2Proof.Machine
end

section
/-! SUPPORT. The edition turn as a whole, and what it keeps (spec/06). -/

namespace Sys2Proof.Machine

namespace Switch

/-! ### The channels, one after another -/

/-- The turn at one channel, as one update. -/
theorem turnChannel_eq (ended : Nat) (s : Switch) (c : ChannelId) : ∃ slots inboxes pages queue releases, s.turnChannel ended c =
    { s with
      channels := s.channels.set c (s.turnedChannel c)
      slots := slots, inboxes := inboxes, pages := pages, queue := queue, releases := releases } := by
  rw [turnChannel_cases]
  split
  · exact autoRelease_eq { s with channels := s.channels.set c (s.turnedChannel c) } c ended
  · exact ⟨s.slots, s.inboxes, s.pages, s.queue, s.releases, rfl⟩

theorem AutoReleased.turnChannel (ended : Nat) (s : Switch) (c : ChannelId) : s.AutoReleased (s.turnChannel ended c) := by
  rw [turnChannel_cases]
  have set : s.AutoReleased { s with channels := s.channels.set c (s.turnedChannel c) } := ⟨fun _ => .refl _, fun _ => .inl rfl⟩
  split
  · exact set.trans (.autoRelease _ c ended)
  · exact set

theorem AutoReleased.turnChannels (ended : Nat) (l : List ChannelId) : ∀ s : Switch, s.AutoReleased (l.foldl (Switch.turnChannel ended) s) := by
  induction l with
  | nil => exact .refl
  | cons c l ih => exact fun s => (AutoReleased.turnChannel ended s c).trans (ih _)

theorem turnChannels_eq (ended : Nat) (s : Switch) (l : List ChannelId) :
    ∃ channels slots inboxes pages queue releases, l.foldl (Switch.turnChannel ended) s =
      { s with channels := channels, slots := slots, inboxes := inboxes, pages := pages, queue := queue, releases := releases } := by
  induction l generalizing s with
  | nil => exact ⟨s.channels, s.slots, s.inboxes, s.pages, s.queue, s.releases, rfl⟩
  | cons c l ih =>
    obtain ⟨_, _, _, _, _, e⟩ := s.turnChannel_eq ended c
    obtain ⟨channels, slots, inboxes, pages, queue, releases, e'⟩ := ih (s.turnChannel ended c)
    exact ⟨channels, slots, inboxes, pages, queue, releases, by rw [List.foldl_cons, e', e]⟩

/-- What becomes of a channel, each taken once. -/
theorem turnChannels_channel (ended : Nat) (s : Switch) {l : List ChannelId} (once : l.Nodup) (c : ChannelId) :
    (l.foldl (Switch.turnChannel ended) s).channels.get c = if c ∈ l then s.turnedChannel c else s.channels.get c := by
  induction l generalizing s with
  | nil => exact (if_neg List.not_mem_nil).symm
  | cons d l ih =>
    obtain ⟨fresh, once⟩ := List.nodup_cons.1 once
    obtain ⟨_, _, _, _, _, e⟩ := s.turnChannel_eq ended d
    rw [List.foldl_cons, ih _ once]
    by_cases same : d = c
    · subst same
      rw [if_neg fresh, if_pos List.mem_cons_self, e]
      exact Bank.get_set_same ..
    · have other : (s.turnChannel ended d).channels.get c = s.channels.get c := by
        rw [e]
        exact Bank.get_set_ne _ _ same
      have turned : (s.turnChannel ended d).turnedChannel c = s.turnedChannel c := by
        unfold turnedChannel
        rw [other, e]
      rw [turned, other]
      simp only [List.mem_cons, Ne.symm same, false_or]

/-! ### The purges of the SPIKED stories (R16 to R18, R26) -/

/-- A SPIKED story's slot after its purge has been requested. -/
def requested (x : Slot) : Slot :=
  match x.story with
  | none => x
  | some st =>
    if ∀ v ∈ st.versions, v.pins = 0 then { gen := x.gen + 1, story := none } else { x with story := some { st with status := .spiked true } }

theorem requested_of_unpinned {x : Slot} {st : Story} (own : x.story = some st) (unpinned : ∀ v ∈ st.versions, v.pins = 0) :
    requested x = { gen := x.gen + 1, story := none } := by
  unfold requested
  rw [own]
  exact if_pos unpinned

theorem requested_of_pinned {x : Slot} {st : Story} (own : x.story = some st) (pinned : ¬∀ v ∈ st.versions, v.pins = 0) :
    requested x = { x with story := some { st with status := .spiked true } } := by
  unfold requested
  rw [own]
  exact if_neg pinned

/-- What purge requests at some slots do. -/
structure Requested (l : List SlotId) (s t : Switch) : Prop where
  frame : StoryFrame s t
  slots : ∀ i, t.slots.get i = if i ∈ l then requested (s.slots.get i) else s.slots.get i
  uploads : ∀ p, t.uploads.get p = s.uploads.get p ∨ ∃ u, s.uploads.get p = some u ∧ t.uploads.get p = some { u with victim := none } ∧
    u.handle.slot ∈ l ∧ (t.slots.get u.handle.slot).gen = u.handle.gen + 1

theorem requestPurge_slot (s : Switch) (i : SlotId) : (s.requestPurge i).slots = s.slots.set i (requested (s.slots.get i)) := by
  cases own : (s.slots.get i).story with
  | none =>
    unfold requestPurge requested
    rw [slot_def, own]
    exact (Bank.set_get ..).symm
  | some st =>
    rw [requestPurge_eq s i st own]
    split
    · rename_i unpinned
      rw [requested_of_unpinned own unpinned]
      rfl
    · rename_i pinned
      rw [requested_of_pinned own pinned]
      rfl

theorem requestPurge_upload (s : Switch) (i : SlotId) (p : PortId) : (s.requestPurge i).uploads.get p = s.uploads.get p ∨
    ∃ u, s.uploads.get p = some u ∧ (s.requestPurge i).uploads.get p = some { u with victim := none } ∧ u.handle.slot = i ∧
      ((s.requestPurge i).slots.get i).gen = u.handle.gen + 1 := by
  cases own : (s.slots.get i).story with
  | none =>
    unfold requestPurge
    rw [slot_def, own]
    exact .inl rfl
  | some st =>
    rw [requestPurge_eq s i st own]
    split
    · change (s.uploads.map _).get p = _ ∨ _
      rw [Bank.get_map]
      cases upload : s.uploads.get p with
      | none => exact .inl rfl
      | some u =>
        by_cases here : u.handle = s.handleAt i
        · refine .inr ⟨u, rfl, ?_, by rw [here]; rfl, ?_⟩
          · change ((s.uploads.map _).get p) = _
            rw [Bank.get_map, upload]
            exact congrArg some (if_pos here)
          · rw [here]
            change ((s.slots.set i _).get i).gen = _
            rw [Bank.get_set_same]
        · exact .inl (congrArg some (if_neg here))
    · exact .inl rfl

theorem Requested.all (l : List SlotId) : ∀ s : Switch, l.Nodup → Requested l s (l.foldl Switch.requestPurge s) := by
  induction l with
  | nil => exact fun s _ => ⟨.refl s, fun i => (if_neg List.not_mem_nil).symm, fun p => .inl rfl⟩
  | cons i l ih =>
    intro s once
    obtain ⟨fresh, once⟩ := List.nodup_cons.1 once
    obtain ⟨frame, slots, uploads⟩ := ih (s.requestPurge i) once
    refine ⟨(requestPurge_frame s i).trans frame, fun j => ?_, fun p => ?_⟩
    · rw [List.foldl_cons, slots j, requestPurge_slot, Bank.get_set]
      by_cases same : i = j
      · subst same
        rw [if_neg fresh, if_pos rfl, if_pos List.mem_cons_self]
      · simp only [same, if_false, List.mem_cons, Ne.symm same, false_or]
    · rw [List.foldl_cons]
      rcases uploads p with kept | ⟨u, is, now, listed, gen⟩
      · rcases s.requestPurge_upload i p with first | ⟨u, was, first, here, gen⟩
        · exact .inl (kept.trans first)
        · refine .inr ⟨u, was, kept.trans first, here ▸ List.mem_cons_self, ?_⟩
          rw [here, slots i, if_neg fresh, gen]
      · rcases s.requestPurge_upload i p with first | ⟨v, was, first, here, -⟩
        · exact .inr ⟨u, first.symm.trans is, now, List.mem_cons_of_mem _ listed, gen⟩
        · cases first.symm.trans is
          exact .inr ⟨v, was, now, List.mem_cons_of_mem _ listed, gen⟩

theorem spikedSlot_iff (x : Slot) : spikedSlot x = true ↔ ∃ st pending, x.story = some st ∧ st.status = .spiked pending := by
  unfold spikedSlot
  split
  · rename_i none
    simp [none]
  · rename_i st own
    rw [own]
    split
    · rename_i pending is
      exact ⟨fun _ => ⟨st, pending, rfl, is⟩, fun _ => rfl⟩
    · rename_i other
      exact ⟨nofun, fun ⟨_, pending, e, is⟩ => absurd (by cases e; exact is) (other pending)⟩

/-- A story is SPIKED after releases exactly where it was before. -/
theorem spikedSlot_of_repinned {x y : Slot} (h : x.Repinned y) : spikedSlot y = spikedSlot x := by
  have status (z : Slot) : spikedSlot z = match z.story.map Story.status with | some (.spiked _) => true | _ => false := by
    unfold spikedSlot
    cases z.story with
    | none => rfl
    | some st => cases status : st.status <;> simp [status]
  rw [status, status, h.status]

/-! ### The turn (R100) -/

theorem beginTurn_eq (s : Switch) : s.beginTurn =
    { s with
      clock :=
        { running := s.clock.running, ticks := 0, edition := if s.clock.edition = 255 then 1 else s.clock.edition + 1
          activeLength := s.groups.clock.editionLength }
      inboxes :=
        (s.post
          { kind := .editionTurned, cls := .priority, stamp := s.wall
            edition := some (if s.clock.edition = 255 then 1 else s.clock.edition + 1) }
          (fun p => (s.ports.get p).standing == .active || (s.ports.get p).standing == .guarded)).inboxes } := by
  have reached : (fun p => !s.isDetached p) = fun p => (s.ports.get p).standing == .active || (s.ports.get p).standing == .guarded := by
    funext p
    unfold isDetached
    rw [port_def]
    cases (s.ports.get p).standing <;> rfl
  rw [← reached]
  rfl

theorem turnedFrom_turnEdition (s : Switch) : s.TurnedFrom s.turnEdition := by
  have released := AutoReleased.turnChannels s.clock.edition (allBelow 16) s.beginTurn
  have channel := turnChannels_channel s.clock.edition s.beginTurn (allBelow_pairwise_lt 16).nodup
  obtain ⟨channels, slots, inboxes, pages, queue, releases, e⟩ := turnChannels_eq s.clock.edition s.beginTurn (allBelow 16)
  rw [e] at released channel
  rw [turnEdition_eq, e]
  generalize shape : ({ s.beginTurn with
    channels := channels, slots := slots, inboxes := inboxes, pages := pages, queue := queue, releases := releases } : Switch) = t at released channel ⊢
  have cleared := Requested.all (t.slots.indices spikedSlot) t ((Bank.indices_pairwise_lt _ _).imp Fin.ne_of_lt)
  have listed (i : SlotId) : i ∈ t.slots.indices spikedSlot ↔ ∃ st pending, (s.slots.get i).story = some st ∧ st.status = .spiked pending := by
    rw [Bank.mem_indices, spikedSlot_of_repinned (released.slots i), spikedSlot_iff]
    rfl
  change s.TurnedFrom ((t.slots.indices spikedSlot).foldl Switch.requestPurge t).forgetSent
  generalize (t.slots.indices spikedSlot).foldl Switch.requestPurge t = w at cleared
  obtain ⟨frame, purged, uploads⟩ := cleared
  have pageNow (q : PageId) : w.forgetSent.pages.get q =
      if (t.pages.get q).state = .sent then { t.pages.get q with state := .making } else t.pages.get q :=
    (Bank.get_map _ _ _).trans (by rw [frame.pages])
  subst shape
  exact
    { clock := frame.clock.trans (by rw [beginTurn_eq])
      channels := fun c => (congrArg (fun b => b.get c) frame.channels).trans ((channel c).trans (if_pos (mem_allBelow c)))
      purged := fun i st pending own is unpinned => by
        have same := (released.slots i).spiked st pending own is
        refine (purged i).trans ((if_pos ((listed i).2 ⟨st, pending, own, is⟩)).trans ?_)
        rw [same]
        exact requested_of_unpinned own unpinned
      purgePending := fun i st pending own is pinned => by
        have same := (released.slots i).spiked st pending own is
        refine (purged i).trans ((if_pos ((listed i).2 ⟨st, pending, own, is⟩)).trans ?_)
        rw [same]
        exact requested_of_pinned own pinned
      keptStory := fun i other => by
        have same : w.slots.get i = slots.get i := (purged i).trans (if_neg fun spiked => by
          obtain ⟨st, pending, own, is⟩ := (listed i).1 spiked
          exact other st pending own is)
        change (w.slots.get i).gen = _ ∧ (w.slots.get i).story.map _ = _
        rw [same]
        exact ⟨(released.slots i).gen, (released.slots i).story⟩
      sentPage := fun q sent => by
        rcases released.pages q with same | ⟨free, -⟩
        · rw [pageNow q, same]
          exact if_pos sent
        · rcases free with e | e <;> cases sent.symm.trans e
      placedPage := fun q placed => by
        rcases released.pages q with same | ⟨free, -⟩
        · rw [pageNow q, same]
          refine if_neg fun sent => ?_
          rcases placed with e | e <;> cases e.symm.trans sent
        · rcases free with e | e <;> rcases placed with e' | e' <;> cases e.symm.trans e'
      otherPage := fun q free => by
        rcases released.pages q with same | ⟨-, job, e⟩
        · rw [pageNow q, same]
          refine .inl (if_neg fun sent => ?_)
          rcases free with e | e <;> cases e.symm.trans sent
        · rw [pageNow q, e]
          exact .inr ⟨job, if_neg nofun⟩
      reserved := frame.reserved
      copy := frame.copy
      uploads := fun p => (uploads p).imp_right fun ⟨u, was, now, _, gen⟩ => ⟨u, was, now, gen⟩
      sending := frame.sending
      links := frame.links
      active := frame.active
      pace := frame.pace
      groups := frame.groups
      holds := frame.holds
      image := frame.image
      saving := frame.saving
      starting := frame.starting
      cause := frame.cause
      defaulted := frame.defaulted
      free := frame.free }

end Switch

end Sys2Proof.Machine
end

section
/-! SUPPORT. The tick and the command that turn the edition (spec/06). -/

namespace Sys2Proof.Machine

namespace Switch

theorem turnEdition_wall (s : Switch) : s.turnEdition.wall = s.wall := by
  obtain ⟨_, _, _, _, _, _, e⟩ := turnChannels_eq s.clock.edition s.beginTurn (allBelow 16)
  rw [turnEdition_eq, e]
  exact (Requested.all _ _ ((Bank.indices_pairwise_lt _ _).imp Fin.ne_of_lt)).frame.wall

theorem turnEdition_ports (s : Switch) : s.turnEdition.ports = s.ports := by
  obtain ⟨_, _, _, _, _, _, e⟩ := turnChannels_eq s.clock.edition s.beginTurn (allBelow 16)
  rw [turnEdition_eq, e]
  exact (Requested.all _ _ ((Bank.indices_pairwise_lt _ _).imp Fin.ne_of_lt)).frame.ports

/-- What a turn is said of does not reach the tight condition, the inboxes, the wall counter, the ports or the record of the event. -/
theorem TurnedFrom.easedTest {s w : Switch} (h : s.TurnedFrom w) : s.TurnedFrom w.easedTest := by
  obtain ⟨tight, boxes, e⟩ := easedTest_eq w
  rw [e]
  exact { h with }

theorem TurnedFrom.answered {s w : Switch} (h : s.TurnedFrom w) (ports : Bank 6 Port) (last : LastEvent) :
    s.TurnedFrom { w with ports := ports, last := last } := { h with }

theorem TurnedFrom.of_start {s w : Switch} {wall : Word32} {last : LastEvent} (h : TurnedFrom { s with wall := wall, last := last } w) :
    s.TurnedFrom w := { h with }

end Switch

open Switch in
/-- Settles O23: the turn step by step, the tick and the command that make it, and the events that do not. -/
theorem theEditionTurns : Obligations.TheEditionTurns := by
  refine ⟨fun s => ?_, fun s runs reached => ?_, fun s early => ?_, fun s h a e taken checked => ⟨fun named => ?_, fun n other wrong => ?_⟩⟩
  · intro e begun channel purge released spiked cleared
    have begins : begun = s.beginTurn := (beginTurn_eq s).symm
    have channels : channel = Switch.turnChannel s.clock.edition := by
      funext t c
      exact (turnChannel_cases s.clock.edition t c).symm
    have purges : purge = Switch.requestPurge := by
      funext t i
      dsimp only [purge]
      cases own : (t.slots.get i).story with
      | none =>
        unfold Switch.requestPurge
        rw [slot_def, own]
      | some st => exact (requestPurge_eq t i st own).symm
    have releases : released = (allBelow 16).foldl (Switch.turnChannel s.clock.edition) s.beginTurn := by
      rw [← channels, ← begins]
    have spikes : spiked = released.slots.indices spikedSlot := by
      refine congrArg (fun f => released.slots.indices f) (funext fun x => ?_)
      unfold spikedSlot
      cases x.story with
      | none => rfl
      | some st => cases status : st.status <;> simp [status]
    have clears : cleared = released.purgeSpiked := by
      unfold purgeSpiked
      rw [← spikes, ← purges]
    rw [turnEdition_eq, ← releases, ← clears]
    rfl
  · intro w
    have turns : s.sw.quietly.turnsAtTick = true := (turnsAtTick_iff _).2 ⟨runs, reached⟩
    have turned := (turnedFrom_turnEdition { s.sw with wall := s.sw.wall + 1, last := { sent := [], released := false } }).easedTest.of_start
    refine ⟨State.run_eased s turnTick _ (if_pos turns), State.run_eased s tick _ (if_pos turns), turned, ?_, ?_, ?_⟩
    · exact (easedTest_fields _).1.trans (turnEdition_wall _)
    · simp only [w, easedTest_fields, turnEdition_ports]
    · simp only [w, easedTest_fields, Replies.turnEdition_sent]
  · have still : ¬s.sw.quietly.turnsAtTick = true := fun turns => by
      obtain ⟨runs, reached⟩ := (turnsAtTick_iff _).1 turns
      rcases early with stopped | below
      · cases stopped.symm.trans runs
      · exact Nat.not_le_of_lt below reached
    exact State.run_eq s turnTick _ (if_neg still) (by rfl)
  · intro t w
    have work : turnCommand h e s.sw.quietly = t.answer h .ok [byte t.clock.edition] := if_pos named
    have ports : t.creditedPorts h.port = s.sw.creditedPorts h.port := by
      unfold creditedPorts
      rw [turnEdition_ports]
      rfl
    have sent : t.last.sent = [] := Replies.turnEdition_sent _
    have does : turnCommand h e s.sw.quietly =
        { t with
          ports := s.sw.creditedPorts h.port
          last := { t.last with sent := [resultFrame h .ok [byte t.clock.edition]] } } := by
      rw [work, answer_eq, if_pos rfl, ports, sent]
      rfl
    refine ⟨State.eases taken checked does, ?_, ?_⟩
    · exact ((turnedFrom_turnEdition s.sw.quietly).answered _ _).easedTest.of_start
    · have wall : t.wall = s.sw.wall := turnEdition_wall s.sw.quietly
      simp only [w, easedTest_fields, wall]
  · refine State.refuses taken checked (if_neg fun named => ?_)
    rcases named with e | e
    · cases other.symm.trans e
    · cases other.symm.trans e
      exact wrong rfl

end Sys2Proof.Machine
end

section
/-! SUPPORT. The state of the links and the active link: rises, falls, settling, fail-over, take-over and return, and attempts broken off (spec/08). -/

namespace Sys2Proof.Machine

namespace Switch

/-! ### Changes of the active link (R138, R139, R140, R149) -/

theorem linkReason_eq (l : LinkId) : linkReason l = if l = .a then .linkA else .linkB := by cases l <;> rfl

/-- The active link changed, with its notice to the control ports. -/
def movedTo (s : Switch) (l : LinkId) (kind : NoticeKind) (cls : Urgency) (q : Option PageId) : Switch :=
  { s with
    active := l
    pace := { s.pace with samples := [], pace := 0 }
    inboxes :=
      (s.postControl
        { kind := kind, cls := cls, stamp := s.wall, reason := some (if l = .a then .linkA else .linkB), page := q }).inboxes }

theorem activate_postLink (s : Switch) (l : LinkId) (kind : NoticeKind) (cls : Urgency) (q : Option PageId) :
    (s.activate l).postLink kind cls l q = s.movedTo l kind cls q := by
  unfold postLink movedTo
  rw [linkReason_eq]
  rfl

theorem postLink_eq (s : Switch) (l : LinkId) (kind : NoticeKind) (cls : Urgency) (q : Option PageId) : s.postLink kind cls l q =
    { s with
      inboxes :=
        (s.postControl
          { kind := kind, cls := cls, stamp := s.wall, reason := some (if l = .a then .linkA else .linkB), page := q }).inboxes } := by
  unfold postLink
  rw [linkReason_eq]
  rfl

theorem failOver_cases (s : Switch) (l : LinkId) (q : Option PageId) : s.failOver l q =
    if (s.links.get l.other).state = .up then s.movedTo l.other .linkSwitched .flash q
    else
      { s with
        inboxes :=
          (s.postControl
            { kind := .linkDown, cls := .flash, stamp := s.wall, reason := some (if l = .a then .linkA else .linkB), page := q }).inboxes } := by
  unfold failOver
  rw [activate_postLink, postLink_eq]
  rfl

theorem takeOver_cases (s : Switch) (l : LinkId) : s.takeOver l =
    if l ≠ s.active ∧ (s.links.get s.active).state ≠ .up then
      (if l = s.groups.feed.home then s.movedTo l .linkReturned .priority none else s.movedTo l .linkSwitched .flash none)
    else s := by
  unfold takeOver
  dsimp only
  rw [activate_postLink, activate_postLink]
  rfl

theorem returnHome_cases (s : Switch) : s.returnHome =
    if s.active ≠ s.groups.feed.home ∧ (s.links.get s.groups.feed.home).state = .up ∧ (s.links.get s.active).engine = .idle then
      s.movedTo s.groups.feed.home .linkReturned .priority none
    else s := by
  unfold returnHome
  dsimp only
  rw [activate_postLink]
  rfl

theorem failOver_last (s : Switch) (l : LinkId) (q : Option PageId) : (s.failOver l q).last = s.last := by
  rw [failOver_cases]
  split <;> rfl

theorem takeOver_last (s : Switch) (l : LinkId) : (s.takeOver l).last = s.last := by
  rw [takeOver_cases]
  split
  · split <;> rfl
  · rfl

theorem returnHome_last (s : Switch) : s.returnHome.last = s.last := by
  rw [returnHome_cases]
  split <;> rfl

theorem settleDue_iff (s : Switch) (l : LinkId) : s.settleDue l = true ↔
    (s.links.get l).state = .settling ∧ (s.links.get l).ready = true ∧
      s.groups.feed.settlePeriod ≤ (s.wall - (s.links.get l).settleStart).toNat := by
  unfold settleDue
  dsimp only
  rw [Bool.and_eq_true, Bool.and_eq_true, beq_iff_eq, decide_eq_true_iff, and_assoc, link_def]
  rfl

theorem engineIdled_cases (s : Switch) (l : LinkId) : s.engineIdled l =
    if (s.links.get l).ready = false ∧ (s.links.get l).state = .up then
      (if s.active = l then (({ s with links := s.links.set l { s.links.get l with state := .down } } : Switch).failOver l none).returnHome
       else ({ s with links := s.links.set l { s.links.get l with state := .down } } : Switch).returnHome)
    else s.returnHome := by
  unfold engineIdled
  dsimp only
  rw [link_def]
  by_cases fallen : (s.links.get l).ready = false ∧ (s.links.get l).state = .up
  · rw [if_pos fallen, if_pos fallen]
    by_cases own : s.active = l
    · rw [if_pos own]
      exact congrArg returnHome (if_pos own)
    · rw [if_neg own]
      exact congrArg returnHome (if_neg own)
  · rw [if_neg fallen, if_neg fallen]

/-! ### A ready line's fall (R136) -/

theorem fallReady_cases (s : Switch) (l : LinkId) : s.fallReady l =
    match (s.links.get l).state with
    | .settling => { s with links := s.links.set l { s.links.get l with ready := false, state := .down } }
    | .up =>
      if (s.links.get l).engine = .idle then
        if s.active = l then
          ({ s with links := s.links.set l { s.links.get l with ready := false, state := .down } } : Switch).failOver l none
        else { s with links := s.links.set l { s.links.get l with ready := false, state := .down } }
      else { s with links := s.links.set l { s.links.get l with ready := false } }
    | .off => { s with links := s.links.set l { s.links.get l with ready := false } }
    | .down => { s with links := s.links.set l { s.links.get l with ready := false } } := by
  have again (x y : Link) : (s.setLink l x).setLink l y = s.setLink l y := by
    unfold setLink
    dsimp only
    rw [PerLink.set_set]
  have here (x : Link) : (s.setLink l x).link l = x := PerLink.get_set_same ..
  unfold Switch.fallReady dropLink
  dsimp only
  rw [here, again]
  rfl

end Switch

open Switch in
/-- Settles O33: the events of the lines, and the three changes of the active link in their functions. -/
theorem linksRiseFallAndTakeOver : Obligations.LinksRiseFallAndTakeOver := by
  refine ⟨fun s l => ?_, fun s l => ⟨fun q => failOver_cases s l q, takeOver_cases s l, returnHome_cases s, engineIdled_cases s l⟩⟩
  intro x left
  refine ⟨fun down => ?_, fun on => ?_, fun still => ?_, fun settling => ?_, fun up idle => ?_, fun settling ready reached => ?_, fun early => ?_⟩
  · exact State.run_eq s (riseReady l) _ (congrArg (s.sw.quietly.setLink l) (if_pos down)) (by rfl)
  · exact State.run_eq s (riseReady l) _ (congrArg (s.sw.quietly.setLink l) (if_neg on)) (by rfl)
  · refine State.run_eq s (fallReady l) _ ((fallReady_cases s.sw.quietly l).trans ?_) (by rfl)
    rcases still with off | down | ⟨up, busy⟩
    · rw [show (s.sw.quietly.links.get l).state = .off from off]
      rfl
    · rw [show (s.sw.quietly.links.get l).state = .down from down]
      rfl
    · rw [show (s.sw.quietly.links.get l).state = .up from up]
      exact if_neg busy
  · refine State.run_eq s (fallReady l) _ ((fallReady_cases s.sw.quietly l).trans ?_) (by rfl)
    rw [show (s.sw.quietly.links.get l).state = .settling from settling]
    rfl
  · intro down
    refine State.run_eq s (fallReady l) _ ((fallReady_cases s.sw.quietly l).trans ?_) ?_
    · rw [show (s.sw.quietly.links.get l).state = .up from up]
      exact if_pos idle
    · split
      · rw [failOver_last]
      · rfl
  · refine State.run_eq s (settleLink l) _ (if_pos ((settleDue_iff s.sw.quietly l).2 ⟨settling, ready, reached⟩)) ?_
    rw [returnHome_last, takeOver_last]
  · refine State.run_eq s (settleLink l) _ (if_neg fun due => ?_) (by rfl)
    obtain ⟨settling, ready, reached⟩ := (settleDue_iff s.sw.quietly l).1 due
    rcases early with other | down | short
    · exact other settling
    · cases down.symm.trans ready
    · exact Nat.not_le_of_lt short reached

end Sys2Proof.Machine
end

section
/-! SUPPORT. Stalls, and the attempts they break off (spec/08). -/

namespace Sys2Proof.Machine

theorem Link.stallDue_iff (x : Link) (wall : Word32) (window : Nat) : x.stallDue wall window = true ↔
    (x.engine = .presenting ∨ x.engine = .voiding) ∧ window ≤ (wall - x.progress).toNat ∨
      x.engine = .awaiting ∧ 40 ≤ (wall - x.waitStart).toNat := by
  unfold Link.stallDue elapsed
  cases engine : x.engine <;> simp

namespace Switch

/-! ### Attempts broken off (R145, R147) -/

/-- The switch with a link's engine IDLE and the link in a state. -/
def idledIn (s : Switch) (l : LinkId) (state : LinkState) : Switch :=
  { s with
    links := s.links.set l
      { s.links.get l with state := state, engine := .idle, page := none, taken := 0, trailerTaken := 0, voided := none } }

theorem breakOff_of_voiding {s : Switch} {l : LinkId} (voiding : (s.links.get l).engine = .voiding) (state : LinkState) :
    s.breakOff l state = (s.idledIn l state).failOver l none := by
  unfold breakOff
  dsimp only
  rw [link_def, voiding]
  rfl

theorem breakOff_of_flying {s : Switch} {l : LinkId} {q : PageId}
    (flying : (s.links.get l).engine = .presenting ∨ (s.links.get l).engine = .awaiting) (page : (s.links.get l).page = some q)
    (state : LinkState) : s.breakOff l state = (s.idledIn l state).abandonAttempt l q := by
  unfold breakOff
  dsimp only
  rw [link_def, page]
  rcases flying with e | e
  all_goals
    rw [e]
    rfl

theorem attempts_of_job {s : Switch} {q : PageId} {j : Job} (held : (s.pages.get q).job = some j) : s.attempts q = j.attempts := by
  unfold attempts
  rw [page_def, held]
  rfl

theorem abandonAttempt_of_limit {s : Switch} {l : LinkId} {q : PageId} {j : Job} (held : (s.pages.get q).job = some j)
    (limit : s.groups.feed.attemptLimit ≤ j.attempts) : s.abandonAttempt l q = (s.discardWindow.faultPage q .stalled).failOver l (some q) :=
  if_pos (by rw [attempts_of_job (s := s.discardWindow) held]; exact limit)

theorem abandonAttempt_of_other {s : Switch} {l : LinkId} {q : PageId} {j : Job} (held : (s.pages.get q).job = some j)
    (below : j.attempts < s.groups.feed.attemptLimit) (up : (s.links.get l.other).state = .up) : s.abandonAttempt l q =
      ((s.discardWindow.activate l.other).beginAttempt l.other q).postLink .linkSwitched .flash l.other (some q) :=
  (if_neg (by rw [attempts_of_job (s := s.discardWindow) held]; exact Nat.not_le_of_lt below)).trans (if_pos up)

theorem abandonAttempt_of_none {s : Switch} {l : LinkId} {q : PageId} {j : Job} (held : (s.pages.get q).job = some j)
    (below : j.attempts < s.groups.feed.attemptLimit) (down : (s.links.get l.other).state ≠ .up) : s.abandonAttempt l q =
      (s.discardWindow.returnPage q).postLink .linkDown .flash l (some q) :=
  (if_neg (by rw [attempts_of_job (s := s.discardWindow) held]; exact Nat.not_le_of_lt below)).trans (if_neg down)

theorem idledIn_other (s : Switch) (l : LinkId) (state : LinkState) : (s.idledIn l state).links.get l.other = s.links.get l.other :=
  PerLink.get_set_other ..

end Switch

open Switch in
/-- Settles O34: when a stall is due, and where a broken attempt's page goes. -/
theorem stallsBreakAttemptsOff : Obligations.StallsBreakAttemptsOff := by
  refine ⟨fun s l => ?_, fun s l state => ?_⟩
  · intro x due
    have iff : (s.sw.quietly.link l).stallDue s.sw.quietly.wall s.sw.quietly.groups.feed.stallWindow = true ↔ due := Link.stallDue_iff ..
    refine ⟨fun is => State.run_eased s (stallLink l) _ (if_pos (iff.2 is)), fun early => ?_⟩
    exact State.run_eq s (stallLink l) _ (if_neg fun e => early (iff.1 e)) (by rfl)
  · intro x idle
    refine ⟨fun voiding => breakOff_of_voiding voiding state, fun q j flying page held => ?_⟩
    intro cut
    rw [breakOff_of_flying flying page]
    refine ⟨fun limit => abandonAttempt_of_limit (s := s.idledIn l state) held limit, fun below up => ?_, fun below down => ?_⟩
    · intro y
      rw [abandonAttempt_of_other (s := s.idledIn l state) held below (by rw [idledIn_other]; exact up), postLink_eq,
        beginAttempt_eq (s := (s.idledIn l state).discardWindow.activate l.other) held]
      have begun : ((s.idledIn l state).discardWindow.activate l.other).presentingLink l.other q =
          { y with engine := .presenting, page := some q, taken := 0, progress := s.wall } := by
        unfold presentingLink
        rw [show ((s.idledIn l state).discardWindow.activate l.other).link l.other = y from s.idledIn_other l state]
        rfl
      rw [begun]
      rfl
    · rw [abandonAttempt_of_none (s := s.idledIn l state) held below (by rw [idledIn_other]; exact down), postLink_eq,
        returnPage_eq (s := (s.idledIn l state).discardWindow) held]
      rfl

end Sys2Proof.Machine
end

section
/-! SUPPORT. Starts, take strobes and end-of-page statuses (spec/08). -/

namespace Sys2Proof.Machine

namespace Switch

/-! ### Starts (R141) -/

theorem startPage_of_head {s : Switch} {q : PageId} {rest : List PageId} {j : Job} (queue : s.queue = q :: rest)
    (held : (s.pages.get q).job = some j) (up : (s.links.get s.active).state = .up) (idle : (s.links.get s.active).engine = .idle)
    (none : s.sending = none) : s.startPage =
      if j.attempts < s.groups.feed.attemptLimit then ({ s with queue := rest } : Switch).beginAttempt s.active q else s.faultPage q .stalled := by
  have start : s.startable = some q := by
    unfold startable
    rw [queue]
    exact if_pos ⟨up, idle, none⟩
  unfold startPage
  rw [start]
  dsimp only
  rw [attempts_of_job held, queue]
  rfl

theorem startPage_of_none {s : Switch} (none : s.queue = [] ∨ (s.links.get s.active).state ≠ .up ∨ (s.links.get s.active).engine ≠ .idle ∨
    s.sending ≠ none) : s.startPage = s := by
  have start : s.startable = Option.none := by
    unfold startable
    split
    · rename_i ready
      obtain ⟨up, idle, still⟩ := ready
      rcases none with empty | down | busy | sending
      · rw [empty]
        rfl
      · exact absurd up down
      · exact absurd idle busy
      · exact absurd still sending
    · rfl
  unfold startPage
  rw [start]

/-! ### Take strobes (R142, R147) -/

theorem emitPresented_eq (s : Switch) (l : LinkId) : s.emitPresented l =
    { s with last := { s.last with sent := s.last.sent ++ ((s.presented l).map (Emission.byte l)).toList } } := by
  unfold emitPresented
  cases s.presented l with
  | none =>
    change s = { s with last := { s.last with sent := s.last.sent ++ [] } }
    rw [List.append_nil]
  | some b => rfl

/-- The switch with what a strobe sends on a link as the event's emissions. -/
def strobed (s : Switch) (l : LinkId) : Switch :=
  { s with last := { sent := ((s.presented l).map (Emission.byte l)).toList, released := false } }

theorem quietly_entriesStream (s : Switch) (l : List Entry) : ∀ i, s.quietly.entriesStream i l = s.entriesStream i l := by
  induction l with
  | nil => exact fun _ => rfl
  | cons e l ih =>
    intro i
    unfold entriesStream
    rw [ih]
    rfl

theorem quietly_pageStream (s : Switch) : s.quietly.pageStream = s.pageStream := by
  funext q j
  unfold pageStream pageBody
  rw [quietly_entriesStream]

theorem quietly_presented (s : Switch) (l : LinkId) : s.quietly.presented l = s.presented l := by
  unfold presented
  rw [quietly_pageStream]
  rfl

theorem quietly_emitPresented (s : Switch) (l : LinkId) : s.quietly.emitPresented l = s.strobed l := by
  rw [emitPresented_eq, quietly_presented]
  rfl

theorem engineIdled_last (s : Switch) (l : LinkId) : (s.engineIdled l).last = s.last := by
  rw [engineIdled_cases]
  split
  · split
    · rw [returnHome_last, failOver_last]
    · rw [returnHome_last]
  · rw [returnHome_last]

end Switch

open Switch in
/-- Settles O35: a start's two outcomes, and what a strobe takes by the state of the engine. -/
theorem startsAndStrobesSendThePage : Obligations.StartsAndStrobesSendThePage := by
  refine ⟨fun s q rest j => ?_, fun s none => State.run_eq s startPage _ (startPage_of_none (s := s.sw.quietly) none) (by rfl), fun s l => ?_⟩
  · intro l x queue held up idle none
    have start := startPage_of_head (s := s.sw.quietly) queue held up idle none
    refine ⟨fun below => State.run_eq s startPage _ (start.trans ((if_pos below).trans ?_)) (by rfl), fun limit =>
      State.run_eased s startPage _ (start.trans (if_neg (Nat.not_lt_of_le limit)))⟩
    exact beginAttempt_eq (s := { s.sw.quietly with queue := rest }) held _
  · intro x sent
    refine ⟨fun q j presenting page held => ?_, fun voiding => ?_, fun other => ?_⟩
    · have length : s.sw.quietly.flightLength l = some j.length := by
        unfold flightLength
        rw [link_def, show (s.sw.quietly.links.get l).page = some q from page]
        change (s.sw.pages.get q).job.map Job.length = _
        rw [held]
        rfl
      have work : takeStrobe l s.sw.quietly = s.sw.quietly.takePageByte l j.length := by
        unfold takeStrobe
        rw [length, link_def, show (s.sw.quietly.links.get l).engine = .presenting from presenting]
      unfold takePageByte at work
      rw [quietly_emitPresented] at work
      exact ⟨fun more => State.run_eq s (takeStrobe l) _ (work.trans (if_neg (Nat.not_le_of_lt more))) (by rfl), fun last =>
        State.run_eq s (takeStrobe l) _ (work.trans (if_pos last)) (by rfl)⟩
    · have work : takeStrobe l s.sw.quietly = s.sw.quietly.takeVoidByte l := by
        unfold takeStrobe
        rw [link_def, show (s.sw.quietly.links.get l).engine = .voiding from voiding]
      unfold takeVoidByte at work
      rw [quietly_emitPresented] at work
      refine ⟨fun more => State.run_eq s (takeStrobe l) _ (work.trans (if_neg (Nat.not_le_of_lt more))) (by rfl), fun last =>
        State.run_eq s (takeStrobe l) _ (work.trans (if_pos last)) ?_⟩
      rw [engineIdled_last]
    · refine State.run_eq s (takeStrobe l) _ ?_ (by rfl)
      unfold takeStrobe
      rcases other with e | e
      all_goals rw [link_def, show (s.sw.quietly.links.get l).engine = _ from e]

namespace Switch

/-! ### End-of-page statuses (R143, R144) -/

theorem awaited_of_page {s : Switch} {l : LinkId} {q : PageId} (awaiting : (s.links.get l).engine = .awaiting)
    (page : (s.links.get l).page = some q) : s.awaited l = some q := (if_pos awaiting).trans page

theorem awaited_of_other {s : Switch} {l : LinkId} (other : (s.links.get l).engine ≠ .awaiting) : s.awaited l = none := if_neg other

end Switch

open Switch in
/-- Settles O37: the three ends of an attempt, and a status that reaches no page. -/
theorem statusesEndTheAttempt : Obligations.StatusesEndTheAttempt := by
  intro s l x idle
  refine ⟨fun q j awaiting page held => ?_, fun other => ?_⟩
  · have reached := awaited_of_page (s := s.sw.quietly) awaiting page
    refine ⟨?_, fun below => ?_, fun limit => ?_⟩
    · intro done
      refine State.run_eased s (acceptPage l) _ ?_
      unfold acceptPage
      rw [reached]
      dsimp only
      unfold setLink
      rw [(completePage_links s.sw.quietly q).links]
      rfl
    · refine State.run_eq s (rejectPage l) _ ?_ (by rfl)
      unfold rejectPage
      rw [reached]
      dsimp only
      rw [attempts_of_job (s := s.sw.quietly) held, if_pos (show j.attempts < s.sw.quietly.groups.feed.attemptLimit from below),
        beginAttempt_eq (s := s.sw.quietly) held]
      unfold presentingLink
      rw [← show x.page = some q from page]
      rfl
    · intro done
      refine State.run_eased s (rejectPage l) _ ?_
      unfold rejectPage
      rw [reached]
      dsimp only
      rw [attempts_of_job (s := s.sw.quietly) held, if_neg (show ¬j.attempts < s.sw.quietly.groups.feed.attemptLimit from Nat.not_lt_of_le limit)]
      unfold setLink
      rw [(faultPage_links s.sw.quietly q .rejected).links]
      rfl
  · have missed := awaited_of_other (s := s.sw.quietly) other
    exact ⟨State.run_eq s (acceptPage l) _ (by unfold acceptPage; rw [missed]) (by rfl),
      State.run_eq s (rejectPage l) _ (by unfold rejectPage; rw [missed]) (by rfl)⟩

end Sys2Proof.Machine
end

section
/-! SUPPORT. The typesetter stream, and the pace window with its at-risk test (spec/08, spec/11). -/

namespace Sys2Proof.Machine

theorem orAllOnes_eq (binding : Option ChannelId) : orAllOnes binding (fun c => byte c.val) = match binding with | none => 0xFF | some c => byte c.val := by
  cases binding <;> rfl

/-- The bytes of one snapshot entry's header (R177). -/
def placementBytes (i : Nat) (e : Entry) : List Byte :=
  [0x54, byte i] ++ be16 e.handle.slot.val ++ [e.handle.gen, (if e.openAtRelease then 1 else 0) ||| (if e.version = none then 2 else 0)] ++
    be16 (e.version.getD 0) ++ be16 e.length ++ [0, 0, 0, 0, 0, 0] ++ e.frame

theorem textSlice_length (copy : List Host.Cell) (chain : List Nat) (first count : Nat) : (textSlice copy chain first count).length = count := by
  induction count generalizing first with
  | zero => rfl
  | succ count ih => exact congrArg (· + 1) (ih _)

namespace Switch

theorem placementHeader_eq (i : Nat) (e : Entry) : placementHeader i e = placementBytes i e := by
  unfold placementHeader placementBytes Handle.bytes entryFlags
  simp only [Option.isNone_iff_eq_none, List.append_assoc]
  rfl

theorem entriesStream_eq (s : Switch) (l : List Entry) : ∀ i,
    s.entriesStream i l = ((l.zipIdx i).map fun x => placementBytes x.2 x.1 ++ s.entryText x.1).flatten := by
  induction l with
  | nil => exact fun _ => rfl
  | cons e l ih =>
    intro i
    unfold entriesStream
    rw [ih, placementHeader_eq]
    rfl

theorem entryText_length (s : Switch) {e : Entry} (omitted : e.version = none → e.length = 0) : (s.entryText e).length = e.length := by
  unfold entryText
  split
  · rename_i none
    exact (omitted none).symm
  · exact textSlice_length ..

theorem entriesStream_length (s : Switch) {l : List Entry} (shape : ∀ e ∈ l, e.frame.length = 16 ∧ (e.version = none → e.length = 0)) :
    ∀ i, (s.entriesStream i l).length = 32 * l.length + (l.map Entry.length).sum := by
  induction l with
  | nil => exact fun _ => rfl
  | cons e l ih =>
    intro i
    obtain ⟨frame, omitted⟩ := shape e List.mem_cons_self
    unfold entriesStream
    have header : (placementHeader i e).length = 32 := by simp [placementHeader_eq, placementBytes, be16, frame]
    rw [List.length_append, List.length_append, ih (fun e he => shape e (List.mem_cons_of_mem _ he)), header, s.entryText_length omitted,
      List.length_cons, List.map_cons, List.sum_cons]
    omega

end Switch

open Switch in
/-- Settles O36: the body entry by entry, its trailer and its length, and the byte a link presents. -/
theorem thePageStreamIsLaidOut : Obligations.ThePageStreamIsLaidOut := by
  intro s q j body header placement
  have head : pageHeader q j = header := by
    unfold pageHeader
    rw [orAllOnes_eq] <;> rfl
  refine ⟨?_, ?_, fun e st v found version named => ?_, fun shape => ?_, fun l presenting page held => ?_, fun l edition voiding voided => ?_⟩
  · dsimp only [body]
    unfold pageBody
    rw [head, entriesStream_eq]
    rfl
  · unfold pageStream endTrailer
    simp only [List.append_assoc]
    rfl
  · unfold entryText
    rw [version, found]
    dsimp only
    rw [Option.bind_some, Story.version, named]
    rfl
  · have first : (pageHeader q j).length = 16 := rfl
    have last : (endTrailer q j (s.pageBody q j)).length = 8 := rfl
    unfold pageStream
    dsimp only
    rw [List.length_append, last, pageBody, List.length_append, first, s.entriesStream_length shape]
    omega
  · unfold presented
    dsimp only
    rw [link_def, presenting, page]
    dsimp only
    rw [Option.bind_some, page_def, held]
    rfl
  · unfold presented
    dsimp only
    rw [link_def, voiding, voided]
    rfl

namespace Switch

/-! ### The pace window and the at-risk test (R115, R148, R149) -/

theorem windowDue_iff (s : Switch) (w : PaceWindow) : s.windowDue = some w ↔
    s.pace.window = some w ∧ w.length ≤ (s.wall - w.start).toNat ∧ (s.links.get s.active).engine = .presenting := by
  unfold windowDue
  cases s.pace.window with
  | none => exact ⟨nofun, fun e => nomatch e.1⟩
  | some v =>
    dsimp only
    rw [link_def, Option.some_inj]
    split
    · rename_i due
      rw [Option.some_inj]
      exact ⟨fun e => ⟨e, e ▸ due⟩, fun e => e.1⟩
    · rename_i early
      exact ⟨nofun, fun e => absurd (e.1 ▸ e.2) early⟩

theorem closeWindow_of_early {s : Switch} (early : s.windowDue = none) : s.closeWindow = s := by
  unfold closeWindow
  rw [early]

theorem closeWindow_of_due {s : Switch} {w : PaceWindow} (due : s.windowDue = some w) :
    s.closeWindow = (allBelow 16).foldl testRisk (s.addSample w.count).openWindow := by
  unfold closeWindow
  rw [due]

/-- The newest sample is among those kept. -/
theorem getLast?_keepSamples (samples : List Nat) (n : Nat) : (keepSamples samples n).getLast? = some n := by
  unfold keepSamples
  dsimp only
  rw [List.getLast?_drop, if_neg (by simp), List.getLast?_append]
  rfl

theorem paceOf_keepSamples (mode : PaceMode) (samples : List Nat) (n : Nat) : paceOf mode (keepSamples samples n) =
    if mode = .single then n else (keepSamples samples n).sum / (keepSamples samples n).length := by
  cases mode with
  | single =>
    rw [if_pos rfl]
    exact congrArg (·.getD 0) (getLast?_keepSamples samples n)
  | average4 => rfl

theorem keepSamples_eq (samples : List Nat) (n : Nat) : keepSamples samples n = (samples ++ [n]).drop (samples.length + 1 - 4) := by
  unfold keepSamples
  dsimp only
  rw [List.length_append]
  rfl

theorem testRisk_last (s : Switch) (c : ChannelId) : (s.testRisk c).last = s.last := by
  unfold testRisk
  split <;> rfl

theorem testRisks_last (l : List ChannelId) : ∀ s : Switch, (l.foldl testRisk s).last = s.last := by
  induction l with
  | nil => exact fun _ => rfl
  | cons c l ih => exact fun s => (ih _).trans (s.testRisk_last c)

theorem riskTested_iff (s : Switch) (c : ChannelId) : s.riskTested c = true ↔
    ((s.channels.get c).state = .quiet ∨ (s.channels.get c).state = .warned) ∧ (s.channels.get c).atRisk = false ∧
      (∃ q ∈ s.groupPages c, q ∈ s.queue) ∧ s.clock.running = true ∧ s.pace.pace ≠ 0 := by
  unfold riskTested
  dsimp only
  rw [channel_def]
  simp only [Bool.and_eq_true, Bool.or_eq_true, beq_iff_eq, Bool.not_eq_true', List.any_eq_true, List.contains_iff_mem, decide_eq_true_eq, and_assoc]

theorem upToLast_eq {p : PageId → Bool} {before after : List PageId} {last : PageId} (is : p last = true) (none : ∀ q ∈ after, p q = false) :
    upToLast p (before ++ last :: after) = before ++ [last] := by
  unfold upToLast
  rw [List.reverse_append, List.reverse_cons, List.append_assoc, List.dropWhile_append_of_pos fun q hq => by
    rw [none q (List.mem_reverse.1 hq)]; rfl, List.singleton_append, List.dropWhile_cons_of_neg (by rw [is]; nofun)]
  simp

theorem bytesAhead_eq {s : Switch} {c : ChannelId} {before after : List PageId} {last : PageId} (queue : s.queue = before ++ last :: after)
    (grouped : last ∈ s.groupPages c) (none : ∀ q ∈ after, q ∉ s.groupPages c) :
    s.bytesAhead c = (before.map s.jobBytes).sum + s.jobBytes last + s.untaken := by
  unfold bytesAhead
  rw [queue, upToLast_eq (List.contains_iff_mem.2 grouped) fun q hq => by simpa using none q hq]
  simp

end Switch

open Switch in
/-- Settles O38: the close as one update with the tests after it, and the test by what the queue holds. -/
theorem thePaceWindowCloses : Obligations.ThePaceWindowCloses := by
  refine ⟨fun s w window => ⟨fun reached presenting => ?_, fun early => ?_⟩, fun s none => ?_, fun s c => ?_⟩
  · intro samples
    have due := (windowDue_iff s.sw.quietly w).2 ⟨window, reached, presenting⟩
    have kept : samples = keepSamples s.sw.pace.samples w.count := (keepSamples_eq ..).symm
    have added : (s.sw.quietly.addSample w.count).openWindow =
        { s.sw with
          pace :=
            { window := some { start := s.sw.wall, length := s.sw.groups.feed.paceWindow, count := 0 }
              samples := samples
              pace := if s.sw.groups.feed.paceMode = .single then w.count else samples.sum / samples.length }
          last := { sent := [], released := false } } := by
      rw [kept, ← paceOf_keepSamples]
      rfl
    refine State.run_eq s closeWindow _ ?_ (by rw [testRisks_last])
    rw [closeWindow_of_due due, added]
  · refine State.run_eq s closeWindow _ (closeWindow_of_early (Option.eq_none_iff_forall_ne_some.2 fun v due => ?_)) (by rfl)
    obtain ⟨is, reached, presenting⟩ := (windowDue_iff s.sw.quietly v).1 due
    cases window.symm.trans is
    rcases early with short | other
    · exact Nat.not_le_of_lt short reached
    · exact other presenting
  · refine State.run_eq s closeWindow _ (closeWindow_of_early (Option.eq_none_iff_forall_ne_some.2 fun v due => ?_)) (by rfl)
    cases none.symm.trans ((windowDue_iff s.sw.quietly v).1 due).1
  · intro x length tested
    have iff : s.riskTested c = true ↔ tested := riskTested_iff s c
    refine ⟨fun not => if_neg fun e => not (iff.1 e.1), fun before last after is queue grouped none => ?_⟩
    intro ahead predicted
    have ticks : s.predictedTicks c = predicted := by
      unfold predictedTicks
      rw [bytesAhead_eq queue grouped none]
      rfl
    by_cases late : x.active < s.clock.ticks + predicted
    · rw [if_pos late]
      exact if_pos ⟨iff.2 is, by rw [ticks]; exact late⟩
    · rw [if_neg late]
      exact if_neg fun e => late (by rw [← ticks]; exact e.2)

end Sys2Proof.Machine
end

section
/-! SUPPORT. LINKS (spec/08). -/

namespace Sys2Proof.Machine

namespace Switch

/-! ### What LINKS leaves of the ports -/

theorem failOver_ports (s : Switch) (l : LinkId) (q : Option PageId) : (s.failOver l q).ports = s.ports := by
  rw [failOver_cases]
  split <;> rfl

theorem returnHome_ports (s : Switch) : s.returnHome.ports = s.ports := by
  rw [returnHome_cases]
  split <;> rfl

theorem faultPage_ports (s : Switch) (q : PageId) (r : Reason) : (s.faultPage q r).ports = s.ports := by
  unfold faultPage
  simp only [post_fields, endJob_fields]

theorem postLink_ports (s : Switch) (kind : NoticeKind) (cls : Urgency) (l : LinkId) (q : Option PageId) :
    (s.postLink kind cls l q).ports = s.ports := rfl

theorem beginAttempt_ports (s : Switch) (l : LinkId) (q : PageId) : (s.beginAttempt l q).ports = s.ports := rfl

theorem returnPage_ports (s : Switch) (q : PageId) : (s.returnPage q).ports = s.ports := rfl

theorem abandonAttempt_ports (s : Switch) (l : LinkId) (q : PageId) : (s.abandonAttempt l q).ports = s.ports := by
  unfold abandonAttempt
  dsimp only
  split
  · rw [failOver_ports, faultPage_ports]
    rfl
  · split
    · rw [postLink_ports, beginAttempt_ports]
      rfl
    · rw [postLink_ports, returnPage_ports]
      rfl

theorem breakOff_ports (s : Switch) (l : LinkId) (state : LinkState) : (s.breakOff l state).ports = s.ports := by
  unfold breakOff
  dsimp only
  split
  · rw [abandonAttempt_ports]
    rfl
  · rw [abandonAttempt_ports]
    rfl
  · rw [failOver_ports]
    rfl

/-! ### The steps of LINKS (R150) -/

theorem settled_cases (s : Switch) (enable : PerLink Bool) : s.settled enable =
    if s.groups.feed.enable.get s.active = true ∧ enable.get s.active = false then
      (if (s.links.get s.active).engine = .idle then
        (if (s.links.get s.active).state = .up then (s.switched enable).failOver s.active none else s.switched enable)
      else (s.switched enable).breakOff s.active .off)
    else s.switched enable := by
  have engine : ((s.switched enable).link s.active).engine = (s.links.get s.active).engine := by
    rw [link_def, switched_link]
    exact (switchLink_engine ..).1
  unfold settled
  by_cases disabled : s.groups.feed.enable.get s.active = true ∧ enable.get s.active = false
  · rw [if_pos disabled, if_pos (by rw [disabled.1, disabled.2]; rfl)]
    unfold settleDisabled
    change (if ((s.switched enable).link s.active).engine = .idle then _ else _) = _
    rw [engine]
    rfl
  · rw [if_neg disabled, if_neg (by simpa using disabled)]

theorem settled_ports (s : Switch) (enable : PerLink Bool) : (s.settled enable).ports = s.ports := by
  rw [settled_cases]
  split
  · split
    · split
      · rw [failOver_ports]
        rfl
      · rfl
    · rw [breakOff_ports]
      rfl
  · rfl

theorem homed_ports (s : Switch) (home : LinkId) : (s.homed home).ports = s.ports := by
  unfold homed
  rw [returnHome_ports]
  rfl

theorem linksReport_eq (s : Switch) : s.linksReport =
    [s.links.a.state.number, s.links.a.engine.number, s.links.b.state.number, s.links.b.engine.number, LinkId.number s.active] := by
  unfold linksReport
  rw [LinkState.byte_eq, LinkState.byte_eq, Engine.byte_eq, Engine.byte_eq, LinkId.byte_eq]

end Switch

open Switch in
/-- Settles O39: LINKS' three steps, and the reply with the links as they leave them. -/
theorem linksChangeInTheirOrder : Obligations.LinksChangeInTheirOrder := by
  intro s h a enable home taken checked old l was moved written settled homed
  have switched : written = s.sw.quietly.switched enable := rfl
  have settles : settled = s.sw.quietly.settled enable := (settled_cases s.sw.quietly enable).symm
  have homes : homed = (s.sw.quietly.settled enable).homed home := by
    rw [← settles]
    rfl
  have sent : homed.last.sent = [] := by
    rw [homes]
    unfold Switch.homed
    rw [Replies.returnHome_sent]
    exact Replies.settled_sent s.sw.quietly enable
  have ports : homed.creditedPorts h.port = s.sw.creditedPorts h.port := by
    unfold creditedPorts
    rw [homes, homed_ports, settled_ports]
    rfl
  have does : linksCommand h (enable, home) s.sw.quietly =
      { homed with
        ports := s.sw.creditedPorts h.port
        last :=
          { homed.last with
            sent :=
              [resultFrame h .ok
                [homed.links.a.state.number, homed.links.a.engine.number, homed.links.b.state.number,
                  homed.links.b.engine.number, LinkId.number homed.active]] } } := by
    rw [linksCommand_eq]
    dsimp only
    rw [← homes, answer_eq, if_pos rfl, ports, sent, linksReport_eq]
    rfl
  exact State.eases taken checked does

end Sys2Proof.Machine
end

section
/-! SUPPORT. The bytes of a data frame as the upload takes them: blocks drawn, bytes written in their place, and no other byte changed (spec/02 R21, R24). -/

namespace Sys2Proof.Machine

/-! ### Places of a text's bytes in its chain (R21) -/

/-- The address of byte number i of a text held by a block chain. -/
def byteAddress (chain : List Nat) (i : Nat) : Nat := (chain[i / 512]?).getD 0 * 512 + i % 512

theorem textByte_eq (copy : List Host.Cell) (chain : List Nat) (i : Nat) : textByte copy chain i = Memory.read copy (byteAddress chain i) := rfl

theorem byteAddress_append {chain : List Nat} {i : Nat} (within : i / 512 < chain.length) (more : List Nat) :
    byteAddress (chain ++ more) i = byteAddress chain i := by
  unfold byteAddress
  rw [List.getElem?_append_left within]

/-- Blocks held once give each byte an address of its own. -/
theorem byteAddress_injective {chain : List Nat} (once : chain.Nodup) {i j : Nat} (hi : i / 512 < chain.length) (hj : j / 512 < chain.length)
    (same : byteAddress chain i = byteAddress chain j) : i = j := by
  unfold byteAddress at same
  rw [List.getElem?_eq_getElem hi, List.getElem?_eq_getElem hj] at same
  simp only [Option.getD_some] at same
  have block : chain[i / 512] = chain[j / 512] := by omega
  have index := (once.getElem_inj_iff).1 block
  omega

theorem textSlice_congr {copy copy' : List Host.Cell} {chain chain' : List Nat} {first count : Nat}
    (same : ∀ i, first ≤ i → i < first + count → textByte copy' chain' i = textByte copy chain i) :
    textSlice copy' chain' first count = textSlice copy chain first count := by
  induction count generalizing first with
  | zero => rfl
  | succ count ih =>
    unfold textSlice
    rw [same first (Nat.le_refl _) (by omega), ih fun i hi hi' => same i (by omega) (by omega)]

theorem textSlice_succ (copy : List Host.Cell) (chain : List Nat) (first count : Nat) :
    textSlice copy chain first (count + 1) = textSlice copy chain first count ++ [textByte copy chain (first + count)] := by
  induction count generalizing first with
  | zero => rfl
  | succ count ih =>
    rw [textSlice, ih, show first + 1 + count = first + (count + 1) by omega]
    rfl

namespace Switch

/-! ### A byte handed to an upload (R24) -/

/-- The staging chain an upload's next byte goes to: with the block drawn where the byte begins one. -/
def nextStaging (s : Switch) (u : Upload) : List Nat :=
  u.staging ++ if u.taken % 512 = 0 then s.store.freePool.take 1 else []

/-- The store once the block is drawn. -/
def drawnStore (s : Switch) (u : Upload) : Store :=
  if u.taken % 512 = 0 ∧ s.store.freePool ≠ [] then
    { s.store with freePool := s.store.freePool.tail, freeCount := s.store.freeCount - 1, reserved := s.store.reserved - 1 }
  else s.store

theorem drawnStore_tight (s : Switch) (u : Upload) : (s.drawnStore u).tight = s.store.tight := by
  unfold drawnStore
  split <;> rfl

/-- The reservation an upload has left once the block is drawn. -/
def nextRemaining (s : Switch) (u : Upload) : Nat := if u.taken % 512 = 0 ∧ s.store.freePool ≠ [] then u.remaining - 1 else u.remaining

theorem pushByte_eq (s : Switch) (u : Upload) (b : Byte) : pushByte (s, u) b =
    ({ s with
        store := { s.drawnStore u with copy := Memory.write s.store.copy (byteAddress (s.nextStaging u) u.taken) b } },
      { u with staging := s.nextStaging u, remaining := s.nextRemaining u, taken := u.taken + 1 }) := by
  have block : Config.blockBytes = 512 := rfl
  unfold pushByte nextStaging drawnStore nextRemaining byteAddress
  dsimp only
  rw [block]
  by_cases start : u.taken % 512 = 0
  · simp only [start, if_true, true_and]
    cases s.store.freePool with
    | nil => simp [setStore, start]
    | cons k rest => simp [setStore, start]
  · simp only [start, if_false, false_and, List.append_nil]
    rfl

theorem pushText_cons (s : Switch) (u : Upload) (b : Byte) (text : List Byte) :
    s.pushText u (b :: text) = (pushByte (s, u) b).1.pushText (pushByte (s, u) b).2 text := rfl

/-- Text handed to an upload changes the store, and the upload's chain and counts. -/
theorem pushText_shape (text : List Byte) : ∀ (s : Switch) (u : Upload), ∃ store staging remaining, ∀ t : Switch, t.store = s.store →
    t.pushText u text =
      ({ t with store := store }, { u with staging := staging, remaining := remaining, taken := u.taken + text.length }) := by
  induction text with
  | nil => exact fun s u => ⟨s.store, u.staging, u.remaining, fun t same => by rw [← same]; rfl⟩
  | cons b text ih =>
    intro s u
    obtain ⟨store, staging, remaining, shape⟩ := ih (pushByte (s, u) b).1 (pushByte (s, u) b).2
    refine ⟨store, staging, remaining, fun t same => ?_⟩
    have drawn : (pushByte (t, u) b).1.store = (pushByte (s, u) b).1.store ∧ (pushByte (t, u) b).2 = (pushByte (s, u) b).2 := by
      rw [pushByte_eq, pushByte_eq]
      unfold drawnStore nextStaging nextRemaining
      rw [same]
      exact ⟨rfl, rfl⟩
    rw [pushText_cons, drawn.2, shape _ drawn.1, pushByte_eq, pushByte_eq]
    simp only [List.length_cons, Nat.add_assoc, Nat.add_comm 1]

/-! ### A byte, and then a text, in its place -/

section
variable {s : Switch} {u : Upload} (canonical : s.copyCanonical) (covers : u.staging.length = (u.taken + 511) / 512)
  (once : (u.staging ++ s.store.freePool).Nodup) (room : u.taken % 512 = 0 → s.store.freePool ≠ [])
include room

include covers in
theorem nextStaging_length : (s.nextStaging u).length = (u.taken + 1 + 511) / 512 := by
  unfold nextStaging
  by_cases start : u.taken % 512 = 0
  · obtain ⟨k, rest, pool⟩ := List.exists_cons_of_ne_nil (room start)
    rw [if_pos start, pool, List.length_append]
    change _ + 1 = _
    omega
  · rw [if_neg start, List.append_nil]
    omega

theorem nextStaging_pool : s.nextStaging u ++ (s.drawnStore u).freePool = u.staging ++ s.store.freePool := by
  unfold nextStaging drawnStore
  by_cases start : u.taken % 512 = 0
  · obtain ⟨k, rest, pool⟩ := List.exists_cons_of_ne_nil (room start)
    rw [if_pos start, if_pos ⟨start, room start⟩, pool, List.append_assoc]
    rfl
  · rw [if_neg start, if_neg fun e => start e.1, List.append_nil]

/-- The blocks drawn for the rest of a text, counted with the one drawn for its first byte. -/
theorem drawnStore_rest {rest drawn : Nat} (one : u.taken % 512 = 0 → drawn = rest + 1) (none : u.taken % 512 ≠ 0 → drawn = rest) :
    s.nextStaging u ++ (s.drawnStore u).freePool.take rest = u.staging ++ s.store.freePool.take drawn ∧
      (s.drawnStore u).freePool.drop rest = s.store.freePool.drop drawn ∧ (s.drawnStore u).freeCount - rest = s.store.freeCount - drawn ∧
        (s.drawnStore u).reserved - rest = s.store.reserved - drawn ∧ s.nextRemaining u - rest = u.remaining - drawn ∧
          (drawn ≤ s.store.freePool.length → rest ≤ (s.drawnStore u).freePool.length) := by
  unfold nextStaging drawnStore nextRemaining
  by_cases start : u.taken % 512 = 0
  · obtain ⟨k, tail, pool⟩ := List.exists_cons_of_ne_nil (room start)
    have drew : u.taken % 512 = 0 ∧ k :: tail ≠ [] := ⟨start, List.cons_ne_nil _ _⟩
    have before (n : Nat) : n - 1 - rest = n - (rest + 1) := by omega
    rw [one start, pool, if_pos start, if_pos drew, if_pos drew, List.append_assoc]
    exact ⟨rfl, rfl, before _, before _, before _, fun held => Nat.le_of_succ_le_succ held⟩
  · rw [none start, if_neg start, if_neg fun e => start e.1, if_neg fun e => start e.1, List.append_nil]
    exact ⟨rfl, rfl, rfl, rfl, rfl, id⟩

include canonical covers once

/-- The bytes taken before stay where they were, and the new one stands after them. -/
theorem textSlice_pushByte (b : Byte) :
    textSlice (pushByte (s, u) b).1.store.copy (pushByte (s, u) b).2.staging 0 (u.taken + 1) =
      textSlice s.store.copy u.staging 0 u.taken ++ [b] := by
  have length := nextStaging_length covers room
  have once' : (s.nextStaging u).Nodup := by
    rw [← nextStaging_pool room] at once
    exact once.of_append_left
  rw [pushByte_eq]
  dsimp only
  rw [textSlice_succ, Nat.zero_add, textByte_eq, Memory.read_write _ _ _ _ none canonical, if_pos rfl]
  refine congrArg (· ++ [b]) (textSlice_congr fun i _ hi => ?_)
  rw [Nat.zero_add] at hi
  rw [textByte_eq, textByte_eq, Memory.read_write _ _ _ _ none canonical, if_neg fun same => by
    have := byteAddress_injective once' (by omega) (by omega) same
    omega]
  unfold nextStaging
  rw [byteAddress_append (by omega)]

end

/-- A text handed to an upload that has room for it (R24). -/
theorem pushText_placed (text : List Byte) : ∀ {s : Switch} {u : Upload}, s.copyCanonical → u.staging.length = (u.taken + 511) / 512 →
    (u.staging ++ s.store.freePool).Nodup →
    ∀ drawn, drawn = (u.taken + text.length + 511) / 512 - u.staging.length → drawn ≤ s.store.freePool.length →
      (s.pushText u text).2 =
          { u with
            taken := u.taken + text.length, staging := u.staging ++ s.store.freePool.take drawn, remaining := u.remaining - drawn } ∧
        (s.pushText u text).1 =
          { s with
            store :=
              { s.store with
                freePool := s.store.freePool.drop drawn, freeCount := s.store.freeCount - drawn, reserved := s.store.reserved - drawn
                copy := (s.pushText u text).1.store.copy } } ∧
        textSlice (s.pushText u text).1.store.copy (s.pushText u text).2.staging 0 (u.taken + text.length) =
          textSlice s.store.copy u.staging 0 u.taken ++ text ∧
        ∀ a, (∀ i, u.taken ≤ i → i < u.taken + text.length → a ≠ byteAddress (s.pushText u text).2.staging i) →
          Memory.read (s.pushText u text).1.store.copy a = Memory.read s.store.copy a := by
  induction text with
  | nil =>
    intro s u _ covers _ drawn is _
    have none : drawn = 0 := by
      rw [is, covers]
      exact Nat.sub_self _
    subst none
    rw [List.take_zero, List.append_nil]
    exact ⟨rfl, rfl, (List.append_nil _).symm, fun _ _ => rfl⟩
  | cons b text ih =>
    intro s u canonical covers once drawn is held
    rw [List.length_cons] at is ⊢
    have room (start : u.taken % 512 = 0) : s.store.freePool ≠ [] := by
      refine List.ne_nil_of_length_pos ?_
      omega
    have length := nextStaging_length covers room
    have pool := nextStaging_pool room
    have slice := textSlice_pushByte canonical covers once room b
    have canonical' := (s.keeps_pushByte u b).copy canonical
    obtain ⟨staged, dropped, free, reserved, remaining, held'⟩ := drawnStore_rest room
      (rest := (u.taken + (text.length + 1) + 511) / 512 - (s.nextStaging u).length) (drawn := drawn) (fun start => by omega) (fun start => by omega)
    rw [pushText_cons]
    have next := ih (s := (pushByte (s, u) b).1) (u := (pushByte (s, u) b).2) canonical' (by rw [pushByte_eq]; exact length)
      (by rw [pushByte_eq]; exact pool ▸ once) ((u.taken + (text.length + 1) + 511) / 512 - (s.nextStaging u).length)
      (by rw [pushByte_eq, Nat.add_comm text.length, ← Nat.add_assoc]) (by rw [pushByte_eq]; exact held' held)
    generalize step : pushByte (s, u) b = r at slice next
    rw [pushByte_eq] at step
    subst step
    obtain ⟨upload, switch, text', same⟩ := next
    dsimp only at upload switch text' same slice ⊢
    rw [Nat.add_assoc, Nat.add_comm 1] at upload text' same
    refine ⟨?_, ?_, ?_, fun a away => ?_⟩
    · rw [upload, staged, remaining]
    · rw [switch]
      dsimp only
      rw [dropped, free, reserved, drawnStore_tight]
    · rw [text', slice, List.append_assoc]
      rfl
    · rw [same a fun i hi hi' => away i (by omega) hi', Memory.read_write _ _ _ _ none canonical, if_neg]
      intro here
      refine away u.taken (Nat.le_refl _) (by omega) ?_
      rw [upload, ← here]
      dsimp only
      rw [byteAddress_append (by omega)]

end Switch

end Sys2Proof.Machine
end

section
/-! SUPPORT. Data frames taken and discarded (spec/09). -/

namespace Sys2Proof.Machine

namespace Switch

theorem dataFrame_of_read {s : Switch} {p : PortId} {tag : Byte} {text : List Byte} {u : Upload} {r : Running}
    (line : (s.ports.get p).resetLine = false) (phase : (s.ports.get p).phase = .command) (running : (s.ports.get p).running = some r)
    (tagged : r.tag = tag) (upload : s.uploads.get p = some u) : s.dataFrame p tag text =
      if u.declared < u.taken + text.length then s.countFault p (failDataPhase p .badParam) else s.takeText p u text := by
  have same : s.runningTag p = tag := by
    unfold runningTag
    rw [port_def, running]
    exact tagged
  refine (if_pos ⟨line, phase, same⟩).trans ?_
  rw [show s.upload p = some u from upload]

theorem dataFrame_of_discard {s : Switch} {p : PortId} {tag : Byte}
    (other : (s.ports.get p).resetLine = true ∨ (s.ports.get p).phase ≠ .command ∨
      (∀ r, (s.ports.get p).running = some r → r.tag ≠ tag) ∧ ((s.ports.get p).running = none → tag ≠ 0)) (text : List Byte) :
    s.dataFrame p tag text = s := by
  refine if_neg fun read => ?_
  obtain ⟨line, phase, same⟩ := read
  rcases other with up | elsewhere | ⟨tags, none⟩
  · cases up.symm.trans line
  · exact elsewhere phase
  · unfold runningTag at same
    rw [port_def] at same
    cases running : (s.ports.get p).running with
    | none =>
      rw [running] at same
      exact none running same.symm
    | some r =>
      rw [running] at same
      exact tags r running same

theorem takeText_of_more {s : Switch} {p : PortId} {u : Upload} {text : List Byte} (more : (s.handText u text).2.taken ≠ (s.handText u text).2.declared) :
    s.takeText p u text =
      ((s.handText u text).1.setUpload p (some (s.handText u text).2)).setPort p
        { (s.handText u text).1.port p with dataStart := (s.handText u text).1.wall } := if_neg more

theorem takeText_of_last {s : Switch} {p : PortId} {u : Upload} {text : List Byte} (last : (s.handText u text).2.taken = (s.handText u text).2.declared) :
    s.takeText p u text =
      (((s.handText u text).1.setUpload p (some (s.handText u text).2)).setPort p
        { (s.handText u text).1.port p with dataStart := (s.handText u text).1.wall }).endUpload p (s.handText u text).2 := if_pos last

theorem handText_of_filling {u : Upload} (filling : u.mode = .filling) (s : Switch) (text : List Byte) : s.handText u text = s.pushText u text := by
  unfold handText
  rw [filling]

theorem handText_of_draining {u : Upload} (draining : u.mode = .draining) (s : Switch) (text : List Byte) :
    s.handText u text = (s, { u with taken := u.taken + text.length }) := by
  unfold handText
  rw [draining]

end Switch

open Switch in
/-- Settles O40: which frames are read, where their bytes go, and what the store reads after. -/
theorem dataFramesFillTheUpload : Obligations.DataFramesFillTheUpload := by
  refine ⟨fun s p tag text => ?_, fun s u text => ?_⟩
  rotate_left
  · intro total drawn canonical covers once room
    exact pushText_placed text canonical covers once drawn rfl room
  intro x
  refine ⟨fun other => State.run_eq s (dataFrame p tag text) _ (dataFrame_of_discard (s := s.sw.quietly) other text) (by rfl),
    fun u r line phase running tagged upload more => ?_⟩
  have read := dataFrame_of_read (s := s.sw.quietly) (text := text) line phase running tagged upload
  rw [if_neg (Nat.not_lt_of_lt more)] at read
  refine ⟨fun filling => ?_, fun draining => ?_⟩
  · intro t
    obtain ⟨store, staging, remaining, shape⟩ := pushText_shape text s.sw u
    have hand := (handText_of_filling filling s.sw.quietly text).trans (shape s.sw.quietly rfl)
    have pushed : t = _ := shape s.sw rfl
    clear_value t
    subst pushed
    refine State.run_eq s (dataFrame p tag text) _ (read.trans ?_) (by rfl)
    rw [takeText_of_more (by rw [hand]; exact Nat.ne_of_lt more), hand]
    rfl
  · have hand := handText_of_draining draining s.sw.quietly text
    refine State.run_eq s (dataFrame p tag text) _ (read.trans ?_) (by rfl)
    rw [takeText_of_more (by rw [hand]; exact Nat.ne_of_lt more), hand]
    rfl

end Sys2Proof.Machine
end

section
/-! SUPPORT. The completion of an upload: a version made, and what a FILE and a CHECKIN do with it (spec/01 R8, spec/02 R25, spec/03 R48). -/

namespace Sys2Proof.Machine

theorem Port.credited_idled (x : Port) : x.credited.idled = x.idled.credited := by
  unfold Port.credited
  by_cases detached : x.standing = .detached
  · rw [if_pos detached]
    exact (if_pos detached).symm
  · rw [if_neg detached]
    exact (if_neg detached).symm

namespace Switch

/-! ### Notices from states that differ in what no notice reads -/

theorem postEach_inboxes_congr {s t : Switch} (inboxes : t.inboxes = s.inboxes)
    (standing : ∀ q, (t.ports.get q).standing = (s.ports.get q).standing) (f : PortId → Option Notice) :
    (t.postEach f).inboxes = (s.postEach f).inboxes := by
  have detached (q : PortId) : t.isDetached q = s.isDetached q := by
    unfold isDetached
    rw [port_def, port_def, standing]
  unfold postEach
  simp only [inboxes, detached]

/-! ### A version made (R25) -/

theorem returnMarked_eq (l : List Version) : ∀ s : Switch, l.foldl (fun s v => (s.returnChain v.chain).markReleased) s =
    { s with
      store :=
        { s.store with
          freePool := (l.map Version.chain).reverse.flatten ++ s.store.freePool
          freeCount := s.store.freeCount + (l.map fun v => v.chain.length).sum }
      last := { s.last with released := s.last.released || !l.isEmpty } } := by
  induction l with
  | nil =>
    intro s
    simp
  | cons v l ih =>
    intro s
    rw [List.foldl_cons, ih]
    simp [returnChain, setStore, markReleased, Nat.add_assoc]

/-- The versions an upload's victim leaves on a list. -/
def keptBy (victim : Option Nat) (l : List Version) : List Version := l.filter fun v => victim != some v.number

/-- The versions that leave a list with an upload's victim. -/
def leavingBy (victim : Option Nat) (l : List Version) : List Version := l.filter fun v => victim == some v.number

/-- The version an upload becomes (R25, R27). -/
def uploadVersion (s : Switch) (u : Upload) (n : Nat) : Version :=
  { number := n, length := u.declared, chain := u.staging, pins := 0, stamp := s.wall, author := u.author, retiring := false }

/-- The switch once an upload's version has been made, but for the story's own record. -/
def makingVersion (s : Switch) (p : PortId) (victim : Option Nat) (l : List Version) : Switch :=
  { s with
    uploads := s.uploads.set p none
    store :=
      { s.store with
        freePool := ((leavingBy victim l).map Version.chain).reverse.flatten ++ s.store.freePool
        freeCount := s.store.freeCount + ((leavingBy victim l).map fun v => v.chain.length).sum }
    last := { s.last with released := s.last.released || !(leavingBy victim l).isEmpty } }

theorem makeVersion_closed (s : Switch) (p : PortId) (u : Upload) (st : Story) : s.makeVersion p u st =
    (s.makingVersion p u.victim st.versions,
      { st with
        versions := keptBy u.victim st.versions ++ [s.uploadVersion u (newNumber st (keptBy u.victim st.versions))] },
      newNumber st (keptBy u.victim st.versions)) := by
  unfold makeVersion
  dsimp only
  rw [returnMarked_eq]
  rfl

theorem makingVersion_of_empty (s : Switch) (p : PortId) (victim : Option Nat) : s.makingVersion p victim [] = s.setUpload p none := by
  unfold makingVersion leavingBy
  simp [setUpload]

/-- A FILE's completion (R8). -/
theorem completeFile_eq {s : Switch} {h : Head} {u : Upload} {st : Story} (found : s.story u.handle = some st) (empty : st.versions = []) :
    s.completeFile h u =
      ({ s with
          slots := (s.setStory u.handle.slot { st with status := .filed, versions := [s.uploadVersion u 1] }).slots
          uploads := s.uploads.set h.port none
          inboxes := (s.postFiltered .filed u.handle { st with status := .filed, versions := [s.uploadVersion u 1] }).inboxes } : Switch).answer h
        .ok u.handle.bytes := by
  have first (l : List Version) : newNumber st l = 1 := by
    unfold newNumber Story.current
    rw [empty]
    rfl
  unfold completeFile
  rw [found]
  dsimp only
  rw [makeVersion_closed, first, empty, makingVersion_of_empty]
  rfl

/-- The lock a CHECKIN that keeps it leaves (R48). -/
def keptLock (s : Switch) (l : Lock) : Lock := { l with start := s.wall, length := s.groups.store.lease, suspended := false }

/-- A CHECKIN's completion (R48). -/
theorem completeCheckin_eq {s : Switch} {h : Head} {u : Upload} {keep : Bool} {st : Story} {l : Lock} (found : s.story u.handle = some st)
    (opened : st.status = .opened l) {n : Nat} (number : newNumber st (keptBy u.victim st.versions) = n) {new : Story}
    (is : new =
      { st with
        status := if keep then .opened (s.keptLock l) else .filed
        versions := keptBy u.victim st.versions ++ [s.uploadVersion u n] }) :
    s.completeCheckin h u keep =
      ({ s.makingVersion h.port u.victim st.versions with
          slots := (s.setStory u.handle.slot new).slots
          inboxes := (s.postChanged u.handle new .newVersion n).inboxes } : Switch).answer h .ok
        (be16 n ++ if keep then be32 (s.wall + BitVec.ofNat 32 s.groups.store.lease).toNat else []) := by
  subst number is
  unfold completeCheckin
  rw [found]
  dsimp only
  rw [makeVersion_closed]
  dsimp only
  rw [opened]
  rfl

end Switch

end Sys2Proof.Machine
end

section
/-! SUPPORT. The last data frame of an upload (spec/09 R158). -/

namespace Sys2Proof.Machine

namespace Switch

/-- An OK and the return to IDLE after it. -/
theorem answer_toIdle (s : Switch) (h : Head) (values : List Byte) : (s.answer h .ok values).toIdle h.port =
    { s with
      ports := s.ports.set h.port (s.ports.get h.port).idled.credited
      last := { s.last with sent := s.last.sent ++ [resultFrame h .ok values] } } := by
  rw [answer_eq, ← Port.credited_idled]
  unfold toIdle setPort creditedPorts
  simp only [if_true, port_def, Bank.get_set_same, Bank.set_set]
  rfl

/-- The ports once a port has been closed and its OK counted. -/
theorem creditedPorts_set (ports : Bank 6 Port) (p : PortId) (y : Port) : (ports.set p y).set p ((ports.set p y).get p).credited = ports.set p y.credited := by
  rw [Bank.get_set_same, Bank.set_set]

/-- The switch with a frame's text taken and its end still to come. -/
def textTaken (s : Switch) (p : PortId) (store : Store) (v : Upload) : Switch :=
  { s.quietly with
    store := store, uploads := s.uploads.set p (some v), ports := s.ports.set p { s.ports.get p with dataStart := s.wall } }

theorem textTaken_standing (s : Switch) (p : PortId) (store : Store) (v : Upload) (q : PortId) :
    ((s.textTaken p store v).ports.get q).standing = (s.ports.get q).standing := by
  change ((s.ports.set p _).get q).standing = _
  rw [Bank.get_set]
  split
  · rename_i same
    rw [same]
  · rfl

theorem textTaken_head {s : Switch} {p : PortId} {r : Running} (running : (s.ports.get p).running = some r) (store : Store) (v : Upload) :
    (s.textTaken p store v).runningHead p = { port := p, tag := r.tag } := by
  have own : (s.textTaken p store v).port p = { s.ports.get p with dataStart := s.wall } := Bank.get_set_same ..
  unfold runningHead runningTag
  rw [own]
  dsimp only
  rw [running]
  rfl

theorem textTaken_postFiltered (s : Switch) (p : PortId) (store : Store) (v : Upload) (kind : NoticeKind) (k : Handle) (st : Story) :
    ((s.textTaken p store v).postFiltered kind k st).inboxes = (s.postFiltered kind k st).inboxes :=
  postEach_inboxes_congr (s := s) (t := s.textTaken p store v) rfl (s.textTaken_standing p store v) _

theorem textTaken_postChanged (s : Switch) (p : PortId) (store : Store) (v : Upload) (k : Handle) (st : Story) (reason : Reason) (n : Nat) :
    ((s.textTaken p store v).postChanged k st reason n).inboxes = (s.postChanged k st reason n).inboxes :=
  postEach_inboxes_congr (s := s) (t := s.textTaken p store v) rfl (s.textTaken_standing p store v) _

/-- A frame that brings an upload to its declared length. -/
theorem dataFrame_of_last {s : Switch} {p : PortId} {text : List Byte} {u v : Upload} {r : Running} {store : Store}
    (line : (s.ports.get p).resetLine = false) (phase : (s.ports.get p).phase = .command) (running : (s.ports.get p).running = some r)
    (upload : s.uploads.get p = some u) (last : u.taken + text.length = u.declared)
    (hand : s.quietly.handText u text = ({ s.quietly with store := store }, v)) (taken : v.taken = v.declared) :
    s.quietly.dataFrame p r.tag text = (s.textTaken p store v).endUpload p v := by
  refine (dataFrame_of_read (s := s.quietly) line phase running rfl upload).trans ((if_neg (by rw [last]; exact Nat.lt_irrefl _)).trans ?_)
  rw [takeText_of_last (by rw [hand]; exact taken), hand]
  rfl

theorem endUpload_of_file {s : Switch} {p : PortId} {u : Upload} (filling : u.mode = .filling) (kind : u.kind = .file) :
    s.endUpload p u = (s.completeFile (s.runningHead p) u).toIdle p := by
  unfold endUpload
  dsimp only
  rw [filling, kind]

theorem endUpload_of_checkin {s : Switch} {p : PortId} {u : Upload} {keep : Bool} (filling : u.mode = .filling) (kind : u.kind = .checkin keep) :
    s.endUpload p u = (s.completeCheckin (s.runningHead p) u keep).toIdle p := by
  unfold endUpload
  dsimp only
  rw [filling, kind]

theorem endUpload_of_draining {s : Switch} {p : PortId} {u : Upload} (draining : u.mode = .draining) :
    s.endUpload p u = ((s.failUpload p).toIdle p).refuse (s.runningHead p) .lockBroken := by
  unfold endUpload
  dsimp only
  rw [draining]

/-- The switch with an upload closed on a port that has gone to IDLE. -/
def uploadClosed (s : Switch) (p : PortId) (store : Store) : Switch :=
  { s with
    store := store, uploads := s.uploads.set p none
    ports := s.ports.set p { (s.ports.get p).idled with dataStart := s.wall } }

theorem textTaken_uploads (s : Switch) (p : PortId) (store : Store) (v : Upload) :
    (s.textTaken p store v).uploads.set p none = s.uploads.set p none := Bank.set_set ..

theorem textTaken_ports (s : Switch) (p : PortId) (store : Store) (v : Upload) :
    (s.textTaken p store v).ports.set p ((s.textTaken p store v).ports.get p).idled.credited = (s.uploadClosed p store).creditedPorts p := by
  refine Eq.trans ?_ (creditedPorts_set s.ports p { (s.ports.get p).idled with dataStart := s.wall }).symm
  change (s.ports.set p _).set p ((s.ports.set p _).get p).idled.credited = _
  rw [Bank.get_set_same, Bank.set_set]
  rfl

section
variable {s : Switch} {p : PortId} {r : Running} (running : (s.ports.get p).running = some r) (store : Store) {v : Upload} {st : Story}
include running

theorem endUpload_file (filling : v.mode = .filling) (kind : v.kind = .file) (found : s.story v.handle = some st) (empty : st.versions = [])
    {new : Story} (is : new = { st with status := .filed, versions := [s.uploadVersion v 1] }) :
    (s.textTaken p store v).endUpload p v =
      ({ s.uploadClosed p store with
          slots := (s.setStory v.handle.slot new).slots
          inboxes := (s.postFiltered .filed v.handle new).inboxes } : Switch).replied { port := p, tag := r.tag } .ok v.handle.bytes := by
  subst is
  rw [endUpload_of_file filling kind, textTaken_head running, completeFile_eq (s := s.textTaken p store v) found empty]
  have boxes := s.textTaken_postFiltered p store v .filed v.handle { st with status := .filed, versions := [s.uploadVersion v 1] }
  have parts := congr (congr (congrArg (fun uploads inboxes ports => ({ s.uploadClosed p store with
    slots := (s.setStory v.handle.slot { st with status := .filed, versions := [s.uploadVersion v 1] }).slots
    uploads := uploads, inboxes := inboxes, ports := ports
    last := { sent := [resultFrame { port := p, tag := r.tag } .ok v.handle.bytes], released := false } } : Switch))
    (s.textTaken_uploads p store v)) boxes) (s.textTaken_ports p store v)
  exact (answer_toIdle _ { port := p, tag := r.tag } _).trans parts

theorem endUpload_checkin {keep : Bool} {l : Lock} {n : Nat} (filling : v.mode = .filling) (kind : v.kind = .checkin keep)
    (found : s.story v.handle = some st) (opened : st.status = .opened l) (number : newNumber st (keptBy v.victim st.versions) = n) {new : Story}
    (is : new =
      { st with
        status := if keep then .opened (s.keptLock l) else .filed
        versions := keptBy v.victim st.versions ++ [s.uploadVersion v n] }) :
    (s.textTaken p store v).endUpload p v =
      { s.uploadClosed p store with
        slots := (s.setStory v.handle.slot new).slots
        inboxes := (s.postChanged v.handle new .newVersion n).inboxes
        store :=
          { store with
            freePool := ((leavingBy v.victim st.versions).map Version.chain).reverse.flatten ++ store.freePool
            freeCount := store.freeCount + ((leavingBy v.victim st.versions).map fun v => v.chain.length).sum }
        ports := (s.uploadClosed p store).creditedPorts p
        last :=
          { sent :=
              [resultFrame { port := p, tag := r.tag } .ok
                (be16 n ++ if keep then be32 (s.wall + BitVec.ofNat 32 s.groups.store.lease).toNat else [])]
            released := !(leavingBy v.victim st.versions).isEmpty } } := by
  rw [endUpload_of_checkin filling kind, textTaken_head running,
    completeCheckin_eq (s := s.textTaken p store v) (new := new) found opened number is]
  have boxes := s.textTaken_postChanged p store v v.handle new .newVersion n
  have parts := congr (congr (congrArg (fun uploads inboxes ports => ({ s.uploadClosed p store with
    slots := (s.setStory v.handle.slot new).slots
    uploads := uploads, inboxes := inboxes, ports := ports
    store :=
      { store with
        freePool := ((leavingBy v.victim st.versions).map Version.chain).reverse.flatten ++ store.freePool
        freeCount := store.freeCount + ((leavingBy v.victim st.versions).map fun v => v.chain.length).sum }
    last :=
      { sent :=
          [resultFrame { port := p, tag := r.tag } .ok
            (be16 n ++ if keep then be32 (s.wall + BitVec.ofNat 32 s.groups.store.lease).toNat else [])]
        released := !(leavingBy v.victim st.versions).isEmpty } } : Switch))
    (s.textTaken_uploads p store v)) boxes) (s.textTaken_ports p store v)
  exact (answer_toIdle _ { port := p, tag := r.tag } _).trans parts

end

theorem clearMark_closed (s : Switch) (u : Upload) : s.clearMark u = { s with slots := (s.clearMark u).slots } := by
  unfold clearMark
  split
  · rfl
  · rename_i n _
    obtain ⟨slots, e⟩ := modifyVersions_eq s u.handle (changeVersion n fun v => { v with retiring := false })
    rw [e]

theorem failUpload_of_draining {s : Switch} {p : PortId} {u : Upload} (upload : s.uploads.get p = some u) (draining : u.mode = .draining) :
    s.failUpload p = (s.clearMark u).setUpload p none := by
  unfold failUpload
  rw [show s.upload p = some u from upload]
  dsimp only
  rw [if_neg (by rw [draining]; nofun)]

theorem endUpload_drained {s : Switch} {p : PortId} {r : Running} {v : Upload} (running : (s.ports.get p).running = some r)
    (draining : v.mode = .draining) : (s.textTaken p s.store v).endUpload p v =
      ({ s.uploadClosed p s.store with slots := (s.clearMark v).slots } : Switch).replied { port := p, tag := r.tag } .lockBroken [] := by
  have upload : (s.textTaken p s.store v).uploads.get p = some v := Bank.get_set_same ..
  have marks : ((s.textTaken p s.store v).clearMark v).slots = (s.clearMark v).slots := by
    unfold clearMark Switch.modifyVersions
    cases v.victim with
    | none => rfl
    | some n =>
      change (match s.story v.handle with | none => _ | some st => _ : Switch).slots = _
      cases s.story v.handle <;> rfl
  rw [endUpload_of_draining draining, textTaken_head running, failUpload_of_draining upload draining, clearMark_closed, marks, refuse, answer_eq]
  have ports : (s.textTaken p s.store v).ports.set p ((s.textTaken p s.store v).ports.get p).idled =
      s.ports.set p { (s.ports.get p).idled with dataStart := s.wall } := by
    change (s.ports.set p _).set p ((s.ports.set p _).get p).idled = _
    rw [Bank.get_set_same, Bank.set_set]
    rfl
  have parts := congr (congrArg (fun uploads ports => ({ s with
    slots := (s.clearMark v).slots, uploads := uploads, ports := ports
    last := { sent := [resultFrame { port := p, tag := r.tag } .lockBroken []], released := false } } : Switch))
    (s.textTaken_uploads p s.store v)) ports
  exact parts

end Switch

open Switch in
/-- Settles O41: the three ends of an upload whose last byte has come. -/
theorem uploadsComplete : Obligations.UploadsComplete := by
  intro s p text u r x line phase running upload last h t filled closed version
  obtain ⟨store, staging, remaining, shape⟩ := pushText_shape text s.sw u
  have pushed : t = { s.sw with store := store } := congrArg Prod.fst (shape s.sw rfl)
  have fills : filled = { u with staging := staging, remaining := remaining, taken := u.taken + text.length } :=
    congrArg Prod.snd (shape s.sw rfl)
  clear_value t filled
  subst pushed fills
  have quiet := shape s.sw.quietly rfl
  refine ⟨fun st filling kind found empty unmarked => ?_, fun st l keep filling kind found opened => ?_, fun draining => ?_⟩
  · intro new
    have frame := dataFrame_of_last line phase running upload last ((handText_of_filling filling s.sw.quietly text).trans quiet) last
    exact State.run_eq s (dataFrame p r.tag text) _ (frame.trans (endUpload_file (new := new) running store (by exact filling) (by exact kind)
      (by exact found) empty (by rfl))) (by rfl)
  · intro kept leaving n lease new
    have frame := dataFrame_of_last line phase running upload last ((handText_of_filling filling s.sw.quietly text).trans quiet) last
    exact State.run_eased s (dataFrame p r.tag text) _ (frame.trans (endUpload_checkin (new := new) running store (by exact filling) (by exact kind)
      (by exact found) opened (by rfl) (by rfl)))
  · have frame := dataFrame_of_last (store := s.sw.store) line phase running upload last (handText_of_draining draining s.sw.quietly text) last
    exact State.run_eq s (dataFrame p r.tag text) _ (frame.trans (endUpload_drained running (by exact draining))) (by rfl)

end Sys2Proof.Machine
end

section
/-! SUPPORT. FILE and CHECKIN of an empty text, complete in the event that takes them (spec/01 R7, spec/03 R49). -/

namespace Sys2Proof.Machine

namespace Switch

theorem takeFile_of_empty {f : FileParams} (empty : f.length = 0) (s : Switch) (h : Head) (i : SlotId) : s.takeFile h f i =
    (s.opening i (fileStory f) h.port (fileUpload h f (s.handleAt i))).completeFile h (fileUpload h f (s.handleAt i)) := if_pos empty

/-- The story an upload's opening leaves in its slot. -/
theorem opening_story (s : Switch) (i : SlotId) (st : Story) (p : PortId) (u : Upload) : (s.opening i st p u).story (s.handleAt i) = some st := by
  refine story_eq_some.2 ?_
  rw [opening_eq]
  change ((s.slots.set i _).get i).gen = _ ∧ ((s.slots.set i _).get i).story = _
  rw [Bank.get_set_same]
  exact ⟨rfl, rfl⟩

theorem opening_slots (s : Switch) (i : SlotId) (st new : Story) (p : PortId) (u : Upload) :
    ((s.opening i st p u).setStory i new).slots = (s.setStory i new).slots := by
  rw [opening_eq]
  change (s.slots.set i _).set i { (s.slots.set i _).get i with story := some new } = s.slots.set i { s.slots.get i with story := some new }
  rw [Bank.get_set_same, Bank.set_set]

theorem opening_uploads (s : Switch) (i : SlotId) (st : Story) (p : PortId) (u : Upload) :
    (s.opening i st p u).uploads.set p none = s.uploads.set p none := by
  rw [opening_eq]
  exact Bank.set_set ..

/-- What an opening leaves beside the slot and the upload record. -/
theorem opening_of_none (s : Switch) (i : SlotId) (st : Story) (p : PortId) {u : Upload} (none : u.remaining = 0) :
    s.opening i st p u =
      { s.reserve 0 with slots := s.slots.set i { s.slots.get i with story := some st }, uploads := s.uploads.set p (some u) } := by
  rw [opening_eq, none]

theorem opening_wall (s : Switch) (i : SlotId) (st : Story) (p : PortId) (u : Upload) : (s.opening i st p u).wall = s.wall := by
  rw [opening_eq]
  exact reserve_wall ..

theorem opening_last (s : Switch) (i : SlotId) (st : Story) (p : PortId) (u : Upload) : (s.opening i st p u).last = s.last := by
  rw [opening_eq]
  exact reserve_released ..

section
variable {s : Switch} {h : Head} {i : SlotId} {st : Story} {u : Upload} (quiet : s.last = { sent := [], released := false })
  (handle : u.handle = s.handleAt i) (none : u.remaining = 0)
include quiet handle none

/-- A FILE that opens and completes in one event (R7). -/
theorem completeFile_opening (empty : st.versions = []) {new : Story} (is : new = { st with status := .filed, versions := [s.uploadVersion u 1] }) :
    (s.opening i st h.port u).completeFile h u =
      ({ s.reserve 0 with
          slots := (s.setStory i new).slots
          uploads := s.uploads.set h.port Option.none
          inboxes := ((s.reserve 0).postFiltered .filed u.handle new).inboxes } : Switch).replied h .ok u.handle.bytes := by
  have version : (s.opening i st h.port u).uploadVersion u 1 = s.uploadVersion u 1 := by
    unfold uploadVersion
    rw [opening_wall]
  have boxes : ((s.opening i st h.port u).postFiltered .filed u.handle new).inboxes = ((s.reserve 0).postFiltered .filed u.handle new).inboxes := by
    rw [opening_of_none s i st h.port none]
    rfl
  have slot : u.handle.slot = i := by rw [handle]; rfl
  rw [completeFile_eq (by rw [handle]; exact opening_story ..) empty, version, ← is, boxes, opening_uploads, slot, opening_slots]
  refine (answer_eq_replied _ h .ok u.handle.bytes (by exact (opening_last ..).trans quiet)).trans ?_
  rw [opening_of_none s i st h.port none]

end

/-! ### The list with a victim marked -/

/-- A version with the retiring mark where it is the victim. -/
def markedBy (victim : Option Nat) (v : Version) : Version := if victim = some v.number then { v with retiring := true } else v

theorem keptBy_marked (victim : Option Nat) (l : List Version) : keptBy victim (l.map (markedBy victim)) = keptBy victim l := by
  unfold keptBy
  induction l with
  | nil => rfl
  | cons v l ih =>
    rw [List.map_cons, List.filter_cons, List.filter_cons, ih]
    by_cases is : victim = some v.number
    · rw [markedBy, if_pos is, is]
      simp
    · rw [markedBy, if_neg is]

theorem leavingBy_marked (victim : Option Nat) (l : List Version) :
    leavingBy victim (l.map (markedBy victim)) = (leavingBy victim l).map fun v => { v with retiring := true } := by
  unfold leavingBy
  induction l with
  | nil => rfl
  | cons v l ih =>
    rw [List.map_cons, List.filter_cons, List.filter_cons, ih]
    by_cases is : victim = some v.number
    · rw [markedBy, if_pos is, is]
      simp
    · rw [markedBy, if_neg is, if_neg (by simpa using is), if_neg (by simpa using is)]

theorem newNumber_marked (st : Story) (victim : Option Nat) (status : Status) (kept : List Version) :
    newNumber { st with status := status, versions := st.versions.map (markedBy victim) } kept = newNumber st kept := by
  have number (v : Version) : (markedBy victim v).number = v.number := by
    unfold markedBy
    split <;> rfl
  unfold newNumber Story.current
  dsimp only
  rw [List.getLast?_map]
  cases st.versions.getLast? with
  | none => rfl
  | some v =>
    rw [Option.map_some]
    dsimp only
    rw [number]

theorem makingVersion_marked (s : Switch) (p : PortId) (victim : Option Nat) (l : List Version) :
    s.makingVersion p victim (l.map (markedBy victim)) = s.makingVersion p victim l := by
  unfold makingVersion
  rw [leavingBy_marked, List.map_map, List.map_map, List.isEmpty_map]
  rfl

/-- A CHECKIN that opens and completes in one event (R49). -/
theorem completeCheckin_opening {s : Switch} {h : Head} {c : CheckinParams} {st : Story} {l : Lock} {victim : Option Version}
    (quiet : s.last = { sent := [], released := false }) (found : s.story c.handle = some st)
    (holder : l.holder = { port := h.port, number := c.screen }) (empty : c.length = 0) {v : Option Nat} (chosen : victim.map Version.number = v)
    {n : Nat} (number : newNumber st (keptBy v st.versions) = n) {new : Story}
    (is : new =
      { st with
        status := if c.keep then .opened (s.keptLock l) else .filed
        versions := keptBy v st.versions ++
          [{ number := n, length := 0, chain := [], pins := 0, stamp := s.wall, author := l.holder, retiring := false }] }) :
    (s.opening c.handle.slot (StoreInOrder.checkinStory st l victim) h.port (checkinUpload h c victim)).completeCheckin h
        (checkinUpload h c victim) c.keep =
      { s.reserve 0 with
        slots := (s.setStory c.handle.slot new).slots
        uploads := s.uploads.set h.port none
        inboxes := ((s.reserve 0).postChanged c.handle new .newVersion n).inboxes
        store :=
          { (s.reserve 0).store with
            freePool := ((leavingBy v st.versions).map Version.chain).reverse.flatten ++ (s.reserve 0).store.freePool
            freeCount := (s.reserve 0).store.freeCount + ((leavingBy v st.versions).map fun v => v.chain.length).sum }
        ports := s.creditedPorts h.port
        last :=
          { sent := [resultFrame h .ok (be16 n ++ if c.keep then be32 (s.wall + BitVec.ofNat 32 s.groups.store.lease).toNat else [])]
            released := !(leavingBy v st.versions).isEmpty } } := by
  have blocks : (checkinUpload h c victim).remaining = 0 := by
    change blocksFor c.length = 0
    rw [empty]
    rfl
  have story := opening_story s c.handle.slot (StoreInOrder.checkinStory st l victim) h.port (checkinUpload h c victim)
  rw [handleAt_of_story found] at story
  have frame := opening_of_none s c.handle.slot (StoreInOrder.checkinStory st l victim) h.port blocks
  have slots := opening_slots s c.handle.slot (StoreInOrder.checkinStory st l victim) new h.port (checkinUpload h c victim)
  have uploads := opening_uploads s c.handle.slot (StoreInOrder.checkinStory st l victim) h.port (checkinUpload h c victim)
  generalize s.opening c.handle.slot (StoreInOrder.checkinStory st l victim) h.port (checkinUpload h c victim) = o at story frame slots uploads ⊢
  have wall : o.wall = s.wall := by
    rw [frame]
    exact reserve_wall ..
  have groups : o.groups = s.groups := by
    rw [frame, reserve_cases]
    split <;> rfl
  have boxes : (o.postChanged c.handle new .newVersion n).inboxes = ((s.reserve 0).postChanged c.handle new .newVersion n).inboxes := by
    rw [frame]
    rfl
  have marked : (StoreInOrder.checkinStory st l victim).versions = st.versions.map (markedBy v) := by
    rw [← chosen]
    exact markedVersions_eq st victim
  have kept : keptBy (checkinUpload h c victim).victim (StoreInOrder.checkinStory st l victim).versions = keptBy v st.versions := by
    rw [marked, ← chosen]
    exact keptBy_marked ..
  have making : o.makingVersion h.port (checkinUpload h c victim).victim (StoreInOrder.checkinStory st l victim).versions =
      o.makingVersion h.port v st.versions := by
    rw [marked, ← chosen]
    exact makingVersion_marked ..
  have number' : newNumber (StoreInOrder.checkinStory st l victim)
      (keptBy (checkinUpload h c victim).victim (StoreInOrder.checkinStory st l victim).versions) = n := by
    rw [kept, ← number, ← newNumber_marked st v (.opened { l with suspended := true }), ← marked]
    rfl
  have is' : new =
      { StoreInOrder.checkinStory st l victim with
        status := if c.keep then .opened (o.keptLock { l with suspended := true }) else .filed
        versions := keptBy (checkinUpload h c victim).victim (StoreInOrder.checkinStory st l victim).versions ++
          [o.uploadVersion (checkinUpload h c victim) n] } := by
    rw [is, kept]
    unfold keptLock uploadVersion
    rw [wall, groups, holder]
    unfold checkinUpload StoreInOrder.checkinStory
    rw [empty]
  rw [completeCheckin_eq story (by rfl) number' is', wall, groups, answer_eq, making, if_pos rfl,
    show (checkinUpload h c victim).handle = c.handle from rfl, boxes, slots]
  have last : o.last = { sent := [], released := false } := by
    rw [frame]
    exact (reserve_released ..).trans quiet
  have ports : o.ports = s.ports := by
    rw [frame]
    exact reserve_ports s 0
  unfold makingVersion creditedPorts
  dsimp only
  rw [uploads, last, ports, frame]
  rfl

end Switch

open Switch in
/-- Settles O42: the opening and the completion in one event. -/
theorem emptyTextsCompleteAtOnce : Obligations.EmptyTextsCompleteAtOnce := by
  refine ⟨fun s h a f i checked taken active right unheld vacant lowest easy empty => ?_, fun s h a c st l checked taken found opened holder easy empty => ?_⟩
  · intro k t new
    have blocks : blocksFor f.length = 0 := by rw [empty]; rfl
    have room : blocksFor f.length ≤ s.sw.quietly.available := by rw [blocks]; exact Nat.zero_le _
    have work : fileCommand h f s.sw.quietly = _ :=
      (fileCommand_of_checks (s := s.sw.quietly) active right unheld vacant lowest easy room).trans (takeFile_of_empty empty s.sw.quietly h i)
    have version : new = { fileStory f with status := .filed, versions := [s.sw.quietly.uploadVersion (fileUpload h f k) 1] } := by
      unfold uploadVersion fileUpload
      rw [empty]
      rfl
    exact State.acts taken checked (work.trans (completeFile_opening (s := s.sw.quietly) (new := new) (by rfl) (by rfl) blocks (by rfl) version)) (by rfl)
  · intro victim ready kept leaving n t lease new
    have before : checkinCommand h c s.sw.quietly =
        if st.versions.length = 4 then
          match st.victim with
          | none => s.sw.quietly.refuse h .versionsPinned
          | some v => s.sw.quietly.takeCheckin h c st l (some v)
        else s.sw.quietly.takeCheckin h c st l none := by
      refine (onStory_some (s := s.sw.quietly) found h _).trans ((asHolder_of_lock opened holder _).trans ?_)
      exact (if_neg (by rwa [tooTightFor_iff])).trans
        (if_neg (show ¬s.sw.quietly.available < blocksFor c.length by rw [empty]; exact Nat.not_lt_zero _))
    have work : checkinCommand h c s.sw.quietly = s.sw.quietly.takeCheckin h c st l victim := by
      rw [before]
      by_cases full : st.versions.length = 4
      · have chosen : st.victim = victim := (if_pos full).symm
        obtain ⟨v, is⟩ := Option.ne_none_iff_exists'.1 (ready full)
        rw [if_pos full, chosen, is]
      · rw [if_neg full, show victim = none from if_neg full]
    exact State.eases taken checked ((work.trans ((StoreInOrder.takeCheckin_eq ..).trans (if_pos empty))).trans
      (completeCheckin_opening (s := s.sw.quietly) (new := new) (by rfl) found holder empty (by rfl) (by rfl) (by rfl)))

end Sys2Proof.Machine
end

section
/-! SUPPORT. Result data: how a stream ends, and what a port in RESULT sends (spec/01 R35, R36, spec/04 R84, R85, spec/09 R155, R159, R176). -/

namespace Sys2Proof.Machine

theorem NoticeKind.byte_eq (x : NoticeKind) : NoticeKind.byte x = x.number := by cases x <;> rfl

theorem Reason.byte_eq (x : Reason) : Reason.byte x = x.number := by cases x <;> rfl

/-- The presence mask of eleven fields, as the sum of its bits (R176). -/
theorem presenceMask_eleven (f0 f1 f2 f3 f4 f5 f6 f7 f8 f9 f10 : Option (List Byte)) :
    presenceMask [f0, f1, f2, f3, f4, f5, f6, f7, f8, f9, f10] =
      (if f0.isSome = true then 2 ^ 0 else 0) + (if f1.isSome = true then 2 ^ 1 else 0) + (if f2.isSome = true then 2 ^ 2 else 0) +
        (if f3.isSome = true then 2 ^ 3 else 0) + (if f4.isSome = true then 2 ^ 4 else 0) + (if f5.isSome = true then 2 ^ 5 else 0) +
        (if f6.isSome = true then 2 ^ 6 else 0) + (if f7.isSome = true then 2 ^ 7 else 0) + (if f8.isSome = true then 2 ^ 8 else 0) +
        (if f9.isSome = true then 2 ^ 9 else 0) + (if f10.isSome = true then 2 ^ 10 else 0) := by
  have bit (f : Option (List Byte)) (k : Nat) : (if f.isSome = true then 2 ^ k else 0) = (if f.isSome then 1 else 0) * 2 ^ k := by
    rw [ite_mul, Nat.one_mul, Nat.zero_mul]
  simp only [bit, presenceMask]
  omega

/-- The bytes of an optional field. -/
theorem getD_map_nil (x : Option α) (f : α → List Byte) : (x.map f).getD [] = match x with | none => [] | some a => f a := by cases x <;> rfl

namespace Switch

/-! ### Streams that end (R36, R159) -/

theorem endStream_eq (s : Switch) (p : PortId) : s.endStream p =
    match (s.ports.get p).stream with
    | some (.read k n _) => ({ s with ports := s.ports.set p (s.ports.get p).idled } : Switch).unpin k n
    | _ => { s with ports := s.ports.set p (s.ports.get p).idled } := by
  unfold endStream
  rw [port_def]
  rcases (s.ports.get p).stream with _ | (_ | _ | _) <;> rfl

theorem endStream_of_read {s : Switch} {p : PortId} {k : Handle} {n sent : Nat} (stream : (s.ports.get p).stream = some (.read k n sent)) :
    s.endStream p = ({ s with ports := s.ports.set p (s.ports.get p).idled } : Switch).unpin k n := by
  rw [endStream_eq, stream]

theorem endStream_of_other {s : Switch} {p : PortId} (other : ∀ k n sent, (s.ports.get p).stream ≠ some (.read k n sent)) :
    s.endStream p = { s with ports := s.ports.set p (s.ports.get p).idled } := by
  rw [endStream_eq]
  split
  · rename_i k n sent stream
    exact absurd stream (other k n sent)
  · rfl

theorem setInbox_endStream {s : Switch} {p : PortId} (other : ∀ k n sent, (s.ports.get p).stream ≠ some (.read k n sent)) (b : Inbox) :
    (s.setInbox p b).endStream p = (s.endStream p).setInbox p b := by
  rw [endStream_of_other (s := s.setInbox p b) other, endStream_of_other other]
  rfl

/-! ### The next frame (R159) -/

/-- The switch once a port has sent one frame of result data and its record is the new one. -/
def sendingData (s : Switch) (p : PortId) (r : Running) (y : Port) (payload : List Byte) : Switch :=
  { s with
    ports := s.ports.set p y
    last := { sent := [.frame p { kind := 0x04, tag := r.tag, payload := payload }], released := false } }

theorem sendNext_of_idle {s : Switch} {p : PortId} (idle : (s.ports.get p).phase ≠ .result ∨ (s.ports.get p).holdLine = true) :
    sendNext p s = s := by
  refine if_neg fun due => idle.elim (absurd due.1) fun held => ?_
  rw [show (s.port p).holdLine = true from held] at due
  cases due.2

/-- The next frame of each kind of stream. -/
def sendStream (s : Switch) (p : PortId) : Stream → Switch
  | .read a n sent => s.sendText p a n sent
  | .collect owed => s.sendNotice p owed
  | .report frames => s.sendReport p frames

theorem sendNext_of_due {s : Switch} {p : PortId} (result : (s.ports.get p).phase = .result) (low : (s.ports.get p).holdLine = false)
    {y : Stream} (stream : (s.ports.get p).stream = some y) : sendNext p s = s.sendStream p y := by
  refine (if_pos ⟨result, low⟩).trans ?_
  rw [port_def, stream]
  cases y <;> rfl

theorem sendingData_setStream (s : Switch) (p : PortId) (r : Running) (x : Port) (payload : List Byte) (y : Stream) :
    (s.sendingData p r x payload).setStream p y = s.sendingData p r { x with stream := some y } payload := by
  unfold setStream setPort sendingData
  rw [port_def]
  dsimp only
  rw [Bank.get_set_same, Bank.set_set]

theorem sendingData_endStream (s : Switch) (p : PortId) (r : Running) {x : Port} (payload : List Byte)
    (other : ∀ k n sent, x.stream ≠ some (.read k n sent)) :
    (s.sendingData p r x payload).endStream p = s.sendingData p r x.idled payload := by
  have same : (s.sendingData p r x payload).ports.get p = x := Bank.get_set_same ..
  rw [endStream_of_other (by rwa [same]), same]
  unfold sendingData
  dsimp only
  rw [Bank.set_set]

theorem sendingData_endStream_read (s : Switch) (p : PortId) (r : Running) {x : Port} (payload : List Byte) {k : Handle} {n sent : Nat}
    (stream : x.stream = some (.read k n sent)) :
    (s.sendingData p r x payload).endStream p = (s.sendingData p r x.idled payload).unpin k n := by
  have same : (s.sendingData p r x payload).ports.get p = x := Bank.get_set_same ..
  rw [endStream_of_read (by rwa [same]), same]
  unfold sendingData
  dsimp only
  rw [Bank.set_set]

section
variable {s : Switch} {p : PortId} {r : Running} (running : (s.ports.get p).running = some r)
include running

theorem quietly_sendResultData (payload : List Byte) : s.quietly.sendResultData p payload = s.sendingData p r (s.ports.get p) payload := by
  unfold sendResultData runningTag
  rw [port_def, show (s.quietly.ports.get p).running = some r from running]
  unfold sendingData
  rw [Bank.set_get]
  rfl

theorem sendReport_eq {f : List Byte} {rest : List (List Byte)} (stream : (s.ports.get p).stream = some (.report (f :: rest))) :
    s.quietly.sendReport p (f :: rest) =
      s.sendingData p r (if rest = [] then (s.ports.get p).idled else { s.ports.get p with stream := some (.report rest) }) f := by
  unfold sendReport
  dsimp only
  rw [quietly_sendResultData running]
  cases rest with
  | nil => exact (if_pos rfl).trans ((sendingData_endStream s p r f (by rw [stream]; nofun)).trans (by rw [if_pos rfl]))
  | cons g rest => exact (if_neg nofun).trans ((sendingData_setStream s p r _ f _).trans (by rw [if_neg nofun]))

theorem sendNotice_eq {owed : Nat} {n : Notice} {rest : List Notice} (stream : (s.ports.get p).stream = some (.collect owed))
    (box : (s.inboxes.get p).notices = n :: rest) :
    s.quietly.sendNotice p owed =
      { s.sendingData p r (if owed ≤ 1 then (s.ports.get p).idled else { s.ports.get p with stream := some (.collect (owed - 1)) }) n.encode with
        inboxes := s.inboxes.set p { s.inboxes.get p with notices := rest } } := by
  unfold sendNotice
  dsimp only
  rw [inbox_def, show (s.quietly.inboxes.get p).notices = n :: rest from box]
  dsimp only
  rw [quietly_sendResultData running]
  by_cases last : owed ≤ 1
  · rw [if_pos last, if_pos last, setInbox_endStream (by
      rw [show (s.sendingData p r (s.ports.get p) n.encode).ports.get p = _ from Bank.get_set_same .., stream]
      nofun), sendingData_endStream s p r n.encode (by rw [stream]; nofun)]
    rfl
  · rw [if_neg last, if_neg last, ← sendingData_setStream]
    rfl

theorem sendText_eq {k : Handle} {n sent : Nat} {st : Story} {v : Version} (stream : (s.ports.get p).stream = some (.read k n sent))
    (found : s.story k = some st) (listed : (st.versions.find? fun v => v.number == n) = some v) {count : Nat}
    (next : count = min 256 (v.length - sent)) {text : List Byte} (slice : text = textSlice s.store.copy v.chain sent count) :
    s.quietly.sendText p k n sent =
      if v.length ≤ sent + count then (s.sendingData p r (s.ports.get p).idled text).unpin k n
      else s.sendingData p r { s.ports.get p with stream := some (.read k n (sent + count)) } text := by
  have version : s.quietly.streamVersion k n = some v := by
    unfold streamVersion
    rw [show s.quietly.story k = some st from found]
    exact listed
  subst next slice
  unfold sendText
  rw [version]
  dsimp only
  rw [quietly_sendResultData running, ← sendingData_endStream_read s p r _ stream, ← sendingData_setStream]
  rfl

end

end Switch

open Switch in
/-- Settles O43: each stream's next frame, and a notice's bytes field by field. -/
theorem resultDataIsSent : Obligations.ResultDataIsSent := by
  refine ⟨fun s p => ⟨fun idle => State.run_eq s _ _ (sendNext_of_idle idle) (by rfl), fun r result low running => ?_⟩, fun n => ?_⟩
  · have next {y : Stream} (stream : (s.sw.ports.get p).stream = some y) : sendNext p s.sw.quietly = s.sw.quietly.sendStream p y :=
      sendNext_of_due (s := s.sw.quietly) result low stream
    refine ⟨fun f rest stream => ?_, fun owed n rest stream box => ?_, fun k n sent st v stream found listed => ?_⟩
    · exact State.run_eq s _ _ ((next stream).trans (sendReport_eq running stream)) (by rfl)
    · exact State.run_eq s _ _ ((next stream).trans (sendNotice_eq running stream box)) (by rfl)
    · have sends := (next stream).trans (sendText_eq running stream found listed (by rfl) (by rfl))
      refine ⟨fun more => ?_, fun last => ?_⟩
      · exact State.run_eq s _ _ (sends.trans (if_neg (Nat.not_le_of_lt more))) (by rfl)
      · exact State.run_eased s _ _ (sends.trans (if_pos last))
  · dsimp only
    unfold Notice.encode Notice.fields
    rw [presenceMask_eleven]
    simp only [Option.isSome_map, List.flatMap_cons, List.flatMap_nil, getD_map_nil, NoticeKind.byte_eq, Reason.byte_eq,
      Urgency.byte_eq, counted, Handle.bytes, List.length_map, List.append_nil, List.append_assoc]
    congr 13
    all_goals
      split
      all_goals
        rename_i held
        rw [held]

end Sys2Proof.Machine
end

section
/-! SUPPORT. Uploads that fail, the data and result windows and the hold line (spec/01 R9, spec/02 R26, spec/03 R50, R55, spec/09 R158, R159). -/

namespace Sys2Proof.Machine

namespace Switch

/-! ### Uploads that fail (R9, R26, R50, R55) -/

/-- The switch once an upload's blocks and reservation have been given back, if it was in FILLING (R26). -/
def uploadReturned (s : Switch) (u : Upload) : Switch :=
  if u.mode = .filling then
    { s with
      store :=
        { s.store with
          freePool := u.staging ++ s.store.freePool
          freeCount := s.store.freeCount + u.staging.length
          reserved := s.store.reserved - u.remaining }
      last := { s.last with released := true } }
  else s

/-- The switch once an upload's record has been closed with no version made (R26). -/
def uploadFailed (s : Switch) (p : PortId) (u : Upload) : Switch :=
  { s.uploadReturned u with slots := (s.clearMark u).slots, uploads := s.uploads.set p none }

theorem clearMark_slots_congr {s t : Switch} (slots : t.slots = s.slots) (u : Upload) : (t.clearMark u).slots = (s.clearMark u).slots := by
  have story : t.story u.handle = s.story u.handle := by
    unfold story slot
    rw [slots]
  unfold clearMark modifyVersions
  cases u.victim with
  | none => exact slots
  | some n =>
    dsimp only
    rw [story]
    cases s.story u.handle with
    | none => exact slots
    | some st =>
      change t.slots.set _ { t.slots.get _ with story := _ } = s.slots.set _ { s.slots.get _ with story := _ }
      rw [slots]

theorem uploadReturned_cases (s : Switch) (u : Upload) (P : Switch → Prop)
    (returns : u.mode = .filling → P
      { s with
        store :=
          { s.store with
            freePool := u.staging ++ s.store.freePool
            freeCount := s.store.freeCount + u.staging.length
            reserved := s.store.reserved - u.remaining }
        last := { s.last with released := true } })
    (keeps : P s) : P (s.uploadReturned u) := by
  unfold uploadReturned
  split
  · exact returns ‹_›
  · exact keeps

theorem uploadReturned_clearMark (s : Switch) (u : Upload) : (s.uploadReturned u).clearMark u = { s.uploadReturned u with slots := (s.clearMark u).slots } := by
  rw [clearMark_closed, clearMark_slots_congr (s := s) (uploadReturned_cases s u (fun t => t.slots = s.slots) (fun _ => rfl) rfl)]

theorem uploadFailed_shape (s : Switch) (p : PortId) (u : Upload) : ∃ store last, s.uploadFailed p u =
    { s with store := store, last := last, slots := (s.clearMark u).slots, uploads := s.uploads.set p none } := by
  unfold uploadFailed
  exact uploadReturned_cases s u (fun t => ∃ store last, ({ t with slots := (s.clearMark u).slots, uploads := s.uploads.set p none } : Switch) =
    { s with store := store, last := last, slots := (s.clearMark u).slots, uploads := s.uploads.set p none })
    (fun _ => ⟨_, _, rfl⟩) ⟨_, _, rfl⟩

theorem failUpload_eq {s : Switch} {p : PortId} {u : Upload} (upload : s.uploads.get p = some u) : s.failUpload p = s.uploadFailed p u := by
  unfold failUpload
  rw [show s.upload p = some u from upload]
  change ((s.uploadReturned u).clearMark u).setUpload p none = _
  rw [uploadReturned_clearMark]
  exact uploadReturned_cases s u (fun t => ({ t with slots := (s.clearMark u).slots } : Switch).setUpload p none =
    { t with slots := (s.clearMark u).slots, uploads := s.uploads.set p none }) (fun _ => rfl) rfl

/-- The switch once a FILE's story has gone with its slot (R9). -/
def fileDropped (s t : Switch) (k : Handle) (st : Story) : Switch :=
  { t with
    slots := t.slots.set k.slot { gen := k.gen + 1, story := none }
    watches := s.watches.filter fun w => w.handle != k
    inboxes :=
      (s.postWatchers k { kind := .gone, cls := st.urgency, stamp := s.wall, handle := some k, slug := some st.slug }).inboxes }

theorem dropFile_uploadFailed {s : Switch} {p : PortId} {u : Upload} {st : Story} (found : (s.uploadFailed p u).story u.handle = some st) :
    (s.uploadFailed p u).dropFile u.handle = s.fileDropped (s.uploadFailed p u) u.handle st := by
  have gen : ((s.uploadFailed p u).slots.get u.handle.slot).gen = u.handle.gen := (story_eq_some.1 found).1
  have drops : (s.uploadFailed p u).dropFile u.handle =
      { s.uploadFailed p u with
        slots := (s.uploadFailed p u).slots.set u.handle.slot { gen := ((s.uploadFailed p u).slots.get u.handle.slot).gen + 1, story := none }
        watches := (s.uploadFailed p u).watches.filter fun w => !(w.handle == u.handle)
        inboxes :=
          ((s.uploadFailed p u).postWatchers u.handle
            { kind := .gone, cls := st.urgency, stamp := (s.uploadFailed p u).wall, handle := some u.handle, slug := some st.slug }).inboxes } := by
    unfold dropFile
    rw [found]
    rfl
  rw [drops, gen]
  unfold fileDropped
  obtain ⟨store, last, shape⟩ := s.uploadFailed_shape p u
  rw [shape]
  rfl

/-- The lease of a CHECKIN whose upload has failed (R50). -/
theorem resumeLease_eq {s : Switch} {k : Handle} {st : Story} {l : Lock} (found : s.story k = some st) (opened : st.status = .opened l) :
    s.resumeLease k =
      if l.length ≤ (s.wall - l.start).toNat then s.endLock k.slot st l .lockLapsed
      else { s with slots := (s.setStory k.slot { st with status := .opened { l with suspended := false } }).slots } := by
  unfold resumeLease
  rw [found]
  dsimp only
  rw [opened]
  by_cases lapsed : l.length ≤ (s.wall - l.start).toNat
  · exact (if_pos (decide_eq_true lapsed)).trans (if_pos lapsed).symm
  · exact (if_neg (by exact fun due => lapsed (of_decide_eq_true due))).trans (if_neg lapsed).symm

/-- A port at IDLE once its data phase has failed, and the result sent. -/
def phaseFailed (s t : Switch) (p : PortId) (r : Running) (code : Code) : Switch :=
  { t with
    ports := s.ports.set p (s.ports.get p).idled
    last := { t.last with sent := t.last.sent ++ [resultFrame { port := p, tag := r.tag } code []] } }

theorem failDataPhase_eq {s t : Switch} {p : PortId} {u : Upload} {r : Running} {code : Code} (upload : s.uploads.get p = some u)
    (running : (s.ports.get p).running = some r) (refused : code ≠ .ok) (settles : (s.uploadFailed p u).settleFailure u = t)
    (ports : t.ports = s.ports) : s.failDataPhase p code = s.phaseFailed t p r code := by
  have head : s.runningHead p = { port := p, tag := r.tag } := by
    unfold runningHead runningTag
    rw [port_def, running]
    rfl
  unfold failDataPhase
  rw [show s.upload p = some u from upload]
  dsimp only
  rw [failUpload_eq upload, settles, head, refuse, answer_eq, if_neg refused]
  unfold phaseFailed
  rw [← ports]
  rfl

theorem settleFailure_of_drain {s : Switch} {u : Upload} {keep : Bool} (kind : u.kind = .checkin keep) (draining : u.mode = .draining) :
    s.settleFailure u = s := by
  unfold settleFailure
  rw [kind, draining]

theorem settleFailure_of_filling {s : Switch} {u : Upload} {keep : Bool} (kind : u.kind = .checkin keep) (filling : u.mode = .filling) :
    s.settleFailure u = s.resumeLease u.handle := by
  unfold settleFailure
  rw [kind, filling]

theorem settleFailure_of_file {s : Switch} {u : Upload} (kind : u.kind = .file) : s.settleFailure u = s.dropFile u.handle := by
  unfold settleFailure
  rw [kind]

theorem uploadFailed_ports (s : Switch) (p : PortId) (u : Upload) : (s.uploadFailed p u).ports = s.ports := by
  obtain ⟨store, last, shape⟩ := s.uploadFailed_shape p u
  rw [shape]

theorem uploadFailed_wall (s : Switch) (p : PortId) (u : Upload) : (s.uploadFailed p u).wall = s.wall := by
  obtain ⟨store, last, shape⟩ := s.uploadFailed_shape p u
  rw [shape]

/-! ### The windows (R158, R159) -/

theorem lapseDataWindow_of_due {s : Switch} {p : PortId} (phase : (s.ports.get p).phase = .command)
    (due : 16 ≤ (s.wall - (s.ports.get p).dataStart).toNat) : lapseDataWindow p s = s.countFault p (failDataPhase p .dataTimeout) := by
  refine if_pos ?_
  unfold dataWindowDue
  rw [port_def, phase]
  exact decide_eq_true due

theorem lapseDataWindow_of_early {s : Switch} {p : PortId}
    (early : (s.ports.get p).phase ≠ .command ∨ (s.wall - (s.ports.get p).dataStart).toNat < 16) : lapseDataWindow p s = s := by
  refine if_neg fun due => ?_
  unfold dataWindowDue at due
  rw [Bool.and_eq_true] at due
  exact early.elim (fun other => other (beq_iff_eq.1 due.1)) fun short => Nat.not_le_of_lt short (of_decide_eq_true due.2)

theorem lapseResultWindow_of_due {s : Switch} {p : PortId} {start : Word32} (phase : (s.ports.get p).phase = .result)
    (held : (s.ports.get p).holdStart = some start) (due : 40 < (s.wall - start).toNat) :
    lapseResultWindow p s = s.countFault p fun s => s.endStream p := by
  refine if_pos ?_
  unfold resultWindowDue
  rw [port_def, phase, held]
  exact decide_eq_true due

theorem lapseResultWindow_of_early {s : Switch} {p : PortId}
    (early : (s.ports.get p).phase ≠ .result ∨ (s.ports.get p).holdStart = none ∨
      ∃ start, (s.ports.get p).holdStart = some start ∧ (s.wall - start).toNat ≤ 40) : lapseResultWindow p s = s := by
  refine if_neg fun due => ?_
  unfold resultWindowDue at due
  rw [port_def] at due
  split at due
  · rename_i start phase held
    rcases early with other | free | ⟨since, held', short⟩
    · exact other phase
    · cases held.symm.trans free
    · cases held.symm.trans held'
      exact Nat.not_lt_of_le short (of_decide_eq_true due)
  · cases due

end Switch

open Switch in
/-- Settles O44: the lines and windows one by one, and the ends of a stream and of a data phase. -/
theorem portWindowsLapse : Obligations.PortWindowsLapse := by
  refine ⟨fun s p => ⟨State.run_eq s _ _ (by rfl) (by rfl), State.run_eq s _ _ (by rfl) (by rfl),
    fun phase due => State.run_eased s _ _ (lapseDataWindow_of_due (s := s.sw.quietly) phase due),
    fun early => State.run_eq s _ _ (lapseDataWindow_of_early (s := s.sw.quietly) early) (by rfl),
    fun start phase held due => State.run_eased s _ _ (lapseResultWindow_of_due (s := s.sw.quietly) phase held due),
    fun early => State.run_eq s _ _ (lapseResultWindow_of_early (s := s.sw.quietly) early) (by rfl)⟩,
    fun s p => ⟨fun k n sent stream => endStream_of_read stream, fun other => endStream_of_other other, fun u r code upload running refused => ?_⟩⟩
  refine ⟨fun keep kind draining => ?_, fun st kind found => ?_, fun keep st l kind filling found opened => ⟨fun lapsed => ?_, fun early => ?_⟩⟩
  · exact failDataPhase_eq upload running refused (settleFailure_of_drain kind draining) (s.uploadFailed_ports p u)
  · exact failDataPhase_eq upload running refused ((settleFailure_of_file kind).trans (dropFile_uploadFailed found)) (s.uploadFailed_ports p u)
  · refine failDataPhase_eq upload running refused ((settleFailure_of_filling kind filling).trans ((resumeLease_eq (s := s.uploadFailed p u) found opened).trans (if_pos ?_)))
      (s.uploadFailed_ports p u)
    rwa [uploadFailed_wall]
  · refine failDataPhase_eq upload running refused ((settleFailure_of_filling kind filling).trans ((resumeLease_eq (s := s.uploadFailed p u) found opened).trans (if_neg ?_)))
      (s.uploadFailed_ports p u)
    rw [uploadFailed_wall]
    exact Nat.not_le_of_lt early

end Sys2Proof.Machine
end

section
/-! SUPPORT. Counted faults, and ATTACH and REATTACH (spec/09 R160 to R164). -/

namespace Sys2Proof.Machine

theorem Port.withFaults_of_attached {x : Port} (attached : x.standing ≠ .detached) (count : Nat) :
    x.withFaults count = { x with faults := count, standing := if 128 ≤ count then .guarded else .active } := by
  unfold Port.withFaults standingFor
  split
  · rename_i detached
    exact absurd detached attached
  · rfl

namespace Switch

theorem countFault_of_detach {s : Switch} {p : PortId} (high : 255 < (s.ports.get p).faults + 8) (k : Switch → Switch) :
    s.countFault p k = s.detach p := if_pos (decide_eq_true high)

theorem countFault_of_step {s : Switch} {p : PortId} (low : (s.ports.get p).faults + 8 ≤ 255) (k : Switch → Switch)
    (attached : ((k s).ports.get p).standing ≠ .detached) : s.countFault p k =
      { k s with
        ports := (k s).ports.set p
          { (k s).ports.get p with
            faults := ((k s).ports.get p).faults + 8
            standing := if 128 ≤ ((k s).ports.get p).faults + 8 then .guarded else .active } } := by
  refine (if_neg (by exact fun high => Nat.not_lt_of_le low (of_decide_eq_true high))).trans ?_
  unfold raiseFaults
  rw [port_def, Port.withFaults_of_attached attached]
  rfl

theorem faultyFrame_of_unread {s : Switch} {p : PortId} (line : (s.ports.get p).resetLine = true) : faultyFrame p s = s := if_pos line

theorem faultyFrame_of_detached {s : Switch} {p : PortId} (line : (s.ports.get p).resetLine = false)
    (detached : (s.ports.get p).standing = .detached) :
    faultyFrame p s = { s with ports := s.ports.set p { s.ports.get p with quietStart := s.wall } } :=
  (if_neg (by rw [port_def, line]; nofun)).trans ((if_pos ((isDetached_eq_true s p).2 detached)).trans rfl)

theorem faultyFrame_of_attached {s : Switch} {p : PortId} (line : (s.ports.get p).resetLine = false)
    (attached : (s.ports.get p).standing ≠ .detached) : faultyFrame p s = s.countFault p fun s => s.sendResult p 0 .checkError [] :=
  (if_neg (by rw [port_def, line]; nofun)).trans (if_neg fun detached => attached ((isDetached_eq_true s p).1 detached))

theorem attachCommand_of_quiet {s : Switch} {h : Head} (detached : (s.ports.get h.port).standing = .detached)
    (quiet : 16 ≤ (s.wall - (s.ports.get h.port).quietStart).toNat) : attachCommand h () s = (s.attach h.port).answer h .ok [] :=
  (if_pos ((isDetached_eq_true s h.port).2 detached)).trans (if_pos (decide_eq_true quiet))

theorem attachCommand_of_early {s : Switch} {h : Head} (detached : (s.ports.get h.port).standing = .detached)
    (early : (s.wall - (s.ports.get h.port).quietStart).toNat < 16) : attachCommand h () s = s.refuse h .tooSoon :=
  (if_pos ((isDetached_eq_true s h.port).2 detached)).trans
    (if_neg (by exact fun quiet => Nat.not_le_of_lt early (of_decide_eq_true quiet)))

theorem attachCommand_of_attached {s : Switch} {h : Head} (attached : (s.ports.get h.port).standing ≠ .detached) :
    attachCommand h () s = s.refuse h .notDetached :=
  if_neg fun detached => attached ((isDetached_eq_true s h.port).1 detached)

theorem reattachCommand_of_detached {s : Switch} {p : PortId} (detached : (s.ports.get p).standing = .detached) (h : Head) :
    reattachCommand h p s = (s.attach p).answer h .ok [] := if_pos ((isDetached_eq_true s p).2 detached)

theorem reattachCommand_of_attached {s : Switch} {p : PortId} (attached : (s.ports.get p).standing ≠ .detached) (h : Head) :
    reattachCommand h p s = s.refuse h .notDetached := if_neg fun detached => attached ((isDetached_eq_true s p).1 detached)

theorem attach_eq (s : Switch) (p : PortId) : s.attach p =
    { s with ports := s.ports.set p { s.ports.get p with faults := 0, standing := .active } } := rfl

end Switch

open Switch in
/-- Settles O45: the fault's three answers, the two outcomes of its count, and the two commands that attach. -/
theorem faultsAreCountedAndPortsAttached : Obligations.FaultsAreCountedAndPortsAttached := by
  refine ⟨fun s p i fault => ?_, fun s p text u r line phase running upload excess => ?_, fun s p k attached => ⟨fun high => ?_, fun low => ?_⟩,
    fun s h taken => ⟨fun detached quiet => ?_, fun detached early => ?_, fun attached => ?_⟩,
    fun s h b p taken number => ⟨fun detached => ?_, fun attached => ?_⟩⟩
  · have run : exec i s = s.run (faultyFrame p) := by
      rcases fault with rfl | rfl
      all_goals rfl
    rw [run]
    refine ⟨fun line => State.run_eq s _ _ (faultyFrame_of_unread line) (by rfl),
      fun line detached => State.run_eq s _ _ (faultyFrame_of_detached line detached) (by rfl), fun line attached => ⟨fun low => ?_, fun high => ?_⟩⟩
    · exact State.run_eq s _ _ ((faultyFrame_of_attached (s := s.sw.quietly) line attached).trans (countFault_of_step (s := s.sw.quietly) low _ attached)) (by rfl)
    · exact State.run_eased s _ _ ((faultyFrame_of_attached (s := s.sw.quietly) line attached).trans (countFault_of_detach (s := s.sw.quietly) high _))
  · exact State.run_eased s _ _ ((dataFrame_of_read (s := s.sw.quietly) line phase running rfl upload).trans (if_pos excess))
  · exact countFault_of_detach high k
  · exact countFault_of_step low k
  · refine State.acts taken rfl ((attachCommand_of_quiet (s := s.sw.quietly) detached quiet).trans ?_) (by rfl)
    rw [answer_eq, attach_eq, if_pos rfl]
    have credits := creditedPorts_set s.sw.ports h.port { s.sw.ports.get h.port with faults := 0, standing := .active }
    exact congrArg (fun ports => ({ s.sw with
      ports := ports, last := { sent := [resultFrame h .ok []], released := false } } : Switch)) credits
  · exact State.refuses taken rfl (attachCommand_of_early (s := s.sw.quietly) detached early)
  · exact State.refuses taken rfl (attachCommand_of_attached (s := s.sw.quietly) attached)
  · exact State.answers taken (below_eq number) (reattachCommand_of_detached (s := s.sw.quietly) detached h)
  · exact State.refuses taken (below_eq number) (reattachCommand_of_attached (s := s.sw.quietly) attached h)

end Sys2Proof.Machine
end

section
/-! SUPPORT. The closed forms of a port's abandoned command, and what an abandoned command leaves (spec/01 R9, spec/02 R26, R36, spec/09 R162, R165). -/

namespace Sys2Proof.Machine

namespace Switch

/-! ### The closed forms -/

theorem clearMark_of_none {s : Switch} {u : Upload} (none : u.victim = none ∨ s.story u.handle = none) : s.clearMark u = s := by
  unfold clearMark modifyVersions
  rcases none with e | e
  · rw [e]
  · rw [e]
    cases u.victim <;> rfl

theorem clearMark_of_victim {s : Switch} {u : Upload} {n : Nat} {st : Story} (victim : u.victim = some n) (found : s.story u.handle = some st) :
    s.clearMark u =
      { s with
        slots :=
          (s.setStory u.handle.slot
            { st with
              versions := st.versions.map fun (v : Version) => if v.number = n then { v with retiring := false } else v }).slots } := by
  unfold clearMark modifyVersions
  rw [victim]
  dsimp only
  rw [found]
  dsimp only
  rw [changeVersion_eq]
  rfl

theorem abandonUpload_of_none {s : Switch} {p : PortId} (none : s.uploads.get p = none) : s.abandonUpload p = s := by
  unfold abandonUpload
  rw [show s.upload p = .none from none]

theorem abandonUpload_of_other {s : Switch} {p : PortId} {u : Upload} (upload : s.uploads.get p = some u)
    (other : u.kind ≠ .file ∨ (s.uploadFailed p u).story u.handle = none) : s.abandonUpload p = s.uploadFailed p u := by
  unfold abandonUpload
  rw [show s.upload p = some u from upload, failUpload_eq upload]
  dsimp only
  split
  · rename_i kind
    rcases other with e | e
    · exact absurd kind e
    · unfold dropFile
      rw [e]
  · rfl

theorem abandonUpload_of_file {s : Switch} {p : PortId} {u : Upload} {st : Story} (upload : s.uploads.get p = some u) (kind : u.kind = .file)
    (found : (s.uploadFailed p u).story u.handle = some st) : s.abandonUpload p = s.fileDropped (s.uploadFailed p u) u.handle st := by
  unfold abandonUpload
  rw [show s.upload p = some u from upload, failUpload_eq upload]
  dsimp only
  rw [kind]
  exact dropFile_uploadFailed found

/-- The SAVE that a port's abandoned command leaves going (R169). -/
def orphaned (saving : Option Saving) (p : PortId) : Option Saving := saving.map fun x => if x.port = some p then { x with port := none } else x

theorem orphanSave_eq (s : Switch) (p : PortId) : s.orphanSave p = { s with saving := orphaned s.saving p } := by
  unfold orphanSave
  cases e : s.saving with
  | none =>
    dsimp only [orphaned, Option.map_none]
    rw [← e]
  | some x =>
    dsimp only [orphaned, Option.map_some]
    split
    · rfl
    · rw [← e]

theorem abandonCommand_eq (s : Switch) (p : PortId) :
    s.abandonCommand p = ({ s.abandonUpload p with saving := orphaned s.saving p } : Switch).endStream p := by
  have saving : (s.abandonUpload p).saving = s.saving := by
    cases upload : s.uploads.get p with
    | none => rw [abandonUpload_of_none upload]
    | some u =>
      obtain ⟨store, last, shape⟩ := s.uploadFailed_shape p u
      by_cases other : u.kind ≠ .file ∨ (s.uploadFailed p u).story u.handle = none
      · rw [abandonUpload_of_other upload other, shape]
      · rw [not_or, not_not] at other
        obtain ⟨st, found⟩ := Option.ne_none_iff_exists'.1 other.2
        rw [abandonUpload_of_file upload other.1 found]
        unfold fileDropped
        rw [shape]
  unfold abandonCommand
  rw [orphanSave_eq, saving]

end Switch

/-! ### What a step of the clearing leaves of the stories and the watch table -/

/-- A slot after a step of the clearing: its story's status as it was, or the story gone with its generation, where it may be. -/
def Slot.GoesTo (falls : Prop) (x y : Slot) : Prop :=
  (y.gen = x.gen ∧ y.story.map Story.status = x.story.map Story.status) ∨
    (y.gen = x.gen + 1 ∧ y.story = none ∧ x.story ≠ none ∧ (falls ∨ x.story.map Story.status = some (.spiked true)))

namespace Slot

variable {falls : Prop} {x y z : Slot}

theorem GoesTo.refl : x.GoesTo falls x := .inl ⟨rfl, rfl⟩

theorem GoesTo.trans (a : x.GoesTo falls y) (b : y.GoesTo falls z) : x.GoesTo falls z := by
  rcases a with ⟨gen, status⟩ | ⟨gen, empty, held, may⟩
  · rcases b with ⟨gen', status'⟩ | ⟨gen', empty', held', may'⟩
    · exact .inl ⟨gen'.trans gen, status'.trans status⟩
    · refine .inr ⟨by rw [gen', gen], empty', fun none => held' ?_, ?_⟩
      · rwa [none, Option.map_none, Option.map_eq_none_iff] at status
      · rwa [status] at may'
  · rcases b with ⟨gen', status'⟩ | ⟨gen', empty', held', may'⟩
    · refine .inr ⟨gen'.trans gen, ?_, held, may⟩
      rwa [empty, Option.map_none, Option.map_eq_none_iff] at status'
    · exact absurd empty held'

/-- A slot whose story stays has its generation, and a slot whose story has gone has not. -/
theorem GoesTo.gen_eq (a : x.GoesTo falls y) (b : y.GoesTo falls z) (same : z.gen = x.gen) : y.gen = x.gen ∧ z.gen = y.gen := by
  have next (g : Byte) : g + 1 ≠ g := by bv_omega
  rcases a with ⟨gen, -⟩ | ⟨gen, empty, -, -⟩
  · exact ⟨gen, same.trans gen.symm⟩
  · rcases b with ⟨gen', -⟩ | ⟨-, -, held, -⟩
    · rw [gen', gen] at same
      exact absurd same (next _)
    · exact absurd empty held

/-- A status that is not a purge's stays where the slot may not fall. -/
theorem GoesTo.status (a : x.GoesTo falls y) (stays : ¬falls) {status : Status} (not : status ≠ .spiked true)
    (held : x.story.map Story.status = some status) : y.story.map Story.status = some status := by
  rcases a with ⟨-, same⟩ | ⟨-, -, -, may⟩
  · exact same.trans held
  · rcases may with e | e
    · exact absurd e stays
    · exact absurd (Option.some.inj (held.symm.trans e)) not

end Slot

theorem Bank.get_set_goesTo {slots : Bank n Slot} {i : Fin n} {x : Slot} {falls : Fin n → Prop} (goes : (slots.get i).GoesTo (falls i) x)
    (j : Fin n) : (slots.get j).GoesTo (falls j) ((slots.set i x).get j) := by
  rw [Bank.get_set]
  split
  · rename_i same
    rwa [← same]
  · exact .refl

end Sys2Proof.Machine
end

section
/-! SUPPORT. What an abandoned upload and a released pin leave of the switch (spec/01 R9, R17, R19, spec/02 R26, R31). -/

namespace Sys2Proof.Machine

/-- A step of a port's clearing: stories and watch entries go only with their slots' generations, the copy and what has been sent stay,
and no record but the stories, the watch table, the inboxes, the store and the uploads changes. -/
structure Switch.Sheds (s t : Switch) (falls : SlotId → Prop) : Prop where
  shape : ∃ slots watches inboxes store uploads last,
    t = { s with slots := slots, watches := watches, inboxes := inboxes, store := store, uploads := uploads, last := last } ∧
      store.copy = s.store.copy ∧ last.sent = s.last.sent
  slot : ∀ i, (s.slots.get i).GoesTo (falls i) (t.slots.get i)
  watch : ∀ x ∈ t.watches, x ∈ s.watches
  otherWatch : ∀ x ∈ s.watches, (t.slots.get x.handle.slot).gen = (s.slots.get x.handle.slot).gen → x ∈ t.watches

/-- A slot whose story an abandoned FILE of the port would take with it (R9). -/
def Switch.filesInto (s : Switch) (p : PortId) (i : SlotId) : Prop := ∃ u, s.uploads.get p = some u ∧ u.kind = .file ∧ u.handle.slot = i

namespace Switch.Sheds

variable {s t u : Switch} {falls : SlotId → Prop}

theorem refl (s : Switch) : s.Sheds s falls :=
  ⟨⟨_, _, _, _, _, _, rfl, rfl, rfl⟩, fun _ => .refl, fun _ member => member, fun _ member _ => member⟩

theorem trans (a : s.Sheds t falls) (b : t.Sheds u falls) : s.Sheds u falls where
  shape := by
    obtain ⟨_, _, _, _, _, _, rfl, copy, sent⟩ := a.shape
    obtain ⟨_, _, _, _, _, _, rfl, copy', sent'⟩ := b.shape
    exact ⟨_, _, _, _, _, _, rfl, copy'.trans copy, sent'.trans sent⟩
  slot i := (a.slot i).trans (b.slot i)
  watch x member := a.watch x (b.watch x member)
  otherWatch x member same := by
    obtain ⟨first, second⟩ := (a.slot x.handle.slot).gen_eq (b.slot x.handle.slot) same
    exact b.otherWatch x (a.otherWatch x member first) second

/-- A step that keeps the watch table and the slots but for one story. -/
theorem of_slots {slots : Bank 1024 Slot} {inboxes : Bank 6 Inbox} {store : Store} {uploads : Bank 6 (Option Upload)} {last : LastEvent}
    (copy : store.copy = s.store.copy) (sent : last.sent = s.last.sent) (slot : ∀ i, (s.slots.get i).GoesTo (falls i) (slots.get i)) :
    s.Sheds { s with slots := slots, inboxes := inboxes, store := store, uploads := uploads, last := last } falls :=
  ⟨⟨_, _, _, _, _, _, rfl, copy, sent⟩, slot, fun _ member => member, fun _ member _ => member⟩

/-- A step in which one story goes with its watch entries. -/
theorem of_gone {k : Handle} {st : Story} {inboxes : Bank 6 Inbox} {store : Store} {uploads : Bank 6 (Option Upload)} {last : LastEvent}
    (found : s.story k = some st) (may : falls k.slot ∨ st.status = .spiked true) (copy : store.copy = s.store.copy)
    (sent : last.sent = s.last.sent) :
    s.Sheds
      { s with
        slots := s.slots.set k.slot { gen := k.gen + 1, story := none }
        watches := s.watches.filter fun w => w.handle != k
        inboxes := inboxes, store := store, uploads := uploads, last := last } falls := by
  obtain ⟨gen, held⟩ := story_eq_some.1 found
  refine ⟨⟨_, _, _, _, _, _, rfl, copy, sent⟩, Bank.get_set_goesTo (.inr ⟨by rw [gen], rfl, by rw [held]; nofun, ?_⟩),
    fun x member => List.mem_of_mem_filter member, fun x member same => List.mem_filter.2 ⟨member, ?_⟩⟩
  · rw [held, Option.map_some, Option.some_inj]
    exact may
  · refine bne_iff_ne.2 fun named => ?_
    subst named
    change ((s.slots.set x.handle.slot _).get x.handle.slot).gen = _ at same
    rw [Bank.get_set_same, gen] at same
    exact absurd same (by dsimp only; bv_omega)

theorem setStory_goesTo {k : Handle} {st st' : Story} (found : s.story k = some st) (status : st'.status = st.status) (i : SlotId) :
    (s.slots.get i).GoesTo (falls i) ((s.setStory k.slot st').slots.get i) := by
  refine Bank.get_set_goesTo (x := { s.slots.get k.slot with story := some st' }) (.inl ⟨rfl, ?_⟩) i
  rw [(story_eq_some.1 found).2]
  exact congrArg some status

theorem unpin (s : Switch) (k : Handle) (n : Nat) : s.Sheds (s.unpin k n) falls := by
  cases found : s.story k with
  | none =>
    rw [unpin_of_no_story found]
    exact .refl s
  | some st =>
    by_cases last : st.status = .spiked true ∧ ∀ v ∈ unpinnedFrom st n, v.pins = 0
    · rw [unpin_last found last.1 last.2]
      exact .of_gone found (.inr last.1) rfl rfl
    · rw [unpin_not_last found last]
      exact .of_slots rfl rfl (setStory_goesTo found rfl)

theorem clearMark_goesTo (s : Switch) (u : Upload) (i : SlotId) : (s.slots.get i).GoesTo (falls i) ((s.clearMark u).slots.get i) := by
  by_cases none : u.victim = none ∨ s.story u.handle = none
  · rw [clearMark_of_none none]
    exact .refl
  · rw [not_or] at none
    obtain ⟨n, victim⟩ := Option.ne_none_iff_exists'.1 none.1
    obtain ⟨st, found⟩ := Option.ne_none_iff_exists'.1 none.2
    rw [clearMark_of_victim victim found]
    exact setStory_goesTo found (by rfl) i

theorem uploadFailed (s : Switch) (p : PortId) (u : Upload) : s.Sheds (s.uploadFailed p u) falls := by
  have slot := clearMark_goesTo (falls := falls) s u
  unfold Switch.uploadFailed
  exact uploadReturned_cases s u (fun t => s.Sheds { t with slots := (s.clearMark u).slots, uploads := s.uploads.set p none } falls)
    (fun _ => of_slots rfl rfl slot) (of_slots rfl rfl slot)

theorem abandonUpload (s : Switch) (p : PortId) : s.Sheds (s.abandonUpload p) (s.filesInto p) := by
  cases upload : s.uploads.get p with
  | none =>
    rw [abandonUpload_of_none upload]
    exact .refl s
  | some u =>
    by_cases other : u.kind ≠ .file ∨ (s.uploadFailed p u).story u.handle = none
    · rw [abandonUpload_of_other upload other]
      exact uploadFailed s p u
    · rw [not_or, not_not] at other
      obtain ⟨st, found⟩ := Option.ne_none_iff_exists'.1 other.2
      rw [abandonUpload_of_file upload other.1 found]
      have watches : s.watches = (s.uploadFailed p u).watches := by
        obtain ⟨store, last, shape⟩ := s.uploadFailed_shape p u
        rw [shape]
      unfold fileDropped
      rw [watches]
      exact (uploadFailed s p u).trans (of_gone found (.inl ⟨u, upload, other.1, rfl⟩) rfl rfl)

end Switch.Sheds

namespace Switch

theorem abandonUpload_uploads (s : Switch) (p : PortId) : (s.abandonUpload p).uploads = s.uploads.set p none := by
  cases upload : s.uploads.get p with
  | none =>
    rw [abandonUpload_of_none upload, ← upload, Bank.set_get]
  | some u =>
    by_cases other : u.kind ≠ .file ∨ (s.uploadFailed p u).story u.handle = none
    · rw [abandonUpload_of_other upload other]
      rfl
    · rw [not_or, not_not] at other
      obtain ⟨st, found⟩ := Option.ne_none_iff_exists'.1 other.2
      rw [abandonUpload_of_file upload other.1 found]
      rfl

theorem unpin_uploadKept (s : Switch) (k : Handle) (n : Nat) (q : PortId) : uploadKept s (s.unpin k n) q := by
  cases found : s.story k with
  | none =>
    rw [unpin_of_no_story found]
    exact .inl rfl
  | some st =>
    by_cases last : st.status = .spiked true ∧ ∀ v ∈ unpinnedFrom st n, v.pins = 0
    · rw [unpin_last found last.1 last.2]
      have record : (s.purged k st).uploads.get q = (s.uploads.get q).map fun u => if u.handle = k then { u with victim := none } else u :=
        Bank.get_map ..
      cases upload : s.uploads.get q with
      | none =>
        refine .inl ?_
        rw [record, upload]
        rfl
      | some u =>
        rw [upload, Option.map_some] at record
        by_cases named : u.handle = k
        · rw [if_pos named] at record
          refine .inr ⟨u, upload, record, ?_⟩
          change ((s.slots.set k.slot _).get u.handle.slot).gen = _
          rw [named, Bank.get_set_same]
        · rw [if_neg named] at record
          exact .inl (record.trans upload.symm)
    · rw [unpin_not_last found last]
      exact .inl rfl

end Switch

end Sys2Proof.Machine
end

section
/-! SUPPORT. What a detach and a rise of a port's reset line both leave (spec/03 R56, spec/05 R96, spec/09 R162, R165). -/

namespace Sys2Proof.Machine

/-! ### Locks let go (R56) -/

namespace Slot

/-- The status of the story in a slot. -/
abbrev status (x : Slot) : Option Status := x.story.map Story.status

open Switch in
theorem releaseLockOf_status (p : PortId) (x : Slot) :
    ((releaseLockOf p x).status = x.status ∧ ∀ l, x.status = some (.opened l) → l.holder.port ≠ p) ∨
      ∃ l, x.status = some (.opened l) ∧ l.holder.port = p ∧ (releaseLockOf p x).status = some .filed := by
  unfold releaseLockOf status
  cases held : x.story with
  | none => exact .inl ⟨by rw [held], nofun⟩
  | some st =>
    dsimp only
    split
    · rename_i l opened
      by_cases own : l.holder.port = p
      · rw [if_pos own]
        exact .inr ⟨l, congrArg some opened, own, rfl⟩
      · rw [if_neg own, held]
        refine .inl ⟨rfl, fun l' opened' => ?_⟩
        cases opened.symm.trans (Option.some.inj opened')
        exact own
    · rename_i shut
      rw [held]
      exact .inl ⟨rfl, fun l opened => absurd (Option.some.inj opened) (shut l)⟩

/-- A slot with its generation and its story's status, but that an offer of it may have expired. -/
def Expires (x y : Slot) : Prop := y.gen = x.gen ∧ (y.status = x.status ∨ (∃ o, x.status = some (.offered o)) ∧ y.status = some .filed)

theorem Expires.refl {x : Slot} : x.Expires x := ⟨rfl, .inl rfl⟩

theorem Expires.trans {x y z : Slot} (a : x.Expires y) (b : y.Expires z) : x.Expires z := by
  refine ⟨b.1.trans a.1, ?_⟩
  rcases b.2 with same | ⟨offered, filed⟩
  · rw [same]
    exact a.2
  · rcases a.2 with same | ⟨offered', -⟩
    · rw [same] at offered
      exact .inr ⟨offered, filed⟩
    · exact .inr ⟨offered', filed⟩

theorem Expires.opened {x y : Slot} (a : x.Expires y) (l : Lock) : y.status = some (.opened l) ↔ x.status = some (.opened l) := by
  rcases a.2 with same | ⟨⟨o, offered⟩, filed⟩
  · rw [same]
  · rw [offered, filed]
    exact ⟨nofun, nofun⟩

end Slot

namespace Switch

theorem letGo_slot (s : Switch) (p : PortId) (i : SlotId) : (s.letGo p).slots.get i = releaseLockOf p (s.slots.get i) := Bank.get_map ..

/-! ### The command abandoned (R162) -/

theorem abandonCommand_sheds (s : Switch) (p : PortId) :
    ({ s with ports := s.ports.set p (s.ports.get p).idled, saving := orphaned s.saving p } : Switch).Sheds (s.abandonCommand p) (s.filesInto p) := by
  have upload := Sheds.abandonUpload s p
  obtain ⟨slots, watches, inboxes, store, uploads, last, shape, copy, sent⟩ := upload.shape
  have closed : ({ s with ports := s.ports.set p (s.ports.get p).idled, saving := orphaned s.saving p } : Switch).Sheds
      { s.abandonUpload p with ports := s.ports.set p (s.ports.get p).idled, saving := orphaned s.saving p } (s.filesInto p) :=
    ⟨⟨slots, watches, inboxes, store, uploads, last, by rw [shape], copy, sent⟩, upload.slot, upload.watch, upload.otherWatch⟩
  have ports : (s.abandonUpload p).ports = s.ports := by rw [shape]
  rw [abandonCommand_eq, endStream_eq, ports]
  split
  · exact closed.trans (.unpin _ _ _)
  · exact closed

theorem abandonCommand_uploadKept (s : Switch) {p q : PortId} (other : q ≠ p) : uploadKept s (s.abandonCommand p) q := by
  have same : (s.abandonUpload p).uploads.get q = s.uploads.get q := by
    rw [abandonUpload_uploads, Bank.get_set_ne _ _ other.symm]
  rw [abandonCommand_eq, endStream_eq]
  split
  · have kept := unpin_uploadKept
      { s.abandonUpload p with
        saving := orphaned s.saving p, ports := (s.abandonUpload p).ports.set p ((s.abandonUpload p).ports.get p).idled } 
    unfold uploadKept at kept ⊢
    rw [← same]
    exact kept _ _ q
  · exact .inl same

theorem abandonCommand_upload (s : Switch) (p : PortId) : (s.abandonCommand p).uploads.get p = none := StoreInOrder.closed_abandonCommand s p

/-! ### The clearing as a whole (R162, R165) -/

theorem clearedFrom_of_letGo {s a t w : Switch} {p : PortId} {y : Port} {cleared : LastEvent} {slots : Bank 1024 Slot} {inboxes : Bank 6 Inbox}
    {store : Store} {last : LastEvent} (start : a = { s with ports := s.ports.set p y, last := cleared })
    (go : t = (a.abandonCommand p).letGo p)
    (shape : w = { t with slots := slots, inboxes := inboxes, store := store, last := last })
    (copy : store.copy = t.store.copy) (expires : ∀ i, (t.slots.get i).Expires (slots.get i))
    (empty : inboxes.get p = { notices := [], lost := 0 }) : s.ClearedFrom w p := by
  have sheds := a.abandonCommand_sheds p
  obtain ⟨slots', watches', inboxes', store', uploads', last', form, copy', sent'⟩ := sheds.shape
  have gens (i : SlotId) : (slots.get i).gen = ((a.abandonCommand p).slots.get i).gen := by
    rw [(expires i).1, go, letGo_slot, (releaseLockOf_story p _).1]
  have watches : w.watches = (a.abandonCommand p).watches.filter fun x => x.port != p := by
    rw [shape, go]
    rfl
  have uploads : w.uploads = (a.abandonCommand p).uploads := by
    rw [shape, go]
    rfl
  have slot : w.slots = slots := by rw [shape]
  have kept : ∀ i l, (slots.get i).status = some (.opened l) ↔ (releaseLockOf p ((a.abandonCommand p).slots.get i)).status = some (.opened l) := by
    intro i l
    rw [(expires i).opened l, go, letGo_slot]
  have base : a.slots = s.slots ∧ a.watches = s.watches ∧ a.uploads = s.uploads := by
    rw [start]
    exact ⟨rfl, rfl, rfl⟩
  obtain ⟨slots_a, watches_a, uploads_a⟩ := base
  have ports : w.ports = s.ports.set p y.idled := by
    rw [shape, go]
    change (a.abandonCommand p).ports = _
    rw [form]
    change a.ports.set p (a.ports.get p).idled = _
    rw [start]
    change (s.ports.set p y).set p ((s.ports.set p y).get p).idled = _
    rw [Bank.get_set_same, Bank.set_set]
  constructor
  case upload => rw [uploads, abandonCommand_upload]
  case otherUpload =>
    intro q other
    have keeps := a.abandonCommand_uploadKept other
    unfold uploadKept at keeps ⊢
    simp only [slot, gens, uploads, ← uploads_a]
    exact keeps
  case otherPort =>
    intro q other
    rw [ports, Bank.get_set_ne _ _ other.symm]
  case watches =>
    intro x member
    rw [watches, List.mem_filter] at member
    exact ⟨watches_a ▸ sheds.watch x member.1, bne_iff_ne.1 member.2⟩
  case otherWatches =>
    intro x member other same
    rw [slot, gens, ← slots_a] at same
    rw [watches]
    exact List.mem_filter.2 ⟨sheds.otherWatch x (watches_a ▸ member) same, bne_iff_ne.2 other⟩
  case inbox =>
    rw [shape]
    exact empty
  case locks =>
    intro i st l held opened
    have status : (slots.get i).status = some (.opened l) := by
      rw [← slot, Slot.status, held, Option.map_some, opened]
    rw [kept] at status
    rcases Slot.releaseLockOf_status p ((a.abandonCommand p).slots.get i) with ⟨same, others⟩ | ⟨-, -, -, filed⟩
    · exact others l (same ▸ status)
    · cases status.symm.trans filed
  case otherLocks =>
    intro i st l held opened other elsewhere
    have status : (a.slots.get i).status = some (.opened l) := by
      rw [slots_a, Slot.status, held, Option.map_some, opened]
    have stays : ¬a.filesInto p i := by
      rintro ⟨u, upload, kind, into⟩
      exact elsewhere u (uploads_a ▸ upload) kind into
    have left := (sheds.slot i).status stays (by nofun) status
    rw [slot]
    refine (kept i l).2 ?_
    rcases Slot.releaseLockOf_status p ((a.abandonCommand p).slots.get i) with ⟨same, -⟩ | ⟨l', opened', own, -⟩
    · exact same.trans left
    · cases left.symm.trans opened'
      exact absurd own other
  case copy =>
    rw [shape]
    refine copy.trans ?_
    rw [go]
    change (a.abandonCommand p).store.copy = _
    rw [form]
    refine copy'.trans ?_
    rw [start]
  case saving =>
    rw [shape, go]
    change (a.abandonCommand p).saving = _
    rw [form, start]
    rfl
  all_goals
    rw [shape, go]
    unfold letGo
    dsimp only
    rw [form, start]

end Switch

end Sys2Proof.Machine
end

section
/-! SUPPORT. Offers that expire with their desk's port, the detach and the port-reset line (spec/04 R69, spec/09 R162, R165). -/

namespace Sys2Proof.Machine

theorem Slot.Expires.offered {x y : Slot} (a : x.Expires y) {o : Offer} (open_ : y.status = some (.offered o)) : x.status = some (.offered o) := by
  rcases a.2 with same | ⟨-, filed⟩
  · rw [← same, open_]
  · cases filed.symm.trans open_

namespace Switch

/-! ### Offers that expire together (R69) -/

/-- What offers that expire leave: stories and inboxes alone change, each slot by the expiry of its offer, and no inbox of a detached port. -/
structure Lapses (s t : Switch) : Prop where
  shape : ∃ slots inboxes, t = { s with slots := slots, inboxes := inboxes }
  slot : ∀ i, (s.slots.get i).Expires (t.slots.get i)
  inbox : ∀ q, (s.ports.get q).standing = .detached → t.inboxes.get q = s.inboxes.get q

theorem Lapses.refl (s : Switch) : s.Lapses s := ⟨⟨_, _, rfl⟩, fun _ => .refl, fun _ _ => rfl⟩

theorem Lapses.trans {s t u : Switch} (a : s.Lapses t) (b : t.Lapses u) : s.Lapses u where
  shape := by
    obtain ⟨_, _, rfl⟩ := a.shape
    obtain ⟨_, _, rfl⟩ := b.shape
    exact ⟨_, _, rfl⟩
  slot i := (a.slot i).trans (b.slot i)
  inbox q detached := by
    refine (b.inbox q ?_).trans (a.inbox q detached)
    obtain ⟨_, _, rfl⟩ := a.shape
    exact detached

theorem expireOffer_of_offered {s : Switch} {i : SlotId} {st : Story} {o : Offer} (held : (s.slots.get i).story = some st)
    (offered : st.status = .offered o) (reason : Reason) : expireOffer reason s i =
      { s with
        slots := (s.setStory i { st with status := .filed }).slots
        inboxes :=
          (s.post
            { kind := .offerExpired, cls := st.urgency, stamp := s.wall, handle := some (s.handleAt i), slug := some st.slug,
              fromDesk := some st.owner, toDesk := some o.target, reason := some reason }
            (fun q => s.groups.ports.serving.get st.owner == some q || q == o.port)).inboxes } := by
  unfold expireOffer
  rw [show (s.slot i).story = some st from held]
  dsimp only
  rw [offered]
  rfl

theorem expireOffer_of_other {s : Switch} {i : SlotId} (other : ∀ o, (s.slots.get i).status ≠ some (.offered o)) (reason : Reason) :
    expireOffer reason s i = s := by
  unfold expireOffer
  split
  · rfl
  · rename_i st held
    split
    · rename_i o offered
      refine absurd ?_ (other o)
      rw [Slot.status, show (s.slots.get i).story = some st from held, Option.map_some, offered]
    · rfl

theorem expireOffer_lapses (reason : Reason) (s : Switch) (i : SlotId) :
    s.Lapses (expireOffer reason s i) ∧ ∀ o, ((expireOffer reason s i).slots.get i).status ≠ some (.offered o) := by
  by_cases other : ∀ o, (s.slots.get i).status ≠ some (.offered o)
  · rw [expireOffer_of_other other]
    exact ⟨.refl s, other⟩
  · push Not at other
    obtain ⟨o, status⟩ := other
    obtain ⟨st, held, offered⟩ := Option.map_eq_some_iff.1 status
    rw [expireOffer_of_offered held offered]
    have slots (j : SlotId) : (s.setStory i { st with status := .filed }).slots.get j =
        if i = j then { s.slots.get i with story := some { st with status := .filed } } else s.slots.get j := Bank.get_set ..
    refine ⟨⟨⟨_, _, rfl⟩, fun j => ?_, fun q detached => post_inbox_of_unsent (.inr detached)⟩, ?_⟩
    · dsimp only
      rw [slots]
      by_cases same : i = j
      · subst same
        rw [if_pos rfl]
        exact ⟨rfl, .inr ⟨⟨o, status⟩, rfl⟩⟩
      · rw [if_neg same]
        exact .refl
    · dsimp only
      rw [slots, if_pos rfl]
      nofun

theorem expireOffers_lapses (reason : Reason) (l : List SlotId) : ∀ s : Switch, s.Lapses (l.foldl (expireOffer reason) s) ∧
    ∀ i ∈ l, ∀ o, ((l.foldl (expireOffer reason) s).slots.get i).status ≠ some (.offered o) := by
  induction l with
  | nil => exact fun s => ⟨.refl s, nofun⟩
  | cons i l ih =>
    intro s
    obtain ⟨first, ended⟩ := expireOffer_lapses reason s i
    obtain ⟨rest, others⟩ := ih (expireOffer reason s i)
    refine ⟨first.trans rest, fun j member o => ?_⟩
    rcases List.mem_cons.1 member with rfl | later
    · exact fun open_ => ended o ((rest.slot j).offered open_)
    · exact others j later o

theorem offeredTo_iff (s : Switch) (p : PortId) (x : Slot) :
    s.offeredTo p x = true ↔ ∃ o, x.status = some (.offered o) ∧ s.groups.ports.serving.get o.target = some p := by
  unfold offeredTo Slot.status serves serving
  cases x.story with
  | none => exact ⟨nofun, nofun⟩
  | some st =>
    dsimp only [Option.map_some]
    split
    · rename_i o offered
      rw [offered, beq_iff_eq]
      exact ⟨fun named => ⟨o, rfl, named⟩, fun ⟨o', is, named⟩ => by cases is; exact named⟩
    · rename_i other
      exact ⟨nofun, fun ⟨o, is, _⟩ => absurd (Option.some.inj is) (other o)⟩

theorem abandonCommand_ports (s : Switch) (p : PortId) : (s.abandonCommand p).ports = s.ports.set p (s.ports.get p).idled := by
  obtain ⟨⟨_, _, _, _, _, _, form, _, _⟩, -, -, -⟩ := s.abandonCommand_sheds p
  rw [form]

theorem abandonCommand_groups (s : Switch) (p : PortId) : (s.abandonCommand p).groups = s.groups := by
  obtain ⟨⟨_, _, _, _, _, _, form, _, _⟩, -, -, -⟩ := s.abandonCommand_sheds p
  rw [form]

theorem abandonCommand_wall (s : Switch) (p : PortId) : (s.abandonCommand p).wall = s.wall := by
  obtain ⟨⟨_, _, _, _, _, _, form, _, _⟩, -, -, -⟩ := s.abandonCommand_sheds p
  rw [form]

theorem abandonCommand_sent (s : Switch) (p : PortId) : (s.abandonCommand p).last.sent = s.last.sent := by
  obtain ⟨⟨_, _, _, _, _, _, form, _, sent⟩, -, -, -⟩ := s.abandonCommand_sheds p
  rw [form]
  exact sent

/-- A port made DETACHED, its own records still to clear. -/
def standingDown (s : Switch) (p : PortId) : Switch :=
  { s with ports := s.ports.set p { s.ports.get p with standing := .detached, quietStart := s.wall } }

/-- A detached port's records cleared and its inbox emptied, with the offers to its desks still open. -/
def detachCleared (s : Switch) (p : PortId) : Switch :=
  let t := ((s.standingDown p).abandonCommand p).letGo p
  { t with inboxes := t.inboxes.set p { notices := [], lost := 0 } }

theorem detachCleared_groups (s : Switch) (p : PortId) : (s.detachCleared p).groups = s.groups := (s.standingDown p).abandonCommand_groups p

theorem detachCleared_wall (s : Switch) (p : PortId) : (s.detachCleared p).wall = s.wall := (s.standingDown p).abandonCommand_wall p

theorem detachCleared_ports (s : Switch) (p : PortId) :
    (s.detachCleared p).ports = s.ports.set p { (s.ports.get p).idled with standing := .detached, quietStart := s.wall } := by
  refine ((s.standingDown p).abandonCommand_ports p).trans ?_
  unfold standingDown
  dsimp only
  rw [Bank.get_set_same, Bank.set_set]
  rfl

/-- The offers to a detached port's desks expired. -/
def detachExpired (s : Switch) (p : PortId) : Switch :=
  ((s.detachCleared p).slots.indices ((s.detachCleared p).offeredTo p)).foldl (expireOffer .portDetached) (s.detachCleared p)

theorem detachExpired_lapses (s : Switch) (p : PortId) : (s.detachCleared p).Lapses (s.detachExpired p) := (expireOffers_lapses ..).1

theorem detachExpired_ports (s : Switch) (p : PortId) :
    (s.detachExpired p).ports = s.ports.set p { (s.ports.get p).idled with standing := .detached, quietStart := s.wall } := by
  obtain ⟨slots, inboxes, shape⟩ := (s.detachExpired_lapses p).shape
  rw [shape]
  exact s.detachCleared_ports p

theorem detachExpired_groups (s : Switch) (p : PortId) : (s.detachExpired p).groups = s.groups := by
  obtain ⟨slots, inboxes, shape⟩ := (s.detachExpired_lapses p).shape
  rw [shape]
  exact s.detachCleared_groups p

theorem detach_eq (s : Switch) (p : PortId) : s.detach p =
    { s.detachExpired p with
      inboxes :=
        ((s.detachExpired p).postControl { kind := .portDetached, cls := .bulletin, stamp := s.wall, note := some (byte p.val) }).inboxes } := by
  have wall : (s.detachExpired p).wall = s.wall := by
    obtain ⟨slots, inboxes, shape⟩ := (s.detachExpired_lapses p).shape
    exact (congrArg Switch.wall shape).trans (s.detachCleared_wall p)
  rw [← wall]
  rfl

theorem detach_clearedFrom (s : Switch) (p : PortId) : s.ClearedFrom (s.detach p) p := by
  have lapses := s.detachExpired_lapses p
  obtain ⟨slots, inboxes, shape⟩ := lapses.shape
  have slot := lapses.slot
  have detached : ((s.detachExpired p).ports.get p).standing = .detached := by
    rw [detachExpired_ports, Bank.get_set_same]
  have empty := lapses.inbox p (by rw [detachCleared_ports, Bank.get_set_same])
  rw [detach_eq]
  have unsent := post_inbox_of_unsent (s := s.detachExpired p) (who := (s.detachExpired p).isControl)
    (n := { kind := .portDetached, cls := .bulletin, stamp := s.wall, note := some (byte p.val) }) (.inr detached)
  have form := congrArg (fun t : Switch => ({ t with inboxes := ((s.detachExpired p).postControl
    { kind := .portDetached, cls := .bulletin, stamp := s.wall, note := some (byte p.val) }).inboxes } : Switch)) shape
  rw [shape] at slot
  exact clearedFrom_of_letGo (a := s.standingDown p) (t := ((s.standingDown p).abandonCommand p).letGo p) (slots := slots)
    (store := (s.detachCleared p).store) (by rfl) (by rfl) form (by rfl) slot (unsent.trans (empty.trans (Bank.get_set_same ..)))

theorem detach_offers (s : Switch) (p : PortId) {i : SlotId} {st : Story} {o : Offer} (held : ((s.detach p).slots.get i).story = some st)
    (offered : st.status = .offered o) : s.groups.ports.serving.get o.target ≠ some p := by
  obtain ⟨lapses, ended⟩ := expireOffers_lapses .portDetached ((s.detachCleared p).slots.indices ((s.detachCleared p).offeredTo p)) (s.detachCleared p)
  have status : ((s.detachExpired p).slots.get i).status = some (.offered o) := by
    rw [detach_eq] at held
    rw [Slot.status, held, Option.map_some, offered]
  intro named
  refine ended i ((Bank.mem_indices ..).2 ((offeredTo_iff ..).2 ⟨o, (lapses.slot i).offered status, ?_⟩)) o status
  rw [detachCleared_groups, named]

/-! ### The port-reset line (R165) -/

/-- A port whose reset line has risen, its records still to clear. -/
def resetRaised (s : Switch) (p : PortId) : Switch :=
  { s with
    ports := s.ports.set p { s.ports.get p with resetLine := true }
    last := { sent := [], released := false } }

/-- What a rise of a port's reset line leaves beside the port's cleared records: the eased test and the emptied inbox. -/
theorem resetPort_shape (s : Switch) (p : PortId) : ∃ (tight : Bool) (inboxes : Bank 6 Inbox), s.resetPort p =
    { ((s.resetRaised p).abandonCommand p).letGo p with
      store := { (((s.resetRaised p).abandonCommand p).letGo p).store with tight := tight }
      inboxes := inboxes.set p { notices := [], lost := 0 } } := by
  obtain ⟨tight, inboxes, eased⟩ := easedTest_eq (((s.resetRaised p).abandonCommand p).letGo p)
  exact ⟨tight, inboxes, congrArg (fun t : Switch => t.emptyInbox p) eased⟩

theorem resetPort_clearedFrom (s : Switch) (p : PortId) : s.ClearedFrom (s.resetPort p) p := by
  obtain ⟨tight, inboxes, shape⟩ := s.resetPort_shape p
  exact clearedFrom_of_letGo (a := s.resetRaised p) (by rfl) rfl shape rfl (fun _ => .refl) (Bank.get_set_same ..)

theorem resetPort_port (s : Switch) (p : PortId) : (s.resetPort p).ports.get p = { (s.ports.get p).idled with resetLine := true } := by
  obtain ⟨tight, inboxes, shape⟩ := s.resetPort_shape p
  have ports : (s.resetPort p).ports = ((s.resetRaised p).abandonCommand p).ports :=
    (congrArg Switch.ports shape).trans (by rfl)
  rw [ports, abandonCommand_ports, Bank.get_set_same]
  exact congrArg Port.idled (Bank.get_set_same ..)

theorem resetPort_sent (s : Switch) (p : PortId) : (s.resetPort p).last.sent = [] := by
  obtain ⟨tight, inboxes, shape⟩ := s.resetPort_shape p
  exact (congrArg (fun t : Switch => t.last.sent) shape).trans ((s.resetRaised p).abandonCommand_sent p)

theorem resetPort_offers (s : Switch) {p : PortId} {i : SlotId} {st : Story} {o : Offer} (held : (s.slots.get i).story = some st)
    (offered : st.status = .offered o) (elsewhere : ∀ u, s.uploads.get p = some u → u.kind = .file → u.handle.slot ≠ i) :
    ((s.resetPort p).slots.get i).story.map Story.status = some (.offered o) := by
  obtain ⟨tight, inboxes, shape⟩ := s.resetPort_shape p
  have slots : (s.resetPort p).slots.get i = releaseLockOf p (((s.resetRaised p).abandonCommand p).slots.get i) :=
    (congrArg (fun t : Switch => t.slots.get i) shape).trans (letGo_slot ..)
  have status : (s.slots.get i).status = some (.offered o) := by
    rw [Slot.status, held, Option.map_some, offered]
  have left : (((s.resetRaised p).abandonCommand p).slots.get i).status = some (.offered o) :=
    (((s.resetRaised p).abandonCommand_sheds p).slot i).status (fun ⟨u, upload, kind, into⟩ => elsewhere u upload kind into) (by nofun) status
  rw [slots]
  rcases Slot.releaseLockOf_status p (((s.resetRaised p).abandonCommand p).slots.get i) with ⟨same, -⟩ | ⟨l, opened, -, -⟩
  · exact same.trans left
  · cases left.symm.trans opened

end Switch

open Switch in
/-- Settles O46: the closed forms of the parts, and what the parts leave together. -/
theorem detachAndPortResetClearThePort : Obligations.DetachAndPortResetClearThePort := by
  refine ⟨fun s u => ⟨clearMark_of_none, fun n st victim found => clearMark_of_victim victim found⟩,
    fun s p => ⟨abandonUpload_of_none, fun u upload => ⟨abandonUpload_of_other upload, fun st kind found => abandonUpload_of_file upload kind found⟩,
      abandonCommand_eq s p⟩,
    fun s i st o reason held offered => expireOffer_of_offered held offered reason, fun s p => ?_, fun s p => ?_, fun s p => State.run_eq s _ _ (by rfl) (by rfl)⟩
  · intro w cleared emptied offers expired
    have served : (s.detachCleared p).offeredTo p = fun x =>
        match x.story.map Story.status with
        | some (.offered o) => s.groups.ports.serving.get o.target == some p
        | _ => false := by
      funext x
      refine Bool.eq_iff_iff.2 ((offeredTo_iff ..).trans ?_)
      rw [detachCleared_groups]
      split
      · rename_i o offered
        rw [Slot.status, offered, beq_iff_eq]
        exact ⟨fun ⟨o', is, named⟩ => by cases is; exact named, fun named => ⟨o, rfl, named⟩⟩
      · rename_i other
        exact ⟨fun ⟨o, is, _⟩ => absurd is (other o), nofun⟩
    have same : expired = s.detachExpired p := (congrArg (fun offered =>
      ((s.detachCleared p).slots.indices offered).foldl (expireOffer .portDetached) (s.detachCleared p)) served).symm
    rw [same]
    refine ⟨detach_eq s p, detach_clearedFrom s p, ?_, fun i st o held offered => detach_offers s p held offered, fun k other control standing => ?_⟩
    · change (s.detach p).ports.get p = _
      rw [detach_eq]
      exact (congrArg (fun ports : Bank 6 Port => ports.get p) (s.detachExpired_ports p)).trans (Bank.get_set_same ..)
    · change (s.detach p).inboxes.get k = _
      rw [detach_eq]
      refine post_inbox_of_sent (s := s.detachExpired p) ?_ ?_
      · unfold isControl
        rw [detachExpired_groups, control]
        rfl
      · rwa [detachExpired_ports, Bank.get_set_ne _ _ other.symm]
  · intro eased w
    exact ⟨rfl, s.sw.resetPort_clearedFrom p, s.sw.resetPort_port p, fun i st o held offered elsewhere =>
      s.sw.resetPort_offers held offered elsewhere, s.sw.resetPort_sent p⟩

end Sys2Proof.Machine
end

section
/-! SUPPORT. SETTINGS, HOLD and UNHOLD, SAVE and the image's fields (spec/09 R167 to R170, R175, R178). -/

namespace Sys2Proof.Machine

theorem holdSetOf_eq {b : Byte} (positive : 0 < b.toNat) (small : b.toNat < 32) : holdSetOf b =
    some { ports := b.getLsbD 0, routing := b.getLsbD 1, clock := b.getLsbD 2, feed := b.getLsbD 3, store := b.getLsbD 4 } := by
  unfold holdSetOf groupSetOf
  rw [if_neg (by rintro rfl; exact absurd positive (Nat.lt_irrefl 0)), if_pos small]

/-! ### The image's fields (R178) -/

theorem listed_false (l : List α) (f : α → List Byte) : listed false l f = (l.map f).flatten := List.flatMap_def ..

theorem listed_singleton (l : List α) (f : α → Byte) : listed false l (fun x => [f x]) = l.map f := by
  unfold listed
  exact List.map_eq_flatMap.symm

theorem PortsGroup.fields_eq {served : Option PortId → Byte} (serves : ∀ x, orAllOnes x (fun p => byte p.val) = served x) (g : PortsGroup) :
    g.bytes false = g.privilege.cells.map Privilege.number ++ g.serving.cells.map served ++ g.label.cells.flatten := by
  unfold PortsGroup.bytes
  rw [listed_singleton, listed_singleton, listed_false, List.map_id]
  rw [funext serves, funext Privilege.byte_eq]

theorem Filter.bytes_eq (f : Filter) : f.bytes =
    [yesNo f.enabled, byte f.mask.val, byte f.desk.val, f.urgency.number] ++ be16 f.category ++ [byte f.destinations.toNat] := by
  unfold Filter.bytes
  rw [Urgency.byte_eq, ← BitVec.ofNat_toNat]
  rfl

theorem ChannelSettings.bytes_eq (c : ChannelSettings) : c.bytes =
    be16 c.deadline ++ [c.bufferMode.number] ++ be16 c.warnLead ++ [c.releaseMode.number] ++ be16 c.lateInterval ++ [byte c.lateDivisor] := by
  unfold ChannelSettings.bytes
  rw [BufferMode.byte_eq, ReleaseMode.byte_eq]

theorem FeedGroup.bytes_eq (g : FeedGroup) : g.bytes =
    [yesNo g.enable.a, yesNo g.enable.b, LinkId.number g.home, byte g.stallWindow, byte g.settlePeriod, byte g.attemptLimit,
      byte g.paceWindow, g.paceMode.number] := by
  unfold FeedGroup.bytes
  rw [LinkId.byte_eq, PaceMode.byte_eq]
  rfl

theorem Groups.fields_eq {served : Option PortId → Byte} (serves : ∀ x, orAllOnes x (fun p => byte p.val) = served x)
    {paged : Option PageDef → List Byte} (pages : ∀ x, pageDefBytes x = paged x) (g : Groups) : g.fields =
      g.ports.privilege.cells.map Privilege.number ++ g.ports.serving.cells.map served ++ g.ports.label.cells.flatten ++
        (g.routing.filters.cells.map fun f =>
          [yesNo f.enabled, byte f.mask.val, byte f.desk.val, f.urgency.number] ++ be16 f.category ++ [byte f.destinations.toNat]).flatten ++
        (g.routing.masks.cells.map fun m => [yesNo m.compareDesk, yesNo m.compareUrgency, byte m.categoryBits]).flatten ++
        be16 g.clock.editionLength ++
        (g.clock.channels.cells.map fun c =>
          be16 c.deadline ++ [c.bufferMode.number] ++ be16 c.warnLead ++ [c.releaseMode.number] ++ be16 c.lateInterval ++
            [byte c.lateDivisor]).flatten ++
        (g.clock.pages.cells.map paged).flatten ++
        [yesNo g.feed.enable.a, yesNo g.feed.enable.b, LinkId.number g.feed.home, byte g.feed.stallWindow, byte g.feed.settlePeriod,
          byte g.feed.attemptLimit, byte g.feed.paceWindow, g.feed.paceMode.number] ++
        be16 g.store.low ++ be16 g.store.high ++ be16 g.store.lease ++ be16 g.store.offerWindow := by
  unfold Groups.fields Groups.encode RoutingGroup.bytes ClockGroup.bytes StoreGroup.bytes
  rw [PortsGroup.fields_eq serves, FeedGroup.bytes_eq, listed_false, listed_false, listed_false, listed_false, funext Filter.bytes_eq,
    funext ChannelSettings.bytes_eq, funext pages]
  simp only [List.append_assoc]
  rfl

namespace Switch

/-! ### The image (R169) -/

theorem endSave_of_orphan {s : Switch} {x : Saving} (saving : s.saving = some x) (orphan : x.port = none) :
    s.endSave = { s with saving := none, image := some { contents := x.copy, check := crc32 x.copy.fields } } := by
  unfold endSave
  rw [saving]
  dsimp only
  rw [orphan]
  rfl

theorem endSave_of_port {s : Switch} {x : Saving} {p : PortId} {r : Running} (saving : s.saving = some x) (port : x.port = some p)
    (running : (s.ports.get p).running = some r) : s.endSave =
      ({ s with
          saving := none
          image := some { contents := x.copy, check := crc32 x.copy.fields }
          ports := s.ports.set p (s.ports.get p).idled } : Switch).answer { port := p, tag := r.tag } .ok [] := by
  unfold endSave
  rw [saving]
  dsimp only
  rw [port]
  unfold runningHead runningTag
  dsimp only
  rw [show (Switch.port { s with saving := none, image := some x.copy.image } p).running = some r from running]
  rfl

theorem endSave_of_none {s : Switch} (none : s.saving = none) : s.endSave = s := by
  unfold endSave
  rw [none]

end Switch

open Switch in
/-- Settles O47: each command and the write's end, and the five groups' fields in order. -/
theorem settingsHoldsAndSavesAct : Obligations.SettingsHoldsAndSavesAct := by
  refine ⟨fun s h a m taken checked => ?_, fun s h b positive small => ?_, fun s h taken => ⟨fun none => ?_, fun some => ?_⟩,
    fun s x saving => ⟨fun orphan => ?_, fun p r port running => ?_⟩, fun s none => State.run_eq s _ _ (endSave_of_none (s := s.sw.quietly) none) (by rfl),
    fun g => ?_⟩
  · cases m with
    | ports g =>
      refine ⟨fun ⟨p, control⟩ => State.answers taken checked (if_pos ?_), fun desks => State.refuses taken checked (if_neg ?_)⟩
      · exact List.contains_iff_mem.2 (Bank.mem_cells.2 ⟨p, control⟩)
      · intro control
        obtain ⟨p, is⟩ := Bank.mem_cells.1 (List.contains_iff_mem.1 control)
        cases (desks p).symm.trans is
    | feed stall settle attempts window mode => exact State.answers taken checked rfl
    | store g => exact State.answers taken checked rfl
  · have chosen := holdSetOf_eq positive small
    exact ⟨fun taken => State.answers taken chosen rfl, fun taken => State.answers taken chosen rfl⟩
  · exact State.acts taken rfl (if_neg (by rw [show s.sw.quietly.saving = .none from none]; nofun)) (by rfl)
  · exact State.refuses taken rfl (if_pos (Option.isSome_iff_ne_none.2 some))
  · exact State.run_eq s _ _ (endSave_of_orphan (s := s.sw.quietly) saving orphan) (by rfl)
  · exact State.run_eq s _ _ ((endSave_of_port (s := s.sw.quietly) saving port running).trans (answer_eq_replied _ _ _ _ (by rfl))) (by rfl)
  · refine Groups.fields_eq (fun x => ?_) (fun x => ?_) g
    · cases x <;> rfl
    · rcases x with _ | ⟨label, owner, binding⟩
      · rfl
      · cases binding <;> rfl

end Sys2Proof.Machine
end

section
/-! SUPPORT. The beginning of a restart (spec/09 R171; spec/01 R20, spec/02 R22, R38). -/

namespace Sys2Proof.Machine

open Switch in
theorem restartSlot_eq (x : Slot) : restartSlot x = x.restarted := by
  unfold restartSlot Slot.restarted
  cases x.story with
  | none => rfl
  | some st =>
    obtain ⟨status, _, _, _, _, _, _⟩ := st
    cases status with
    | spiked pending => cases pending <;> rfl
    | _ => rfl

namespace Switch

theorem stagedChains_eq (s : Switch) : s.stagedChains = s.uploads.cells.filterMap fun u => u.map Upload.staging := by
  unfold stagedChains
  rw [List.map_filterMap]
  rfl

theorem restartStore_eq (s : Switch) : s.restartStore =
    { s with
      store :=
        { freePool := s.restartChains.reverse.flatten ++ s.store.freePool
          freeCount := s.store.freeCount + (s.restartChains.map List.length).sum
          reserved := 0, tight := s.store.tight, copy := s.store.copy } } := by
  unfold restartStore
  rw [returnChain_foldl, stagedChains_eq]
  rfl

theorem beginRestart_restartedFrom (s : Switch) (cause : StartCause) : s.RestartedFrom (s.beginRestart cause) cause := by
  have closed := s.restartStore_eq
  unfold beginRestart
  rw [closed]
  constructor
  case ports => exact fun p => Bank.get_map ..
  case uploads => exact fun p => Bank.get_replicate ..
  case inboxes => exact fun p => emptyInboxes_inbox s p
  case slots => exact fun i => (Bank.get_map ..).trans (restartSlot_eq _)
  case channels => exact fun c => Bank.get_map ..
  case pages => exact fun q => Bank.get_map ..
  case links => exact fun l => by cases l <;> rfl
  all_goals rfl

theorem RestartedFrom.of_quietly {s w : Switch} {cause : StartCause} (restarted : s.quietly.RestartedFrom w cause) : s.RestartedFrom w cause :=
  { restarted with starting := restarted.starting }

theorem credited_lines (x : Port) : x.credited.dataStart = x.dataStart ∧ x.credited.holdLine = x.holdLine ∧ x.credited.resetLine = x.resetLine := by
  unfold Port.credited
  split
  · exact ⟨rfl, rfl, rfl⟩
  · exact ⟨rfl, rfl, rfl⟩

/-- The OK of a RESTART leaves nothing that the restart does not clear. -/
theorem restartCommand_restartedFrom (s : Switch) (h : Head) : s.RestartedFrom (restartCommand h () s) .restartCommand := by
  have answered := s.answer_eq h .ok []
  rw [if_pos rfl] at answered
  have restarted := (s.answer h .ok []).beginRestart_restartedFrom .restartCommand
  change s.RestartedFrom ((s.answer h .ok []).beginRestart .restartCommand) .restartCommand
  rw [answered] at restarted ⊢
  refine { restarted with ports := fun p => ?_ }
  obtain ⟨start, hold, reset⟩ := credited_lines (s.ports.get h.port)
  refine (restarted.ports p).trans ?_
  dsimp only
  rw [show s.creditedPorts h.port = s.ports.set h.port (s.ports.get h.port).credited from rfl, Bank.get_set]
  split
  · rename_i same
    rw [start, hold, reset, same]
  · rfl

end Switch

open Switch in
/-- Settles O48: one equation for the restart's records, which the reply before it does not touch, and power-on's by computation. -/
theorem startUpBegins : Obligations.StartUpBegins := by
  refine ⟨fun s h taken => ?_, fun s => ?_, fun s => State.run_eq s _ _ ?_ (by rfl)⟩
  · have last : (restartCommand h () s.sw.quietly).last = { sent := [resultFrame h .ok []], released := false } := by
      refine (Replies.beginRestart_last ..).trans ?_
      rw [answer_eq_replied _ _ _ _ (by rfl)]
      rfl
    exact ⟨_, State.acts taken rfl rfl (by rw [last]), (s.sw.quietly.restartCommand_restartedFrom h).of_quietly, last⟩
  · have last : (s.sw.quietly.beginRestart .resetLine).last = { sent := [], released := false } := Replies.beginRestart_last ..
    exact ⟨_, State.run_eq s _ _ rfl (by rw [last]), (s.sw.quietly.beginRestart_restartedFrom .resetLine).of_quietly, last⟩
  · have image : (if s.sw.quietly.saving.isSome = true then none else s.sw.quietly.image) = if s.sw.saving = none then s.sw.image else none := by
      change (if s.sw.saving.isSome = true then none else s.sw.image) = _
      cases s.sw.saving <;> rfl
    unfold powerOn
    rw [image]
    rfl

end Sys2Proof.Machine
end

section
/-! SUPPORT. The end of start-up (spec/09 R172; spec/02 R38, spec/06 R98, R104, R107, R111, spec/07 R133, R135, R153). -/

namespace Sys2Proof.Machine

namespace Switch

/-! ### The load (R172) -/

/-- The groups after the load: what it found, or the factory defaults, but for the groups held. -/
def reloaded (s : Switch) : Groups := mergeGroups s.holds s.groups (s.loaded.getD Groups.factory)

theorem loaded_of_good {s : Switch} {x : Image} (image : s.image = some x) (good : x.good = true) : s.loaded = some x.contents := by
  unfold Image.good at good
  rw [Bool.and_eq_true, beq_iff_eq] at good
  unfold loaded
  rw [image]
  exact if_pos good

theorem loaded_of_bad {s : Switch} {x : Image} (image : s.image = some x) (bad : x.good = false) : s.loaded = none := by
  unfold loaded
  rw [image]
  refine if_neg fun fits => ?_
  unfold Image.good at bad
  rw [beq_iff_eq.2 fits.1, fits.2] at bad
  cases bad

theorem loadImage_eq (s : Switch) : ∀ tries, loadImage s.image (tries + 1) = s.loaded := by
  cases image : s.image with
  | none =>
    intro tries
    unfold loaded
    rw [image]
    rfl
  | some x =>
    cases good : x.good with
    | true =>
      intro tries
      rw [loaded_of_good image good]
      exact if_pos good
    | false =>
      have failed (tries : Nat) : loadImage (some x) tries = none := by
        induction tries with
        | zero => rfl
        | succ tries ih => exact (if_neg (by rw [good]; nofun)).trans ih
      exact fun tries => (failed _).trans (loaded_of_bad image good).symm

theorem loadSettings_closed (s : Switch) : s.loadSettings = { s with groups := s.reloaded, defaulted := s.loaded.isNone } := by
  unfold loadSettings reloaded
  rw [show Config.loadTries = Config.loadTries - 1 + 1 from rfl, loadImage_eq]
  cases s.loaded with
  | none => rfl
  | some g => rfl

/-! ### The deadlines of a stopped clock (R104, R107) -/

/-- A channel on a stopped clock once it has taken a deadline. -/
def activated (x : Channel) (deadline : Nat) : Channel :=
  if x.active = deadline then x else { x with active := deadline, atRisk := false, warningDue := false }

theorem activated_active (x : Channel) (deadline : Nat) : (activated x deadline).active = deadline := by
  unfold activated
  split
  · assumption
  · rfl

theorem setActive_of_stopped {s : Switch} (stopped : s.clock.running = false) (c : ChannelId) (deadline : Nat) :
    s.setActive c deadline = { s with channels := s.channels.set c (activated (s.channels.get c) deadline) } := by
  rw [setActive_cases]
  unfold activated
  by_cases same : (s.channels.get c).active = deadline
  · rw [if_pos same, if_pos same, Bank.set_get]
  · rw [if_neg same, if_neg same, if_neg (by rw [stopped]; nofun)]

theorem takeDeadlines_foldl (l : List ChannelId) : ∀ {s : Switch}, s.clock.running = false →
    ∃ channels, l.foldl (fun s c => s.setActive c (s.channelSettings c).deadline) s = { s with channels := channels } ∧
      ∀ c, channels.get c = if c ∈ l then activated (s.channels.get c) (s.groups.clock.channels.get c).deadline else s.channels.get c := by
  induction l with
  | nil => exact fun _ => ⟨_, rfl, fun c => (if_neg List.not_mem_nil).symm⟩
  | cons c l ih =>
    intro s stopped
    rw [List.foldl_cons, setActive_of_stopped stopped]
    obtain ⟨channels, shape, own⟩ := ih (s := { s with channels := s.channels.set c (activated (s.channels.get c) (s.channelSettings c).deadline) }) stopped
    refine ⟨channels, shape, fun d => (own d).trans ?_⟩
    dsimp only
    rw [Bank.get_set]
    by_cases same : c = d
    · subst same
      rw [if_pos rfl, if_pos List.mem_cons_self]
      split
      · exact if_pos (activated_active ..)
      · rfl
    · rw [if_neg same]
      simp only [List.mem_cons, Ne.symm same, false_or]

theorem takeDeadlines_eq {s : Switch} (stopped : s.clock.running = false) : ∃ channels, s.takeDeadlines = { s with channels := channels } ∧
    ∀ c, channels.get c = activated (s.channels.get c) (s.groups.clock.channels.get c).deadline := by
  obtain ⟨channels, shape, own⟩ := takeDeadlines_foldl (allBelow 16) stopped
  exact ⟨channels, shape, fun c => (own c).trans (if_pos (mem_allBelow c))⟩

/-! ### The tight condition and the inboxes (R38, R86) -/

theorem judgeTight_eq (s : Switch) : s.judgeTight =
    { s with
      store := { s.store with tight := decide (s.store.freeCount - s.store.reserved < s.groups.store.low) }
      inboxes :=
        if s.store.freeCount - s.store.reserved < s.groups.store.low then
          (s.postControl { kind := .storeTight, cls := .bulletin, stamp := s.wall }).inboxes
        else s.inboxes } := by
  unfold judgeTight
  by_cases low : s.store.freeCount - s.store.reserved < s.groups.store.low
  · rw [if_pos low, decide_eq_true low]
    exact if_pos low
  · rw [if_neg low, decide_eq_false low]
    exact if_neg low

theorem emptyBeforeEnd_eq (s : Switch) : s.emptyBeforeEnd =
    { s with inboxes := if s.cause = .powerOn then s.inboxes else Bank.replicate 6 Inbox.empty } := by
  unfold emptyBeforeEnd
  split <;> rfl

/-! ### The event as a whole (R172) -/

/-- The switch once the load and the definitions have been taken. -/
def redefined (s : Switch) : Switch :=
  { s with
    groups := s.reloaded
    defaulted := s.loaded.isNone
    clock :=
      { s.clock with
        activeLength :=
          if s.clock.ticks < s.reloaded.clock.editionLength then s.reloaded.clock.editionLength else s.clock.activeLength }
    pages := s.pages.mapIdx fun q x =>
      if (s.groups.clock.pages.get q).isSome && (s.reloaded.clock.pages.get q).isSome then x else Page.fresh }

theorem takeDefinitions_eq (s : Switch) : takeDefinitions s s.loadSettings.takeLength = s.redefined := by
  rw [loadSettings_closed]
  rfl

/-- The inboxes that the end of start-up finds (log entry 42). -/
def boxesAtEnd (s : Switch) : Bank 6 Inbox := if s.cause = .powerOn then s.inboxes else Bank.replicate 6 Inbox.empty

/-- The switch at the end of start-up, for the channels it has then. -/
def startedUp (s : Switch) (channels : Bank 16 Channel) : Switch :=
  { s.redefined with
    channels := channels
    store := { s.store with tight := decide (s.store.freeCount - s.store.reserved < s.reloaded.store.low) }
    inboxes :=
      if s.store.freeCount - s.store.reserved < s.reloaded.store.low then
        (({ s with groups := s.reloaded, inboxes := s.boxesAtEnd } : Switch).postControl
          { kind := .storeTight, cls := .bulletin, stamp := s.wall }).inboxes
      else s.boxesAtEnd
    links := ⟨s.startLink s.reloaded.feed.enable.a s.links.a, s.startLink s.reloaded.feed.enable.b s.links.b⟩
    active := s.reloaded.feed.home
    pace := Pace.empty
    starting := false }

theorem endStartUp_eq {s : Switch} (starting : s.starting = true) (stopped : s.clock.running = false) :
    ∃ channels, s.endStartUp = s.startedUp channels ∧
      ∀ c, channels.get c =
        let y := activated (s.channels.get c) (s.reloaded.clock.channels.get c).deadline
        if s.groupDone c = false ∧ s.redefined.groupDone c = true ∧ y.state ≠ .cleared then { y with state := .cleared, nextLate := none } else y := by
  obtain ⟨channels, shape, own⟩ := takeDeadlines_eq (s := s.redefined) stopped
  refine ⟨channels.mapIdx fun c x =>
    if s.groupDone c = false ∧ s.redefined.groupDone c = true ∧ x.state ≠ .cleared then { x with state := .cleared, nextLate := none } else x,
    ?_, fun c => ?_⟩
  · refine (if_pos starting).trans ?_
    dsimp only
    rw [takeDefinitions_eq, shape, judgeGroups_eq, emptyBeforeEnd_eq, judgeTight_eq]
    rfl
  · rw [Bank.get_mapIdx, own]
    rfl

theorem startedUp_link (s : Switch) (channels : Bank 16 Channel) (l : LinkId) : (s.startedUp channels).links.get l =
    if s.reloaded.feed.enable.get l = false then { s.links.get l with state := .off }
    else if (s.links.get l).ready = true then { s.links.get l with state := .settling, settleStart := s.wall }
    else { s.links.get l with state := .down } := by
  have started : (s.startedUp channels).links.get l = s.startLink (s.reloaded.feed.enable.get l) (s.links.get l) := by cases l <;> rfl
  rw [started]
  unfold startLink Link.enabled
  cases s.reloaded.feed.enable.get l <;> rfl

theorem startedUp_inbox_of_low {s : Switch} {p : PortId} (low : s.store.freeCount - s.store.reserved < s.reloaded.store.low)
    (control : s.reloaded.ports.privilege.get p = .control) (attached : (s.ports.get p).standing ≠ .detached) (channels : Bank 16 Channel) :
    (s.startedUp channels).inboxes.get p = (s.boxesAtEnd.get p).place { kind := .storeTight, cls := .bulletin, stamp := s.wall } := by
  refine (congrArg (fun boxes : Bank 6 Inbox => boxes.get p) (if_pos low)).trans (post_inbox_of_sent ?_ attached)
  unfold isControl
  exact beq_iff_eq.2 control

theorem startedUp_inbox_of_other {s : Switch} {p : PortId} (other : ¬(s.store.freeCount - s.store.reserved < s.reloaded.store.low ∧
      s.reloaded.ports.privilege.get p = .control ∧ (s.ports.get p).standing ≠ .detached)) (channels : Bank 16 Channel) :
    (s.startedUp channels).inboxes.get p = s.boxesAtEnd.get p := by
  by_cases low : s.store.freeCount - s.store.reserved < s.reloaded.store.low
  · refine (congrArg (fun boxes : Bank 6 Inbox => boxes.get p) (if_pos low)).trans (post_inbox_of_unsent ?_)
    by_cases detached : (s.ports.get p).standing = .detached
    · exact .inr detached
    · refine .inl (beq_eq_false_iff_ne.2 fun control => other ⟨low, control, detached⟩)
  · exact congrArg (fun boxes : Bank 6 Inbox => boxes.get p) (if_neg low)

theorem boxesAtEnd_get (s : Switch) (p : PortId) :
    s.boxesAtEnd.get p = if s.cause = .powerOn then s.inboxes.get p else { notices := [], lost := 0 } := by
  unfold boxesAtEnd
  split
  · rfl
  · exact Bank.get_replicate ..

end Switch

open Switch in
/-- Settles O49: the event's parts in closed form one after another. -/
theorem startUpEnds : Obligations.StartUpEnds := by
  refine ⟨fun s starting stopped => ?_, fun s idle => State.run_eq s _ _ (if_neg (by rw [show s.sw.quietly.starting = false from idle]; nofun)) (by rfl)⟩
  obtain ⟨channels, shape, own⟩ := endStartUp_eq (s := s.sw.quietly) starting stopped
  refine ⟨s.sw.quietly.startedUp channels, State.run_eq s _ _ shape (by rfl), rfl, rfl, rfl, rfl, own, fun q => ?_, rfl, fun p => ?_, rfl, rfl,
    startedUp_link s.sw.quietly channels, rfl, rfl, rfl, rfl, rfl, rfl, rfl, rfl, rfl, rfl, rfl, rfl, rfl, rfl⟩
  · exact (Bank.get_mapIdx ..).trans
      (if_congr (Bool.and_eq_true_iff.trans (and_congr Option.isSome_iff_ne_none Option.isSome_iff_ne_none)) rfl rfl)
  · intro box n posted
    have found : s.sw.quietly.boxesAtEnd.get p = box := boxesAtEnd_get ..
    have places (is : posted) : (s.sw.quietly.startedUp channels).inboxes.get p = box.place n := by
      obtain ⟨low, control, attached⟩ := is
      rw [← found]
      exact startedUp_inbox_of_low (s := s.sw.quietly) low control attached channels
    refine ⟨fun other => (startedUp_inbox_of_other (s := s.sw.quietly) other channels).trans found, places, fun is restart => ?_⟩
    rw [places is, show box = { notices := [], lost := 0 } from if_neg restart]
    rfl

end Sys2Proof.Machine
end

section
/-! SUPPORT. Frames sent and read back, layout by layout (spec/09 R174, R175, spec/11 11.1, 11.3). -/

namespace Sys2Proof.Machine

/-! ### A frame crosses the wire (R174) -/

theorem ofRestored_covered {f : Frame} (short : f.payload.length ≤ 256) : Frame.ofRestored (f.covered ++ [crc8 f.covered]) = some f := by
  have counts : (byte (f.payload.length / 256)).toNat * 256 + (byte f.payload.length).toNat = f.payload.length := by
    rw [BitVec.toNat_ofNat, BitVec.toNat_ofNat]
    omega
  unfold Frame.covered be16 Frame.ofRestored
  dsimp only [List.cons_append, List.nil_append]
  rw [counts, List.take_left' rfl]
  refine if_pos ⟨short, by rw [List.length_append]; rfl, ?_⟩
  rw [List.getElem?_append_right (Nat.le_refl _), Nat.sub_self]
  rfl

theorem receive_wire {f : Frame} (short : f.payload.length ≤ 256) : Frame.receive f.wire = some f := by
  unfold Frame.receive Frame.wire
  dsimp only
  rw [if_pos rfl, unstuff_stuff]
  exact ofRestored_covered short

/-! ### Values read back (R175) -/

theorem unlessOnes_orOnes {b : Option Byte} (other : notOnes b = true) : unlessOnes (orOnes b) = b := by
  unfold notOnes at other
  cases b with
  | none => rfl
  | some b => exact if_neg fun ones => bne_iff_ne.1 other (congrArg some ones)

theorem unlessOnes16_getD {w : Option Word16} (other : (w != some 0xFFFF) = true) : unlessOnes16 (w.getD 0xFFFF) = w := by
  cases w with
  | none => rfl
  | some w => exact if_neg fun ones => bne_iff_ne.1 other (congrArg some ones)

theorem versionArg_getD {w : Option Word16} (other : (w != some 0) = true) : versionArg (w.getD 0) = w := by
  cases w with
  | none => rfl
  | some w => exact if_neg fun zero => bne_iff_ne.1 other (congrArg some zero)

theorem labelsArg_flatten (labels : List (List Byte)) (eight : ∀ l ∈ labels, l.length = 8) : labelsArg labels.flatten = labels := by
  induction labels with
  | nil => rfl
  | cons l labels ih =>
    have rest := ih fun l member => eight l (List.mem_cons_of_mem _ member)
    match l, eight l List.mem_cons_self with
    | [b0, b1, b2, b3, b4, b5, b6, b7], _ =>
      change [b0, b1, b2, b3, b4, b5, b6, b7] :: labelsArg labels.flatten = _
      rw [rest]

/-! ### Layouts read back (spec/11 11.3) -/

/-- A layout's reader takes what its writer wrote, and the command's code leaves room for it in a payload. -/
def ReadsBack (read : List Byte → Option α) (l : List Byte) (a : α) : Prop := read l = some a ∧ l.length ≤ 255

theorem fileArgs_back {a : FileArgs} (wf : a.wf = true) :
    ReadsBack fileArgs (counted a.slug ++ [a.owner, a.urgency] ++ wordBytes a.category ++ [a.screen] ++ counted a.route ++ wordBytes a.length) a := by
  obtain ⟨slug, route, room⟩ := of_decide_eq_true wf
  obtain ⟨c1, c0, category, category'⟩ := wordBytes_back a.category
  obtain ⟨n1, n0, length, length'⟩ := wordBytes_back a.length
  rw [category, length]
  constructor
  · simp only [List.append_assoc]
    unfold fileArgs
    rw [countedArg_counted _ _ slug]
    dsimp only [List.cons_append, List.nil_append]
    rw [countedArg_counted _ _ route]
    dsimp only
    rw [category', length']
  · simp only [counted, List.length_append, List.length_cons, List.length_nil]
    omega

theorem handleArgs_back (k : HandleArg) : ReadsBack handleArgs (handleBytes k) k := by
  obtain ⟨s1, s0, handle, back⟩ := handleBytes_back k
  rw [handle]
  exact ⟨congrArg some back, Nat.le_of_ble_eq_true rfl⟩

theorem reclassifyArgs_back {a : ReclassifyArgs} (named : notOnes a.urgency = true ∧ (a.category != some 0xFFFF) = true) :
    ReadsBack reclassifyArgs (handleBytes a.handle ++ [orOnes a.urgency] ++ wordBytes (a.category.getD 0xFFFF)) a := by
  obtain ⟨s1, s0, handle, back⟩ := handleBytes_back a.handle
  obtain ⟨c1, c0, word, back'⟩ := wordBytes_back (a.category.getD 0xFFFF)
  rw [handle, word]
  refine ⟨?_, Nat.le_of_ble_eq_true rfl⟩
  change some _ = some a
  rw [back, back', unlessOnes_orOnes named.1, unlessOnes16_getD named.2]

theorem routeArgs_back {a : RouteArgs} (short : a.route.length ≤ 251) : ReadsBack routeArgs (handleBytes a.handle ++ counted a.route) a := by
  obtain ⟨s1, s0, handle, back⟩ := handleBytes_back a.handle
  rw [handle]
  constructor
  · change (wholeList (counted a.route)).map _ = some a
    rw [wholeList_counted _ (Nat.le_trans short (by decide)), back]
    rfl
  · simp only [counted, List.length_append, List.length_cons, List.length_nil]
    omega

theorem readArgs_back {a : ReadArgs} (version : (a.version != some 0) = true) :
    ReadsBack readArgs (handleBytes a.handle ++ wordBytes (a.version.getD 0)) a := by
  obtain ⟨s1, s0, handle, back⟩ := handleBytes_back a.handle
  obtain ⟨v1, v0, word, back'⟩ := wordBytes_back (a.version.getD 0)
  rw [handle, word]
  refine ⟨?_, Nat.le_of_ble_eq_true rfl⟩
  change some _ = some a
  rw [back, back', versionArg_getD version]

theorem custodyArgs_back (a : ScreenArgs) : ReadsBack custodyArgs (a.screen :: handleBytes a.handle) a := by
  obtain ⟨s1, s0, handle, back⟩ := handleBytes_back a.handle
  rw [handle]
  refine ⟨?_, Nat.le_of_ble_eq_true rfl⟩
  change some _ = some a
  rw [back]

theorem watchArgs_back (a : ScreenArgs) : ReadsBack watchArgs (handleBytes a.handle ++ [a.screen]) a := by
  obtain ⟨s1, s0, handle, back⟩ := handleBytes_back a.handle
  rw [handle]
  refine ⟨?_, Nat.le_of_ble_eq_true rfl⟩
  change some _ = some a
  rw [back]

theorem checkinArgs_back (a : CheckinArgs) :
    ReadsBack checkinArgs (a.screen :: (handleBytes a.handle ++ wordBytes a.length ++ [a.keep])) a := by
  obtain ⟨s1, s0, handle, back⟩ := handleBytes_back a.handle
  obtain ⟨n1, n0, word, back'⟩ := wordBytes_back a.length
  rw [handle, word]
  refine ⟨?_, Nat.le_of_ble_eq_true rfl⟩
  change some _ = some a
  rw [back, back']

theorem offerArgs_back {a : OfferArgs} (target : notOnes a.target = true) :
    ReadsBack offerArgs (handleBytes a.handle ++ [orOnes a.target, a.note]) a := by
  obtain ⟨s1, s0, handle, back⟩ := handleBytes_back a.handle
  rw [handle]
  refine ⟨?_, Nat.le_of_ble_eq_true rfl⟩
  change some _ = some a
  rw [back, unlessOnes_orOnes target]

theorem deskArgs_back (a : DeskArgs) : ReadsBack deskArgs (handleBytes a.handle ++ [a.desk]) a := by
  obtain ⟨s1, s0, handle, back⟩ := handleBytes_back a.handle
  rw [handle]
  refine ⟨?_, Nat.le_of_ble_eq_true rfl⟩
  change some _ = some a
  rw [back]

theorem declineArgs_back (a : DeclineArgs) : ReadsBack declineArgs (handleBytes a.handle ++ [a.desk, a.note]) a := by
  obtain ⟨s1, s0, handle, back⟩ := handleBytes_back a.handle
  rw [handle]
  refine ⟨?_, Nat.le_of_ble_eq_true rfl⟩
  change some _ = some a
  rw [back]

theorem filterArgs_back (a : FilterArgs) :
    ReadsBack filterArgs ([a.number, a.enabled, a.mask, a.desk, a.urgency] ++ wordBytes a.category ++ [a.destinations]) a := by
  obtain ⟨c1, c0, word, back⟩ := wordBytes_back a.category
  rw [word]
  refine ⟨?_, Nat.le_of_ble_eq_true rfl⟩
  change some _ = some a
  rw [back]

theorem lengthArg_back (w : Word16) : ReadsBack lengthArg (wordBytes w) w := by
  obtain ⟨n1, n0, word, back⟩ := wordBytes_back w
  rw [word]
  exact ⟨congrArg some back, Nat.le_of_ble_eq_true rfl⟩

theorem deadlineArgs_back (a : DeadlineArgs) : ReadsBack deadlineArgs (a.channel :: wordBytes a.deadline) a := by
  obtain ⟨d1, d0, word, back⟩ := wordBytes_back a.deadline
  rw [word]
  refine ⟨?_, Nat.le_of_ble_eq_true rfl⟩
  change some _ = some a
  rw [back]

theorem channelArgs_back (a : ChannelArgs) : ReadsBack channelArgs
    ([a.channel, a.bufferMode] ++ wordBytes a.warnLead ++ [a.releaseMode] ++ wordBytes a.lateInterval ++ [a.lateDivisor]) a := by
  obtain ⟨w1, w0, lead, back⟩ := wordBytes_back a.warnLead
  obtain ⟨i1, i0, interval, back'⟩ := wordBytes_back a.lateInterval
  rw [lead, interval]
  refine ⟨?_, Nat.le_of_ble_eq_true rfl⟩
  change some _ = some a
  rw [back, back']

theorem pageArgs_back {a : PageArgs} (wf : a.action.wf = true) : ReadsBack pageArgs (a.page :: actionBytes a.action) a := by
  obtain ⟨page, action⟩ := a
  cases action with
  | define letter number owner binding =>
    refine ⟨(pageArgs_define ..).trans ?_, Nat.le_of_ble_eq_true rfl⟩
    rw [unlessOnes_orOnes wf]
  | undefine => exact ⟨pageArgs_undefine page, Nat.le_of_ble_eq_true rfl⟩
  | other code =>
    obtain ⟨define, undefine⟩ := Bool.and_eq_true_iff.1 wf
    exact ⟨pageArgs_other page code (bne_iff_ne.1 define) (bne_iff_ne.1 undefine), Nat.le_of_ble_eq_true rfl⟩

theorem placeArgs_back {a : PlaceArgs} (ok : decide (a.frame.length = 16) = true ∧ notOnes a.position = true) :
    ReadsBack placeArgs (a.page :: (handleBytes a.handle ++ [orOnes a.position] ++ a.frame)) a := by
  obtain ⟨fits, position⟩ := ok
  have sixteen := of_decide_eq_true fits
  obtain ⟨s1, s0, handle, back⟩ := handleBytes_back a.handle
  rw [handle]
  constructor
  · refine (if_pos sixteen).trans ?_
    rw [back, unlessOnes_orOnes position]
    rfl
  · simp only [List.length_append, List.length_cons, List.length_nil, sixteen]
    decide

theorem portsArgs_back {privileges : List Byte} {serving : List (Option Byte)} {labels : List (List Byte)}
    (wf : (SettingsArgs.ports privileges serving labels).wf = true) :
    ReadsBack settingsArgs (0 :: (privileges ++ serving.map orOnes ++ labels.flatten)) (.ports privileges serving labels) := by
  obtain ⟨rest, eight⟩ := Bool.and_eq_true_iff.1 wf
  obtain ⟨rest, sixteen⟩ := Bool.and_eq_true_iff.1 rest
  obtain ⟨rest, served⟩ := Bool.and_eq_true_iff.1 rest
  obtain ⟨six, count⟩ := Bool.and_eq_true_iff.1 rest
  replace six := of_decide_eq_true six
  replace count := of_decide_eq_true count
  replace sixteen := of_decide_eq_true sixteen
  have eights : ∀ l ∈ labels, l.length = 8 := fun l member => of_decide_eq_true (List.all_eq_true.1 eight l member)
  have bytes : labels.flatten.length = 128 := by
    have widths : labels.map List.length = List.replicate 16 8 :=
      List.eq_replicate_iff.2 ⟨by rw [List.length_map, sixteen], fun n member => by
        obtain ⟨l, listed, rfl⟩ := List.mem_map.1 member
        exact eights l listed⟩
    rw [List.length_flatten, widths]
    rfl
  have ones : (serving.map orOnes).map unlessOnes = serving := by
    rw [List.map_map]
    exact (List.map_congr_left fun b member => unlessOnes_orOnes (List.all_eq_true.1 served b member)).trans (List.map_id _)
  have width : (serving.map orOnes).length = 16 := by rw [List.length_map, count]
  constructor
  · refine (if_pos ?_).trans ?_
    · rw [List.length_append, List.length_append, six, width, bytes]
    · rw [List.append_assoc, List.take_left' six, List.drop_left' six, List.take_left' width, ones, ← List.append_assoc,
        List.drop_left' (by rw [List.length_append, six, width]), labelsArg_flatten labels eights]
  · rw [List.length_cons, List.length_append, List.length_append, six, width, bytes]
    decide

theorem settingsArgs_back {a : SettingsArgs} (wf : a.wf = true) : ReadsBack settingsArgs (settingsBytes a) a := by
  cases a with
  | ports privileges serving labels => exact portsArgs_back wf
  | feed stall settle attempts window mode => exact ⟨rfl, Nat.le_of_ble_eq_true rfl⟩
  | store low high lease offer =>
    obtain ⟨l1, l0, word0, back0⟩ := wordBytes_back low
    obtain ⟨h1, h0, word1, back1⟩ := wordBytes_back high
    obtain ⟨e1, e0, word2, back2⟩ := wordBytes_back lease
    obtain ⟨o1, o0, word3, back3⟩ := wordBytes_back offer
    change ReadsBack settingsArgs (4 :: (wordBytes low ++ wordBytes high ++ wordBytes lease ++ wordBytes offer)) _
    rw [word0, word1, word2, word3]
    refine ⟨?_, Nat.le_of_ble_eq_true rfl⟩
    change some _ = some _
    rw [back0, back1, back2, back3]
  | other group =>
    obtain ⟨known, store⟩ := Bool.and_eq_true_iff.1 wf
    obtain ⟨ports, feed⟩ := Bool.and_eq_true_iff.1 known
    have number {b : Byte} {n : Byte} (other : (b != n) = true) : b.toNat ≠ n.toNat := fun e => bne_iff_ne.1 other (BitVec.eq_of_toNat_eq e)
    refine ⟨?_, Nat.le_of_ble_eq_true rfl⟩
    change settingsArgs [group] = _
    unfold settingsArgs
    dsimp only
    split
    · rename_i e
      exact absurd e (number ports)
    · rename_i e
      exact absurd e (number feed)
    · rename_i e
      exact absurd e (number store)
    · rfl

end Sys2Proof.Machine
end

section
/-! SUPPORT. The frame of a well-formed row spells that row (spec/09 R174, R175). -/

namespace Sys2Proof.Machine

theorem wholeList_back {l : List Byte} (short : l.length ≤ 254) : ReadsBack wholeList (counted l) l :=
  ⟨wholeList_counted l (Nat.le_succ_of_le short), Nat.succ_le_succ short⟩

theorem noArgs_back : ReadsBack noArgs [] () := ⟨rfl, Nat.zero_le _⟩

theorem byteArg_back (b : Byte) : ReadsBack byteArg [b] b := ⟨rfl, Nat.le_of_ble_eq_true rfl⟩

theorem maskArgs_back (a : MaskArgs) : ReadsBack maskArgs [a.number, a.compareDesk, a.compareUrgency, a.categoryBits] a :=
  ⟨rfl, Nat.le_of_ble_eq_true rfl⟩

theorem turnArgs_back {a : TurnArgs} (edition : notOnes a.edition = true) : ReadsBack turnArgs [orOnes a.edition] a :=
  ⟨congrArg (fun e => some (TurnArgs.mk e)) (unlessOnes_orOnes edition), Nat.le_of_ble_eq_true rfl⟩

theorem unplaceArgs_back (a : UnplaceArgs) : ReadsBack unplaceArgs [a.page, a.position] a := ⟨rfl, Nat.le_of_ble_eq_true rfl⟩

theorem releaseArgs_back (a : ReleaseArgs) : ReadsBack releaseArgs [a.page, a.rush] a := ⟨rfl, Nat.le_of_ble_eq_true rfl⟩

theorem pageStatusArgs_back {a : PageStatusArgs} (page : notOnes a.page = true) : ReadsBack pageStatusArgs [orOnes a.page] a :=
  ⟨congrArg (fun q => some (PageStatusArgs.mk q)) (unlessOnes_orOnes page), Nat.le_of_ble_eq_true rfl⟩

theorem linksArgs_back (a : LinksArgs) : ReadsBack linksArgs [a.enableA, a.enableB, a.home] a := ⟨rfl, Nat.le_of_ble_eq_true rfl⟩

theorem portStatusArgs_back {a : PortStatusArgs} (port : notOnes a.port = true) : ReadsBack portStatusArgs [orOnes a.port] a :=
  ⟨congrArg (fun p => some (PortStatusArgs.mk p)) (unlessOnes_orOnes port), Nat.le_of_ble_eq_true rfl⟩

/-! ### Rows -/

/-- A frame fits its payload and spells a row. -/
def Frame.Spells (f : Frame) (p : PortId) (i : Instr) : Prop := f.payload.length ≤ 256 ∧ f.event p = i

/-- A command's row is spelt by its frame where its code names the row and its layout reads back. -/
theorem spells {row : Head → Option α → Instr} {read : List Byte → Option α} {write : α → List Byte} {c : Cmd} {h : Head} {a : Option α}
    {p : PortId} {f : Frame}
    (names : ∀ l, Frame.event h.port { kind := 0x01, tag := h.tag, payload := Cmd.code c :: l } = row h (read l))
    (sends : ∀ x, frameOf (row h (some x)) = some (commandFrame h c (write x))) (silent : frameOf (row h none) = none)
    (back : ∀ x, (row h (some x)).wf = true → ReadsBack read (write x) x) (ok : (row h a).wf = true) (sent : frameOf (row h a) = some (p, f)) :
    f.Spells p (row h a) := by
  cases a with
  | none => cases silent.symm.trans sent
  | some x =>
    obtain ⟨reads, short⟩ := back x ok
    obtain ⟨rfl, rfl⟩ := Prod.mk.inj (Option.some.inj ((sends x).symm.trans sent))
    exact ⟨Nat.succ_le_succ short, (names _).trans (congrArg (row h) reads)⟩

theorem commandOf_unknown {c : Byte} (unknown : c.toNat = 0 ∨ 50 ≤ c.toNat) (h : Head) (l : List Byte) :
    commandOf h c l = .unknownCommand h (some c) := by
  unfold commandOf
  split
  case h_50 => rfl
  all_goals omega

theorem unknownCommand_spells {h : Head} {code : Option Byte} {p : PortId} {f : Frame} (ok : (Instr.unknownCommand h code).wf = true)
    (sent : frameOf (.unknownCommand h code) = some (p, f)) : f.Spells p (.unknownCommand h code) := by
  obtain ⟨rfl, rfl⟩ := Prod.mk.inj (Option.some.inj sent)
  cases code with
  | none => exact ⟨Nat.zero_le _, rfl⟩
  | some c => exact ⟨Nat.le_of_ble_eq_true rfl, commandOf_unknown (of_decide_eq_true ok) h []⟩

theorem dataFrame_spells {p q : PortId} {tag : Byte} {text : List Byte} {f : Frame} (ok : (Instr.dataFrame p tag text).wf = true)
    (sent : frameOf (.dataFrame p tag text) = some (q, f)) : f.Spells q (.dataFrame p tag text) := by
  obtain ⟨rfl, rfl⟩ := Prod.mk.inj (Option.some.inj sent)
  exact ⟨of_decide_eq_true ok, rfl⟩

/-- The frame of a well-formed row spells it, row by row of the catalogue (R175). -/
theorem frameOf_spells {i : Instr} {p : PortId} {f : Frame} (ok : i.wf = true) (sent : frameOf i = some (p, f)) : f.Spells p i := by
  refine ?row
  cases i
  case file h a => exact spells (row := .file) (read := fileArgs) (fun _ => rfl) (fun _ => rfl) rfl (fun _ ok => fileArgs_back ok) ok sent
  case find h a => exact spells (row := .find) (read := wholeList) (fun _ => rfl) (fun _ => rfl) rfl (fun _ ok => wholeList_back (of_decide_eq_true ok)) ok sent
  case describe h a => exact spells (row := .describe) (read := handleArgs) (fun _ => rfl) (fun _ => rfl) rfl (fun x _ => handleArgs_back x) ok sent
  case reclassify h a => exact spells (row := .reclassify) (read := reclassifyArgs) (fun _ => rfl) (fun _ => rfl) rfl (fun _ ok => reclassifyArgs_back (Bool.and_eq_true_iff.1 ok)) ok sent
  case route h a => exact spells (row := .route) (read := routeArgs) (fun _ => rfl) (fun _ => rfl) rfl (fun _ ok => routeArgs_back (of_decide_eq_true ok)) ok sent
  case spike h a => exact spells (row := .spike) (read := handleArgs) (fun _ => rfl) (fun _ => rfl) rfl (fun x _ => handleArgs_back x) ok sent
  case restore h a => exact spells (row := .restore) (read := handleArgs) (fun _ => rfl) (fun _ => rfl) rfl (fun x _ => handleArgs_back x) ok sent
  case purge h a => exact spells (row := .purge) (read := handleArgs) (fun _ => rfl) (fun _ => rfl) rfl (fun x _ => handleArgs_back x) ok sent
  case read h a => exact spells (row := .read) (read := readArgs) (fun _ => rfl) (fun _ => rfl) rfl (fun _ ok => readArgs_back ok) ok sent
  case storeStatus h a => exact spells (row := .storeStatus) (read := noArgs) (fun _ => rfl) (fun _ => rfl) rfl (fun _ _ => noArgs_back) ok sent
  case checkout h a => exact spells (row := .checkout) (read := custodyArgs) (fun _ => rfl) (fun _ => rfl) rfl (fun x _ => custodyArgs_back x) ok sent
  case renew h a => exact spells (row := .renew) (read := custodyArgs) (fun _ => rfl) (fun _ => rfl) rfl (fun x _ => custodyArgs_back x) ok sent
  case abandon h a => exact spells (row := .abandon) (read := custodyArgs) (fun _ => rfl) (fun _ => rfl) rfl (fun x _ => custodyArgs_back x) ok sent
  case checkin h a => exact spells (row := .checkin) (read := checkinArgs) (fun _ => rfl) (fun _ => rfl) rfl (fun x _ => checkinArgs_back x) ok sent
  case breakLock h a => exact spells (row := .breakLock) (read := handleArgs) (fun _ => rfl) (fun _ => rfl) rfl (fun x _ => handleArgs_back x) ok sent
  case offer h a => exact spells (row := .offer) (read := offerArgs) (fun _ => rfl) (fun _ => rfl) rfl (fun _ ok => offerArgs_back ok) ok sent
  case accept h a => exact spells (row := .accept) (read := deskArgs) (fun _ => rfl) (fun _ => rfl) rfl (fun x _ => deskArgs_back x) ok sent
  case decline h a => exact spells (row := .decline) (read := declineArgs) (fun _ => rfl) (fun _ => rfl) rfl (fun x _ => declineArgs_back x) ok sent
  case withdraw h a => exact spells (row := .withdraw) (read := deskArgs) (fun _ => rfl) (fun _ => rfl) rfl (fun x _ => deskArgs_back x) ok sent
  case collect h a => exact spells (row := .collect) (read := byteArg) (fun _ => rfl) (fun _ => rfl) rfl (fun x _ => byteArg_back x) ok sent
  case filter h a => exact spells (row := .filter) (read := filterArgs) (fun _ => rfl) (fun _ => rfl) rfl (fun x _ => filterArgs_back x) ok sent
  case mask h a => exact spells (row := .mask) (read := maskArgs) (fun _ => rfl) (fun _ => rfl) rfl (fun x _ => maskArgs_back x) ok sent
  case watch h a => exact spells (row := .watch) (read := watchArgs) (fun _ => rfl) (fun _ => rfl) rfl (fun x _ => watchArgs_back x) ok sent
  case unwatch h a => exact spells (row := .unwatch) (read := watchArgs) (fun _ => rfl) (fun _ => rfl) rfl (fun x _ => watchArgs_back x) ok sent
  case clockStart h a => exact spells (row := .clockStart) (read := noArgs) (fun _ => rfl) (fun _ => rfl) rfl (fun _ _ => noArgs_back) ok sent
  case clockStop h a => exact spells (row := .clockStop) (read := noArgs) (fun _ => rfl) (fun _ => rfl) rfl (fun _ _ => noArgs_back) ok sent
  case turn h a => exact spells (row := .turn) (read := turnArgs) (fun _ => rfl) (fun _ => rfl) rfl (fun _ ok => turnArgs_back ok) ok sent
  case editionLength h a => exact spells (row := .editionLength) (read := lengthArg) (fun _ => rfl) (fun _ => rfl) rfl (fun x _ => lengthArg_back x) ok sent
  case deadline h a => exact spells (row := .deadline) (read := deadlineArgs) (fun _ => rfl) (fun _ => rfl) rfl (fun x _ => deadlineArgs_back x) ok sent
  case channel h a => exact spells (row := .channel) (read := channelArgs) (fun _ => rfl) (fun _ => rfl) rfl (fun x _ => channelArgs_back x) ok sent
  case clockStatus h a => exact spells (row := .clockStatus) (read := noArgs) (fun _ => rfl) (fun _ => rfl) rfl (fun _ _ => noArgs_back) ok sent
  case page h a => exact spells (row := .page) (read := pageArgs) (fun _ => rfl) (fun _ => rfl) rfl (fun _ ok => pageArgs_back ok) ok sent
  case place h a => exact spells (row := .place) (read := placeArgs) (fun _ => rfl) (fun _ => rfl) rfl (fun _ ok => placeArgs_back (Bool.and_eq_true_iff.1 ok)) ok sent
  case unplace h a => exact spells (row := .unplace) (read := unplaceArgs) (fun _ => rfl) (fun _ => rfl) rfl (fun x _ => unplaceArgs_back x) ok sent
  case release h a => exact spells (row := .release) (read := releaseArgs) (fun _ => rfl) (fun _ => rfl) rfl (fun x _ => releaseArgs_back x) ok sent
  case row.recall h a => exact spells (row := .recall) (read := byteArg) (fun _ => rfl) (fun _ => rfl) rfl (fun x _ => byteArg_back x) ok sent
  case pageStatus h a => exact spells (row := .pageStatus) (read := pageStatusArgs) (fun _ => rfl) (fun _ => rfl) rfl (fun _ ok => pageStatusArgs_back ok) ok sent
  case links h a => exact spells (row := .links) (read := linksArgs) (fun _ => rfl) (fun _ => rfl) rfl (fun x _ => linksArgs_back x) ok sent
  case feedStatus h a => exact spells (row := .feedStatus) (read := noArgs) (fun _ => rfl) (fun _ => rfl) rfl (fun _ _ => noArgs_back) ok sent
  case attach h a => exact spells (row := .attach) (read := noArgs) (fun _ => rfl) (fun _ => rfl) rfl (fun _ _ => noArgs_back) ok sent
  case reattach h a => exact spells (row := .reattach) (read := byteArg) (fun _ => rfl) (fun _ => rfl) rfl (fun x _ => byteArg_back x) ok sent
  case portStatus h a => exact spells (row := .portStatus) (read := portStatusArgs) (fun _ => rfl) (fun _ => rfl) rfl (fun _ ok => portStatusArgs_back ok) ok sent
  case settings h a => exact spells (row := .settings) (read := settingsArgs) (fun _ => rfl) (fun _ => rfl) rfl (fun _ ok => settingsArgs_back ok) ok sent
  case save h a => exact spells (row := .save) (read := noArgs) (fun _ => rfl) (fun _ => rfl) rfl (fun _ _ => noArgs_back) ok sent
  case dump h a => exact spells (row := .dump) (read := noArgs) (fun _ => rfl) (fun _ => rfl) rfl (fun _ _ => noArgs_back) ok sent
  case hold h a => exact spells (row := .hold) (read := byteArg) (fun _ => rfl) (fun _ => rfl) rfl (fun x _ => byteArg_back x) ok sent
  case unhold h a => exact spells (row := .unhold) (read := byteArg) (fun _ => rfl) (fun _ => rfl) rfl (fun x _ => byteArg_back x) ok sent
  case restart h a => exact spells (row := .restart) (read := noArgs) (fun _ => rfl) (fun _ => rfl) rfl (fun _ _ => noArgs_back) ok sent
  case identify h a => exact spells (row := .identify) (read := noArgs) (fun _ => rfl) (fun _ => rfl) rfl (fun _ _ => noArgs_back) ok sent
  case unknownCommand h code => exact unknownCommand_spells ok sent
  case dataFrame p tag text => exact dataFrame_spells ok sent
  all_goals cases sent

/-- Settles O51: the stuffing and the check undone, each layout read back, and the two tables by computation. -/
theorem framesRoundTrip : Obligations.FramesRoundTrip := by
  refine ⟨fun f short => ⟨receive_wire short, stuff_no_start _⟩, fun i p f ok sent => ?_, resultCodes_byte, fun c => by cases c <;> exact ⟨Nat.le_of_ble_eq_true rfl, rfl⟩⟩
  obtain ⟨short, spelt⟩ := frameOf_spells ok sent
  refine ⟨short, spelt, ?_⟩
  unfold wireEvent
  rw [receive_wire short]
  exact spelt

end Sys2Proof.Machine
end

section
/-! SUPPORT. The frames of a report and the bytes of the reports (spec/01 R11, spec/06 R116, spec/07 R134, spec/08 R152, spec/09 R155, R170, R175). -/

namespace Sys2Proof.Machine

/-! ### Frames of 256 bytes (R155) -/

/-- A division into frames: nothing lost, every frame full but the last, and none empty. -/
def Framed (l : List Byte) (frames : List (List Byte)) : Prop :=
  frames.flatten = l ∧ (∀ f ∈ frames.dropLast, f.length = 256) ∧ ∀ f ∈ frames, 0 < f.length ∧ f.length ≤ 256

theorem chunksAux_framed (fuel : Nat) : ∀ l : List Byte, l.length ≤ fuel → Framed l (chunksAux 256 fuel l) := by
  induction fuel with
  | zero =>
    intro l short
    rw [List.length_eq_zero_iff.1 (Nat.le_zero.1 short)]
    exact ⟨rfl, nofun, nofun⟩
  | succ fuel ih =>
    intro l short
    cases l with
    | nil => exact ⟨rfl, nofun, nofun⟩
    | cons b l =>
      obtain ⟨whole, full, sized⟩ := ih ((b :: l).drop 256) (by
        rw [List.length_drop]
        omega)
      have frames : chunksAux 256 (fuel + 1) (b :: l) = (b :: l).take 256 :: chunksAux 256 fuel ((b :: l).drop 256) := rfl
      rw [frames]
      refine ⟨?_, fun f member => ?_, fun f member => ?_⟩
      · rw [List.flatten_cons, whole, List.take_append_drop]
      · cases rest : chunksAux 256 fuel ((b :: l).drop 256) with
        | nil =>
          rw [rest] at member
          cases member
        | cons g more =>
          rw [rest, List.dropLast_cons_cons] at member
          rcases List.mem_cons.1 member with rfl | later
          · have left : ((b :: l).drop 256).length ≠ 0 := by
              rw [← whole, rest, List.flatten_cons, List.length_append]
              have := (sized g (by rw [rest]; exact List.mem_cons_self)).1
              omega
            rw [List.length_drop] at left
            rw [List.length_take]
            omega
          · exact full f (by rw [rest]; exact later)
      · rcases List.mem_cons.1 member with rfl | later
        · rw [List.length_take, List.length_cons]
          omega
        · exact sized f later

theorem chunks_framed (l : List Byte) : Framed l (chunks l) := chunksAux_framed l.length l (Nat.le_refl _)

/-! ### Lists of records (R175) -/

theorem records_eq (l : List α) (f : α → List Byte) : records l f = [byte l.length] ++ (l.map f).flatten := by
  unfold records
  rw [List.flatMap_def]
  rfl

theorem listed_true (b : Bank n α) (f : α → List Byte) : listed true b.cells f = [byte n] ++ (b.cells.map f).flatten := by
  refine (records_eq b.cells f).trans ?_
  rw [b.size]

theorem listed_true_singleton (b : Bank n α) (f : α → Byte) : listed true b.cells (fun x => [f x]) = [byte n] ++ b.cells.map f := by
  rw [listed_true, ← List.flatMap_def, List.map_eq_flatMap]

theorem Groups.bytes_eq {served : Option PortId → Byte} (serves : ∀ x, orAllOnes x (fun p => byte p.val) = served x)
    {paged : Option PageDef → List Byte} (pages : ∀ x, pageDefBytes x = paged x) (g : Groups) : g.bytes =
      [6] ++ g.ports.privilege.cells.map Privilege.number ++ [16] ++ g.ports.serving.cells.map served ++ [16] ++ g.ports.label.cells.flatten ++
        [24] ++
        (g.routing.filters.cells.map fun f =>
          [yesNo f.enabled, byte f.mask.val, byte f.desk.val, f.urgency.number] ++ be16 f.category ++ [byte f.destinations.toNat]).flatten ++
        [4] ++ (g.routing.masks.cells.map fun m => [yesNo m.compareDesk, yesNo m.compareUrgency, byte m.categoryBits]).flatten ++
        be16 g.clock.editionLength ++ [16] ++
        (g.clock.channels.cells.map fun c =>
          be16 c.deadline ++ [c.bufferMode.number] ++ be16 c.warnLead ++ [c.releaseMode.number] ++ be16 c.lateInterval ++
            [byte c.lateDivisor]).flatten ++
        [128] ++ (g.clock.pages.cells.map paged).flatten ++
        [yesNo g.feed.enable.a, yesNo g.feed.enable.b, LinkId.number g.feed.home, byte g.feed.stallWindow, byte g.feed.settlePeriod,
          byte g.feed.attemptLimit, byte g.feed.paceWindow, g.feed.paceMode.number] ++
        be16 g.store.low ++ be16 g.store.high ++ be16 g.store.lease ++ be16 g.store.offerWindow := by
  unfold Groups.bytes Groups.encode PortsGroup.bytes RoutingGroup.bytes ClockGroup.bytes StoreGroup.bytes
  rw [listed_true_singleton, listed_true_singleton, listed_true, listed_true, listed_true, listed_true, listed_true, List.map_id,
    FeedGroup.bytes_eq, funext serves, funext Privilege.byte_eq, funext Filter.bytes_eq, funext ChannelSettings.bytes_eq, funext pages]
  simp only [List.append_assoc]
  rfl

namespace Switch

/-! ### Stories (R11) -/

theorem stateByte_of_story {x : Slot} {st : Story} (held : x.story = some st) : x.stateByte = st.status.number := by
  unfold Slot.stateByte
  rw [held]
  dsimp only
  cases st.status <;> rfl

theorem storyReport_eq {s : Switch} {k : Handle} {st : Story} (found : s.story k = some st) : s.storyReport k st =
    be16 k.slot.val ++ [k.gen, st.status.number, byte st.slug.length] ++ st.slug ++ [byte st.owner.val, st.urgency.number] ++
      be16 st.category ++ [byte st.route.length] ++ (st.route.map fun d => byte d.val) ++ [yesNo (st.status == .spiked true)] ++
      be16 (s.watches.countP fun w => w.handle == k) ++ [byte st.versions.length] ++
      (st.versions.map fun v =>
        be16 v.number ++ be16 v.length ++ be16 v.pins ++ be32 v.stamp.toNat ++
          [byte v.author.port.val, byte v.author.number.val, yesNo v.retiring]).flatten ++
      optional st.lock Lock.report ++ optional st.offer Offer.report := by
  have version (v : Version) : v.report = be16 v.number ++ be16 v.length ++ be16 v.pins ++ be32 v.stamp.toNat ++
      [byte v.author.port.val, byte v.author.number.val, yesNo v.retiring] := by
    unfold Version.report Screen.bytes
    rw [List.append_assoc]
    rfl
  unfold storyReport Handle.bytes counted watcherCount
  rw [slot_def, stateByte_of_story (story_eq_some.1 found).2, records_eq, Urgency.byte_eq, funext version, List.length_map, List.countP_eq_length_filter]
  simp only [List.append_assoc]
  rfl

/-! ### The clock and the feed (R116, R152) -/

theorem channelReport_eq {s : Switch} {c : ChannelId} {next : List Byte} (is : be16 ((s.channels.get c).nextLate.getD 65535) = next) :
    s.channelReport c =
      be16 (s.channels.get c).active ++ be16 (s.groups.clock.channels.get c).deadline ++ [(s.channels.get c).state.number] ++
        be16 (s.channels.get c).lateCount ++ next ++ [yesNo (s.channels.get c).atRisk] := by
  unfold channelReport
  dsimp only
  rw [channel_def, is, ChannelState.byte_eq]
  rfl

theorem clockReport_eq {s : Switch} {report : ChannelId → List Byte} (channels : ∀ c, s.channelReport c = report c) : s.clockReport =
    be32 s.wall.toNat ++ [yesNo s.clock.running] ++ be16 s.clock.ticks ++ [byte s.clock.edition] ++ be16 s.clock.activeLength ++
      be16 s.groups.clock.editionLength ++ [16] ++ ((allBelow 16).map report).flatten := by
  unfold clockReport
  rw [records_eq, funext channels]
  simp only [List.append_assoc]
  rfl

theorem feedReport_eq {s : Switch} {sending : List Byte} (is : optional s.sending s.sendingReport = sending) : s.feedReport =
    [2, yesNo s.groups.feed.enable.a, s.links.a.state.number, s.links.a.engine.number, yesNo s.groups.feed.enable.b,
        s.links.b.state.number, s.links.b.engine.number, LinkId.number s.groups.feed.home, LinkId.number s.active,
        byte s.queue.length] ++
      sending ++ be32 s.pace.pace ++ [s.groups.feed.paceMode.number, byte s.pace.samples.length] := by
  unfold feedReport
  rw [is, LinkId.byte_eq, LinkId.byte_eq, PaceMode.byte_eq]
  simp only [LinkState.byte_eq, Engine.byte_eq]
  rfl

/-! ### Pages (R134) -/

theorem entryReport_eq (e : Entry) : entryReport e =
    be16 e.handle.slot.val ++ [e.handle.gen] ++ be16 (e.version.getD 0) ++ be16 e.length ++
      [(if e.openAtRelease = true then 1 else 0) + (if e.version = none then 2 else 0)] := by
  have flags : entryFlags e = (if e.openAtRelease = true then 1 else 0) + (if e.version = none then 2 else 0) := by
    unfold entryFlags
    simp only [Option.isNone_iff_eq_none]
    split <;> split <;> rfl
  unfold entryReport
  rw [flags]
  rfl

/-- A page's job in its report, for the bytes of its key and its binding. -/
def jobLayout (s : Switch) (q : PageId) (j : Job) (key : List Byte) (binding : Byte) : List Byte :=
  [1, byte j.edition] ++ be32 j.length ++ [yesNo j.rush] ++ key ++ be32 j.order ++ [byte j.attempts] ++ be32 j.stamp.toNat ++
    [yesNo j.returned, j.label.letter, byte j.label.number, byte j.owner.val, binding,
      if (s.pages.get q).state = .sending then Config.sendingPlace s.free else byte (s.queue.idxOf q + 1), byte j.entries.length] ++
    (j.entries.map fun e =>
      be16 e.handle.slot.val ++ [e.handle.gen] ++ be16 (e.version.getD 0) ++ be16 e.length ++
        [(if e.openAtRelease = true then 1 else 0) + (if e.version = none then 2 else 0)]).flatten

theorem jobLayout_eq (s : Switch) (q : PageId) (j : Job) :
    1 :: (jobReport j ++ [s.placeReport q] ++ records j.entries entryReport) =
      s.jobLayout q j (keyReport j.key) (orAllOnes j.binding fun c => byte c.val) := by
  unfold jobLayout jobReport
  rw [records_eq, funext entryReport_eq]
  simp only [List.append_assoc]
  rfl

theorem pageReport_of_undefined {s : Switch} {q : PageId} (undefined : s.groups.clock.pages.get q = none) : s.pageReport q = [0] := by
  unfold pageReport
  rw [pageDef_def, undefined]
  rfl

theorem pageReport_eq {s : Switch} {q : PageId} {d : PageDef} (defined : s.groups.clock.pages.get q = some d) {binding : Byte}
    (bound : orAllOnes d.binding (fun c => byte c.val) = binding) {job : List Byte}
    (is : optional (s.pages.get q).job (fun j => jobReport j ++ [s.placeReport q] ++ records j.entries entryReport) = job) : s.pageReport q =
      [1, d.label.letter, byte d.label.number, byte d.owner.val, binding, (s.pages.get q).state.number, byte (s.pages.get q).lastSent,
          byte (s.pages.get q).layout.length] ++
        ((s.pages.get q).layout.map fun pl => be16 pl.handle.slot.val ++ [pl.handle.gen] ++ pl.frame).flatten ++ job := by
  unfold pageReport
  rw [pageDef_def, defined, page_def]
  change 1 :: (d.label.bytes ++ [byte d.owner.val, orAllOnes d.binding fun c => byte c.val] ++
    [PageState.byte (s.pages.get q).state, byte (s.pages.get q).lastSent] ++
    records (s.pages.get q).layout (fun pl => pl.handle.bytes ++ pl.frame) ++ optional (s.pages.get q).job _) = _
  rw [is, bound, records_eq, PageState.byte_eq]
  simp only [List.append_assoc]
  rfl

theorem queuedReport_eq {s : Switch} {q : PageId} {j : Job} (held : (s.pages.get q).job = some j) : s.queuedReport q =
    [byte q.val, (s.pages.get q).state.number, yesNo j.rush] ++ keyReport j.key ++ [yesNo j.returned, byte j.edition, byte j.attempts] ++
      be32 j.length := by
  unfold queuedReport
  rw [page_def, held, PageState.byte_eq]
  simp only [List.append_assoc]
  rfl

theorem placeHolders_eq (s : Switch) : s.placeHolders = s.sending.toList ++ s.queue := by
  unfold placeHolders
  cases s.sending <;> rfl

end Switch

end Sys2Proof.Machine
end

section
/-! SUPPORT. The commands that open a report (spec/01 R11, spec/06 R116, spec/07 R134, spec/08 R152, spec/09 R155, R170). -/

namespace Sys2Proof.Machine

theorem State.reports {s : State} {h : Head} {c : Cmd} {a : Option α} {x : α} {body : α → Switch → Switch} (taken : s.sw.takes h c)
    (checked : a = some x) {w : Switch} {data : List Byte} (does : body x s.sw.quietly = w.quietly.report h c data) :
    s.command h c a body = .next { s with sw := w.streaming h c [] (.report (chunks data)) } := State.streams taken checked does

namespace Switch

theorem quietly_pageStatus (s : Switch) (h : Head) (q : PageId) : pageStatusCommand h (some q) s.quietly =
    ({ s with free := if (s.pages.get q).state = .sending then s.free + 1 else s.free } : Switch).quietly.report h .pageStatus (s.pageReport q) := by
  unfold pageStatusCommand
  dsimp only
  rw [show (s.quietly.page q).state = (s.pages.get q).state from rfl]
  by_cases sending : (s.pages.get q).state = .sending
  · rw [if_pos sending, if_pos sending]
    rfl
  · rw [if_neg sending, if_neg sending]
    rfl

end Switch

open Switch in
/-- Settles O8: each command's stream by its report, and the reports' bytes part by part. -/
theorem reportsOpenAStream : Obligations.ReportsOpenAStream := by
  refine ⟨fun s h a k st taken handle found => ?_, fun s h taken => State.reports taken rfl rfl, fun s h taken => State.reports taken rfl rfl,
    fun s h taken => State.reports taken rfl rfl, fun s h taken => State.reports taken rfl rfl, fun s h b q taken number => ?_, chunks_framed,
    fun s k st found => ?_, fun s => ?_, fun s => ?_, fun s q => ?_, fun s => ?_, fun g => ?_, fun h => rfl⟩
  · exact State.reports taken handle (onStory_some (s := s.sw.quietly) found h _)
  · exact State.reports taken (congrArg (Option.map some) (below_eq number)) (quietly_pageStatus ..)
  · refine (storyReport_eq found).trans ?_
    obtain ⟨status, _, _, _, _, _, _⟩ := st
    cases status <;> rfl
  · refine clockReport_eq fun c => channelReport_eq ?_
    cases (s.channels.get c).nextLate <;> rfl
  · refine feedReport_eq ?_
    cases s.sending <;> rfl
  · intro x key binding
    have bound (b : Option ChannelId) : orAllOnes b (fun c => byte c.val) = binding b := by cases b <;> rfl
    have keyed (j : Job) : keyReport j.key = key j := by
      unfold keyReport
      dsimp only [key]
      cases j.key <;> rfl
    refine ⟨pageReport_of_undefined, fun d defined => pageReport_eq defined (bound d.binding) ?_⟩
    cases (s.pages.get q).job with
    | none => rfl
    | some j =>
      refine (jobLayout_eq s q j).trans ?_
      rw [bound, keyed]
      rfl
  · intro holders jobs
    refine (records_eq ..).trans ?_
    rw [placeHolders_eq]
    refine congrArg (fun l : List (List Byte) => [byte holders.length] ++ l.flatten) (List.map_congr_left fun q member => ?_)
    obtain ⟨j, held⟩ := Option.ne_none_iff_exists'.1 (jobs q member)
    rw [queuedReport_eq held, held]
    unfold keyReport
    dsimp only
    cases j.key <;> rfl
  · refine Groups.bytes_eq (fun x => ?_) (fun x => ?_) g
    · cases x <;> rfl
    · rcases x with _ | ⟨label, owner, binding⟩
      · rfl
      · cases binding <;> rfl

end Sys2Proof.Machine
end

section
/-! SUPPORT. Which parameters the checks of whole commands pass, one equivalence for each check (spec/09 R175). -/

namespace Sys2Proof.Machine

/-! ### Numbers bounded on one side, and parameters that may be left out -/

theorem within_zero_isSome (hi : Nat) (b : BitVec w) : (within 0 hi b).isSome = true ↔ b.toNat ≤ hi := by
  rw [within_isSome]
  exact and_iff_right (Nat.zero_le _)

theorem within_top_isSome {hi : Nat} (top : 2 ^ w ≤ hi + 1) (lo : Nat) (b : BitVec w) :
    (within lo hi b).isSome = true ↔ lo ≤ b.toNat := by
  rw [within_isSome]
  exact and_iff_left (Nat.le_of_lt_succ (Nat.lt_of_lt_of_le b.isLt top))

theorem checkOpt_below_isSome (n : Nat) (o : Option (BitVec w)) :
    (checkOpt (below n) o).isSome = true ↔ ∀ b, o = some b → b.toNat < n := by
  simp only [checkOpt_isSome, below_isSome]

theorem checkOpt_urgencyOf_isSome (o : Option Byte) : (checkOpt urgencyOf o).isSome = true ↔ ∀ b, o = some b → b.toNat < 4 := by
  simp only [checkOpt_isSome, urgencyOf_isSome]

theorem checkOpt_within_zero_isSome (hi : Nat) (o : Option (BitVec w)) :
    (checkOpt (within 0 hi) o).isSome = true ↔ ∀ b, o = some b → b.toNat ≤ hi := by
  simp only [checkOpt_isSome, within_zero_isSome]

theorem checkOpt_within_top_isSome {hi : Nat} (top : 2 ^ w ≤ hi + 1) (lo : Nat) (o : Option (BitVec w)) :
    (checkOpt (within lo hi) o).isSome = true ↔ ∀ b, o = some b → lo ≤ b.toNat := by
  simp only [checkOpt_isSome, within_top_isSome top]

theorem checkOpt_eq_none {f : α → Option β} {o : Option α} (passed : checkOpt f o = some none) : o = none := by
  cases o with
  | none => rfl
  | some a => simp [checkOpt] at passed

/-! ### Parameters checked one beside the other -/

theorem ScreenArgs.check_isSome (a : ScreenArgs) : (ScreenArgs.check a).isSome = true ↔ a.screen.toNat < 64 ∧ slotInRange a.handle := by
  rw [← below_isSome 64, ← handleOf_isSome]
  unfold ScreenArgs.check
  split
  · simp [*]
  · next none => exact ⟨nofun, fun ⟨h1, h2⟩ => (none _ _ (Option.eq_some_of_isSome h1) (Option.eq_some_of_isSome h2)).elim⟩

theorem RouteArgs.check_isSome (a : RouteArgs) : (RouteArgs.check a).isSome = true ↔ slotInRange a.handle ∧ routeInRange a.route := by
  rw [← handleOf_isSome, ← routeOf_isSome]
  unfold RouteArgs.check
  split
  · simp [*]
  · next none => exact ⟨nofun, fun ⟨h1, h2⟩ => (none _ _ (Option.eq_some_of_isSome h1) (Option.eq_some_of_isSome h2)).elim⟩

theorem ReadArgs.check_isSome (a : ReadArgs) : (ReadArgs.check a).isSome = true ↔
    slotInRange a.handle ∧ ∀ v, a.version = some v → 1 ≤ v.toNat := by
  rw [← handleOf_isSome, ← checkOpt_within_top_isSome (hi := Config.versionNumberMax) (Nat.le_refl _)]
  unfold ReadArgs.check
  split
  · simp [*]
  · next none => exact ⟨nofun, fun ⟨h1, h2⟩ => (none _ _ (Option.eq_some_of_isSome h1) (Option.eq_some_of_isSome h2)).elim⟩

theorem OfferArgs.check_isSome (a : OfferArgs) : (OfferArgs.check a).isSome = true ↔
    slotInRange a.handle ∧ ∀ d, a.target = some d → d.toNat < 16 := by
  rw [← handleOf_isSome, ← checkOpt_below_isSome]
  unfold OfferArgs.check
  split
  · simp [*]
  · next none => exact ⟨nofun, fun ⟨h1, h2⟩ => (none _ _ (Option.eq_some_of_isSome h1) (Option.eq_some_of_isSome h2)).elim⟩

theorem DeskArgs.check_isSome (a : DeskArgs) : (DeskArgs.check a).isSome = true ↔ slotInRange a.handle ∧ a.desk.toNat < 16 := by
  rw [← handleOf_isSome, ← below_isSome 16]
  unfold DeskArgs.check
  split
  · simp [*]
  · next none => exact ⟨nofun, fun ⟨h1, h2⟩ => (none _ _ (Option.eq_some_of_isSome h1) (Option.eq_some_of_isSome h2)).elim⟩

theorem DeclineArgs.check_isSome (a : DeclineArgs) : (DeclineArgs.check a).isSome = true ↔
    slotInRange a.handle ∧ a.desk.toNat < 16 := by
  rw [← handleOf_isSome, ← below_isSome 16]
  unfold DeclineArgs.check
  split
  · simp [*]
  · next none => exact ⟨nofun, fun ⟨h1, h2⟩ => (none _ _ (Option.eq_some_of_isSome h1) (Option.eq_some_of_isSome h2)).elim⟩

theorem DeadlineArgs.check_isSome (a : DeadlineArgs) : (DeadlineArgs.check a).isSome = true ↔
    a.channel.toNat < 16 ∧ 1 ≤ a.deadline.toNat := by
  rw [← below_isSome 16, ← within_top_isSome (hi := 65535) (Nat.le_refl _)]
  unfold DeadlineArgs.check
  split
  · simp [*]
  · next none => exact ⟨nofun, fun ⟨h1, h2⟩ => (none _ _ (Option.eq_some_of_isSome h1) (Option.eq_some_of_isSome h2)).elim⟩

theorem ReleaseArgs.check_isSome (a : ReleaseArgs) : (ReleaseArgs.check a).isSome = true ↔ a.page.toNat < 128 ∧ a.rush.toNat ≤ 1 := by
  rw [← below_isSome 128, ← flag_isSome]
  unfold ReleaseArgs.check
  split
  · simp [*]
  · next none => exact ⟨nofun, fun ⟨h1, h2⟩ => (none _ _ (Option.eq_some_of_isSome h1) (Option.eq_some_of_isSome h2)).elim⟩

theorem CheckinArgs.check_isSome (a : CheckinArgs) : (CheckinArgs.check a).isSome = true ↔
    a.screen.toNat < 64 ∧ slotInRange a.handle ∧ a.keep.toNat ≤ 1 := by
  rw [← below_isSome 64, ← handleOf_isSome, ← flag_isSome]
  unfold CheckinArgs.check
  split
  · simp [*]
  · next none =>
    exact ⟨nofun, fun ⟨h1, h2, h3⟩ =>
      (none _ _ _ (Option.eq_some_of_isSome h1) (Option.eq_some_of_isSome h2) (Option.eq_some_of_isSome h3)).elim⟩

theorem LinksArgs.check_isSome (a : LinksArgs) : (LinksArgs.check a).isSome = true ↔
    a.enableA.toNat ≤ 1 ∧ a.enableB.toNat ≤ 1 ∧ a.home.toNat ≤ 1 := by
  rw [← flag_isSome, ← flag_isSome, ← linkOf_isSome]
  unfold LinksArgs.check
  split
  · simp [*]
  · next none =>
    exact ⟨nofun, fun ⟨h1, h2, h3⟩ =>
      (none _ _ _ (Option.eq_some_of_isSome h1) (Option.eq_some_of_isSome h2) (Option.eq_some_of_isSome h3)).elim⟩

theorem MaskArgs.check_isSome (a : MaskArgs) : (MaskArgs.check a).isSome = true ↔
    a.number.toNat < 4 ∧ a.compareDesk.toNat ≤ 1 ∧ a.compareUrgency.toNat ≤ 1 ∧ a.categoryBits.toNat ≤ 10 := by
  rw [← below_isSome 4, ← flag_isSome, ← flag_isSome, ← within_zero_isSome 10]
  unfold MaskArgs.check
  split
  · simp [*]
  · next none =>
    exact ⟨nofun, fun ⟨h1, h2, h3, h4⟩ =>
      (none _ _ _ _ (Option.eq_some_of_isSome h1) (Option.eq_some_of_isSome h2) (Option.eq_some_of_isSome h3)
        (Option.eq_some_of_isSome h4)).elim⟩

theorem ChannelArgs.check_isSome (a : ChannelArgs) : (ChannelArgs.check a).isSome = true ↔
    a.channel.toNat < 16 ∧ a.bufferMode.toNat ≤ 1 ∧ a.releaseMode.toNat ≤ 2 ∧ 1 ≤ a.lateDivisor.toNat ∧ a.lateDivisor.toNat ≤ 8 := by
  rw [← below_isSome 16, ← bufferModeOf_isSome, ← releaseModeOf_isSome, ← within_isSome 1 8]
  unfold ChannelArgs.check
  split
  · simp [*]
  · next none =>
    exact ⟨nofun, fun ⟨h1, h2, h3, h4⟩ =>
      (none _ _ _ _ (Option.eq_some_of_isSome h1) (Option.eq_some_of_isSome h2) (Option.eq_some_of_isSome h3)
        (Option.eq_some_of_isSome h4)).elim⟩

theorem FileArgs.check_isSome (a : FileArgs) : (FileArgs.check a).isSome = true ↔
    slugInRange a.slug ∧ a.owner.toNat < 16 ∧ a.urgency.toNat < 4 ∧ a.category.toNat ≤ 1023 ∧ a.screen.toNat < 64 ∧
      routeInRange a.route := by
  rw [← slugOf_isSome, ← below_isSome 16, ← urgencyOf_isSome, ← within_zero_isSome 1023, ← below_isSome 64, ← routeOf_isSome]
  unfold FileArgs.check
  split
  · simp [*]
  · next none =>
    exact ⟨nofun, fun ⟨h1, h2, h3, h4, h5, h6⟩ =>
      (none _ _ _ _ _ _ (Option.eq_some_of_isSome h1) (Option.eq_some_of_isSome h2) (Option.eq_some_of_isSome h3)
        (Option.eq_some_of_isSome h4) (Option.eq_some_of_isSome h5) (Option.eq_some_of_isSome h6)).elim⟩

theorem FilterArgs.check_isSome (a : FilterArgs) : (FilterArgs.check a).isSome = true ↔
    a.number.toNat < 24 ∧ a.enabled.toNat ≤ 1 ∧ a.mask.toNat < 4 ∧ a.desk.toNat < 16 ∧ a.urgency.toNat < 4 ∧
      a.category.toNat ≤ 1023 ∧ a.destinations.toNat < 64 := by
  rw [← below_isSome 24, ← flag_isSome, ← below_isSome 4, ← below_isSome 16, ← urgencyOf_isSome, ← within_zero_isSome 1023,
    ← portSetOf_isSome]
  unfold FilterArgs.check
  split
  · simp [*]
  · next none =>
    exact ⟨nofun, fun ⟨h1, h2, h3, h4, h5, h6, h7⟩ =>
      (none _ _ _ _ _ _ _ (Option.eq_some_of_isSome h1) (Option.eq_some_of_isSome h2) (Option.eq_some_of_isSome h3)
        (Option.eq_some_of_isSome h4) (Option.eq_some_of_isSome h5) (Option.eq_some_of_isSome h6) (Option.eq_some_of_isSome h7)).elim⟩

/-! ### Parameters with a condition on several of them -/

theorem ReclassifyArgs.check_isSome (a : ReclassifyArgs) : (ReclassifyArgs.check a).isSome = true ↔
    slotInRange a.handle ∧ (∀ u, a.urgency = some u → u.toNat < 4) ∧ (∀ c, a.category = some c → c.toNat ≤ 1023) ∧
      ¬(a.urgency = none ∧ a.category = none) := by
  rw [← handleOf_isSome, ← checkOpt_urgencyOf_isSome, ← checkOpt_within_zero_isSome]
  unfold ReclassifyArgs.check
  split
  · next handle urgency category e1 e2 e3 =>
    simp only [e1, e2, e3, Option.isSome_some, true_and]
    have kept : (urgency.isNone && category.isNone) = true ↔ a.urgency = none ∧ a.category = none := by
      rw [Bool.and_eq_true, Option.isNone_iff_eq_none, Option.isNone_iff_eq_none]
      refine ⟨fun ⟨u, c⟩ => ⟨checkOpt_eq_none (u ▸ e2), checkOpt_eq_none (c ▸ e3)⟩, fun ⟨u, c⟩ => ?_⟩
      rw [u] at e2
      rw [c] at e3
      exact ⟨(Option.some.inj e2).symm, (Option.some.inj e3).symm⟩
    rw [← kept]
    split <;> simp [*]
  · next none =>
    exact ⟨nofun, fun ⟨h1, h2, h3, _⟩ =>
      (none _ _ _ (Option.eq_some_of_isSome h1) (Option.eq_some_of_isSome h2) (Option.eq_some_of_isSome h3)).elim⟩

theorem PlaceArgs.check_isSome (a : PlaceArgs) : (PlaceArgs.check a).isSome = true ↔
    a.page.toNat < 128 ∧ slotInRange a.handle ∧ a.frame.length = 16 := by
  rw [← below_isSome 128, ← handleOf_isSome]
  unfold PlaceArgs.check
  split
  · next page handle e1 e2 =>
    simp only [e1, e2, Option.isSome_some, true_and]
    split <;> simp [*]
  · next none => exact ⟨nofun, fun ⟨h1, h2, _⟩ => (none _ _ (Option.eq_some_of_isSome h1) (Option.eq_some_of_isSome h2)).elim⟩

theorem UnplaceArgs.check_isSome (a : UnplaceArgs) : (UnplaceArgs.check a).isSome = true ↔ a.page.toNat < 128 := by
  unfold UnplaceArgs.check
  rw [Option.isSome_map, below_isSome]

theorem PageArgs.check_undefine_isSome (q : Byte) : (PageArgs.check ⟨q, .undefine⟩).isSome = true ↔ q.toNat < 128 := by
  rw [← below_isSome 128]
  unfold PageArgs.check
  cases below 128 q <;> rfl

theorem PageArgs.check_define_isSome (q letter number owner : Byte) (binding : Option Byte) :
    (PageArgs.check ⟨q, .define letter number owner binding⟩).isSome = true ↔
      q.toNat < 128 ∧ 0x41 ≤ letter.toNat ∧ letter.toNat ≤ 0x5A ∧ 1 ≤ number.toNat ∧ number.toNat ≤ 99 ∧ owner.toNat < 16 ∧
        ∀ c, binding = some c → c.toNat < 16 := by
  rw [← below_isSome 128, ← below_isSome 16, ← checkOpt_below_isSome 16, ← and_assoc (a := 0x41 ≤ letter.toNat),
    ← and_assoc (a := 1 ≤ number.toNat), ← and_assoc (b := 1 ≤ number.toNat ∧ number.toNat ≤ 99), ← labelOf_isSome]
  unfold PageArgs.check
  cases below 128 q with
  | none => simp
  | some page =>
    dsimp only
    split
    · simp [*]
    · next none =>
      exact ⟨nofun, fun ⟨_, h1, h2, h3⟩ =>
        (none _ _ _ (Option.eq_some_of_isSome h1) (Option.eq_some_of_isSome h2) (Option.eq_some_of_isSome h3)).elim⟩

/-! ### SETTINGS (R167, R168) -/

theorem bankOf_isSome (n : Nat) (l : List α) : (bankOf n l).isSome = true ↔ l.length = n := by
  unfold bankOf
  split <;> simp [*]

/-- A list checked member by member, of a given length. -/
theorem checkAll_bankOf_isSome (f : α → Option β) (n : Nat) (l : List α) :
    ((checkAll f l).bind (bankOf n)).isSome = true ↔ l.length = n ∧ ∀ a ∈ l, (f a).isSome = true := by
  rw [← checkAll_isSome]
  cases passed : checkAll f l with
  | none => simp
  | some r => simp [bankOf_isSome, checkAll_length passed]

theorem SettingsArgs.check_isSome (a : SettingsArgs) : (SettingsArgs.check a).isSome = true ↔ settingsArgsInRange a := by
  cases a with
  | ports privileges serving labels =>
    have range : settingsArgsInRange (.ports privileges serving labels) ↔
        ((checkAll privilegeOf privileges).bind (bankOf 6)).isSome = true ∧
          ((checkAll (checkOpt (below 6)) serving).bind (bankOf 16)).isSome = true ∧
          ((checkAll deskLabelOf labels).bind (bankOf 16)).isSome = true := by
      simp only [checkAll_bankOf_isSome, privilegeOf_isSome, checkOpt_below_isSome, deskLabelOf_isSome]
      exact ⟨fun ⟨h1, h2, h3, h4, h5, h6⟩ => ⟨⟨h1, h2⟩, ⟨h3, fun o mem b is => h4 b (is ▸ mem)⟩, h5, h6⟩,
        fun ⟨⟨h1, h2⟩, ⟨h3, h4⟩, h5, h6⟩ => ⟨h1, h2, h3, fun b mem => h4 _ mem b rfl, h5, h6⟩⟩
    rw [range]
    unfold SettingsArgs.check
    dsimp only
    split
    · simp [*]
    · next none =>
      exact ⟨nofun, fun ⟨h1, h2, h3⟩ =>
        (none _ _ _ (Option.eq_some_of_isSome h1) (Option.eq_some_of_isSome h2) (Option.eq_some_of_isSome h3)).elim⟩
  | feed stall settle attempts window mode =>
    unfold settingsArgsInRange
    dsimp only
    rw [← within_top_isSome (hi := 255) (Nat.le_refl _), ← within_top_isSome (hi := 255) (Nat.le_refl _) 8 settle,
      ← and_assoc (a := 1 ≤ attempts.toNat), ← within_isSome, ← within_top_isSome (hi := 255) (Nat.le_refl _) 16, ← paceModeOf_isSome]
    unfold SettingsArgs.check
    dsimp only
    split
    · simp [*]
    · next none =>
      exact ⟨nofun, fun ⟨h1, h2, h3, h4, h5⟩ =>
        (none _ _ _ _ _ (Option.eq_some_of_isSome h1) (Option.eq_some_of_isSome h2) (Option.eq_some_of_isSome h3)
          (Option.eq_some_of_isSome h4) (Option.eq_some_of_isSome h5)).elim⟩
  | store low high lease offer =>
    have range : settingsArgsInRange (.store low high lease offer) ↔
        (within 64 4096 low).isSome = true ∧ (within 64 4096 high).isSome = true ∧ (within 480 28800 lease).isSome = true ∧
          (within 80 4800 offer).isSome = true ∧ low.toNat < high.toNat := by
      simp only [within_isSome, settingsArgsInRange]
      omega
    rw [range]
    unfold SettingsArgs.check
    dsimp only
    split
    · next e1 e2 e3 e4 =>
      simp only [e1, e2, e3, e4, Option.isSome_some, true_and, within_eq e1, within_eq e2]
      split <;> simp [*]
    · next none =>
      exact ⟨nofun, fun ⟨h1, h2, h3, h4, _⟩ =>
        (none _ _ _ _ (Option.eq_some_of_isSome h1) (Option.eq_some_of_isSome h2) (Option.eq_some_of_isSome h3)
          (Option.eq_some_of_isSome h4)).elim⟩
  | other _ => exact ⟨nofun, nofun⟩

/-! ### The handle of checked parameters -/

theorem ReclassifyArgs.check_handle {a : ReclassifyArgs} {x : ReclassifyParams} (checked : ReclassifyArgs.check a = some x) :
    handleOf a.handle = some x.handle := by
  unfold ReclassifyArgs.check at checked
  split at checked
  · next is _ _ =>
    split at checked
    · cases checked
    · cases checked
      exact is
  · cases checked

theorem RouteArgs.check_handle {a : RouteArgs} {x : Handle × List DeskId} (checked : RouteArgs.check a = some x) :
    handleOf a.handle = some x.1 := by
  unfold RouteArgs.check at checked
  split at checked <;> cases checked
  assumption

theorem ReadArgs.check_handle {a : ReadArgs} {x : Handle × Option Nat} (checked : ReadArgs.check a = some x) :
    handleOf a.handle = some x.1 := by
  unfold ReadArgs.check at checked
  split at checked <;> cases checked
  assumption

theorem ScreenArgs.check_handle {a : ScreenArgs} {x : ScreenNo × Handle} (checked : ScreenArgs.check a = some x) :
    handleOf a.handle = some x.2 := by
  unfold ScreenArgs.check at checked
  split at checked <;> cases checked
  assumption

theorem CheckinArgs.check_handle {a : CheckinArgs} {x : CheckinParams} (checked : CheckinArgs.check a = some x) :
    handleOf a.handle = some x.handle := by
  unfold CheckinArgs.check at checked
  split at checked <;> cases checked
  assumption

theorem OfferArgs.check_handle {a : OfferArgs} {x : OfferParams} (checked : OfferArgs.check a = some x) :
    handleOf a.handle = some x.handle := by
  unfold OfferArgs.check at checked
  split at checked <;> cases checked
  assumption

theorem DeskArgs.check_handle {a : DeskArgs} {x : Handle × DeskId} (checked : DeskArgs.check a = some x) :
    handleOf a.handle = some x.1 := by
  unfold DeskArgs.check at checked
  split at checked <;> cases checked
  assumption

theorem DeclineArgs.check_handle {a : DeclineArgs} {x : Handle × DeskId × Byte} (checked : DeclineArgs.check a = some x) :
    handleOf a.handle = some x.1 := by
  unfold DeclineArgs.check at checked
  split at checked <;> cases checked
  assumption

end Sys2Proof.Machine
end

section
/-! SUPPORT. What every block refuses before its own checks: parameters out of range, and a handle that names no story (spec/01 R2, spec/09 R156, R175). -/

namespace Sys2Proof.Machine

/-- The result of a command that is refused: its code, and nothing else (R156). -/
def State.Answers (s : State) (h : Head) (code : Code) (i : Instr) : Prop := exec i s = .next { s with sw := s.sw.replied h code [] }

section
variable {s : State} {h : Head} {c : Cmd} {row : Option α → Instr} {a : Option α}

/-- A row whose checked parameters are exactly those in range answers the others BAD_PARAM (R175). -/
theorem State.badParam_of_range {check : α → Option β} {body : β → Switch → Switch} (runs : exec (row a) s = s.command h c (a.bind check) body)
    (range : ∀ x, (check x).isSome = true ↔ paramsInRange (row (some x))) (taken : s.sw.takes h c) (out : ¬paramsInRange (row a)) :
    s.Answers h .badParam (row a) := by
  refine runs.trans (s.command_unchecked h c a check body taken fun x is => ?_)
  subst is
  exact Option.not_isSome_iff_eq_none.1 fun passed => out ((range x).1 passed)

/-- A row without parameters answers a payload that has some BAD_PARAM (R175). -/
theorem State.badParam_of_payload {row : Option Unit → Instr} {a : Option Unit} {body : Unit → Switch → Switch}
    (runs : exec (row a) s = s.command h c a body) (range : paramsInRange (row a) ↔ a ≠ none) (taken : s.sw.takes h c)
    (out : ¬paramsInRange (row a)) : s.Answers h .badParam (row a) := by
  obtain rfl : a = none := not_ne_iff.1 fun some => out (range.2 some)
  exact runs.trans (s.command_none h c body taken)

/-- A row whose first check is its story answers a handle that names none NO_STORY (R2). -/
theorem State.noStory_of_handle {check : α → Option β} {body : β → Switch → Switch} {handle : α → HandleArg} {key : β → Handle}
    {x : α} {k : Handle} (runs : exec (row (some x)) s = s.command h c (check x) body)
    (range : (check x).isSome = true ↔ paramsInRange (row (some x))) (named : ∀ y, check x = some y → handleOf (handle x) = some (key y))
    (asks : ∀ y, ∃ f, body y s.sw.quietly = s.sw.quietly.onStory h (key y) f) (taken : s.sw.takes h c)
    (inRange : paramsInRange (row (some x))) (is : handleOf (handle x) = some k) (missing : s.sw.story k = none) :
    s.Answers h .noStory (row (some x)) := by
  obtain ⟨y, checked⟩ := Option.isSome_iff_exists.1 (range.2 inRange)
  obtain rfl : key y = k := Option.some.inj ((named y checked).symm.trans is)
  obtain ⟨f, work⟩ := asks y
  exact runs.trans (State.refuses taken checked (work.trans (onStory_none (s := s.sw.quietly) missing h f)))

end

/-! ### Row by row of the catalogue -/

theorem TurnArgs.check_isSome (a : TurnArgs) : (TurnArgs.check a).isSome = true ↔ ∀ e, a.edition = some e → 1 ≤ e.toNat :=
  checkOpt_within_top_isSome (Nat.le_refl _) 1 a.edition

theorem PageStatusArgs.check_isSome (a : PageStatusArgs) : (PageStatusArgs.check a).isSome = true ↔ ∀ q, a.page = some q → q.toNat < 128 :=
  checkOpt_below_isSome 128 a.page

theorem PortStatusArgs.check_isSome (a : PortStatusArgs) : (PortStatusArgs.check a).isSome = true ↔ ∀ p, a.port = some p → p.toNat < 6 :=
  checkOpt_below_isSome 6 a.port

theorem PageArgs.check_isSome (h : Head) (a : PageArgs) : (PageArgs.check a).isSome = true ↔ paramsInRange (.page h (some a)) := by
  obtain ⟨q, action⟩ := a
  cases action with
  | define letter number owner binding => exact PageArgs.check_define_isSome q letter number owner binding
  | undefine => exact PageArgs.check_undefine_isSome q
  | other code =>
    have none : PageArgs.check ⟨q, .other code⟩ = none := by
      unfold PageArgs.check
      cases below 128 q <;> rfl
    exact ⟨fun passed => (by rw [none] at passed; cases passed), nofun⟩

/-- A command whose parameters are missing or out of range is answered BAD_PARAM by the block that owns it (R156, R175). -/
theorem State.answers_badParam {s : State} {i : Instr} {h : Head} {c : Cmd} (named : commandRow i = some (h, c)) (taken : s.sw.takes h c)
    (out : ¬paramsInRange i) : s.Answers h .badParam i := by
  refine ?row
  cases i
  case file h' a =>
    cases named
    exact State.badParam_of_range (row := .file h) rfl FileArgs.check_isSome taken out
  case find h' a =>
    cases named
    exact State.badParam_of_range (row := .find h) rfl slugOf_isSome taken out
  case describe h' a =>
    cases named
    exact State.badParam_of_range (row := .describe h) rfl handleOf_isSome taken out
  case reclassify h' a =>
    cases named
    exact State.badParam_of_range (row := .reclassify h) rfl ReclassifyArgs.check_isSome taken out
  case route h' a =>
    cases named
    exact State.badParam_of_range (row := .route h) rfl RouteArgs.check_isSome taken out
  case spike h' a =>
    cases named
    exact State.badParam_of_range (row := .spike h) rfl handleOf_isSome taken out
  case restore h' a =>
    cases named
    exact State.badParam_of_range (row := .restore h) rfl handleOf_isSome taken out
  case purge h' a =>
    cases named
    exact State.badParam_of_range (row := .purge h) rfl handleOf_isSome taken out
  case read h' a =>
    cases named
    exact State.badParam_of_range (row := .read h) rfl ReadArgs.check_isSome taken out
  case storeStatus h' a =>
    cases named
    exact State.badParam_of_payload (row := .storeStatus h) rfl Iff.rfl taken out
  case checkout h' a =>
    cases named
    exact State.badParam_of_range (row := .checkout h) rfl ScreenArgs.check_isSome taken out
  case renew h' a =>
    cases named
    exact State.badParam_of_range (row := .renew h) rfl ScreenArgs.check_isSome taken out
  case abandon h' a =>
    cases named
    exact State.badParam_of_range (row := .abandon h) rfl ScreenArgs.check_isSome taken out
  case checkin h' a =>
    cases named
    exact State.badParam_of_range (row := .checkin h) rfl CheckinArgs.check_isSome taken out
  case breakLock h' a =>
    cases named
    exact State.badParam_of_range (row := .breakLock h) rfl handleOf_isSome taken out
  case offer h' a =>
    cases named
    exact State.badParam_of_range (row := .offer h) rfl OfferArgs.check_isSome taken out
  case accept h' a =>
    cases named
    exact State.badParam_of_range (row := .accept h) rfl DeskArgs.check_isSome taken out
  case decline h' a =>
    cases named
    exact State.badParam_of_range (row := .decline h) rfl DeclineArgs.check_isSome taken out
  case withdraw h' a =>
    cases named
    exact State.badParam_of_range (row := .withdraw h) rfl DeskArgs.check_isSome taken out
  case collect h' a =>
    cases named
    exact State.badParam_of_range (row := .collect h) rfl (within_isSome 1 8) taken out
  case filter h' a =>
    cases named
    exact State.badParam_of_range (row := .filter h) rfl FilterArgs.check_isSome taken out
  case mask h' a =>
    cases named
    exact State.badParam_of_range (row := .mask h) rfl MaskArgs.check_isSome taken out
  case watch h' a =>
    cases named
    exact State.badParam_of_range (row := .watch h) rfl ScreenArgs.check_isSome taken out
  case unwatch h' a =>
    cases named
    exact State.badParam_of_range (row := .unwatch h) rfl ScreenArgs.check_isSome taken out
  case clockStart h' a =>
    cases named
    exact State.badParam_of_payload (row := .clockStart h) rfl Iff.rfl taken out
  case clockStop h' a =>
    cases named
    exact State.badParam_of_payload (row := .clockStop h) rfl Iff.rfl taken out
  case turn h' a =>
    cases named
    exact State.badParam_of_range (row := .turn h) rfl TurnArgs.check_isSome taken out
  case editionLength h' a =>
    cases named
    exact State.badParam_of_range (row := .editionLength h) rfl (within_top_isSome (hi := 65535) (Nat.le_refl _) 1200) taken out
  case deadline h' a =>
    cases named
    exact State.badParam_of_range (row := .deadline h) rfl DeadlineArgs.check_isSome taken out
  case channel h' a =>
    cases named
    exact State.badParam_of_range (row := .channel h) rfl ChannelArgs.check_isSome taken out
  case clockStatus h' a =>
    cases named
    exact State.badParam_of_payload (row := .clockStatus h) rfl Iff.rfl taken out
  case page h' a =>
    cases named
    exact State.badParam_of_range (row := .page h) rfl (PageArgs.check_isSome h) taken out
  case place h' a =>
    cases named
    exact State.badParam_of_range (row := .place h) rfl PlaceArgs.check_isSome taken out
  case unplace h' a =>
    cases named
    exact State.badParam_of_range (row := .unplace h) rfl UnplaceArgs.check_isSome taken out
  case release h' a =>
    cases named
    exact State.badParam_of_range (row := .release h) rfl ReleaseArgs.check_isSome taken out
  case row.recall h' a =>
    cases named
    exact State.badParam_of_range (row := .recall h) rfl (below_isSome 128) taken out
  case pageStatus h' a =>
    cases named
    exact State.badParam_of_range (row := .pageStatus h) rfl PageStatusArgs.check_isSome taken out
  case links h' a =>
    cases named
    exact State.badParam_of_range (row := .links h) rfl LinksArgs.check_isSome taken out
  case feedStatus h' a =>
    cases named
    exact State.badParam_of_payload (row := .feedStatus h) rfl Iff.rfl taken out
  case attach h' a =>
    cases named
    exact State.badParam_of_payload (row := .attach h) rfl Iff.rfl taken out
  case reattach h' a =>
    cases named
    exact State.badParam_of_range (row := .reattach h) rfl (below_isSome 6) taken out
  case portStatus h' a =>
    cases named
    exact State.badParam_of_range (row := .portStatus h) rfl PortStatusArgs.check_isSome taken out
  case settings h' a =>
    cases named
    exact State.badParam_of_range (row := .settings h) rfl SettingsArgs.check_isSome taken out
  case save h' a =>
    cases named
    exact State.badParam_of_payload (row := .save h) rfl Iff.rfl taken out
  case dump h' a =>
    cases named
    exact State.badParam_of_payload (row := .dump h) rfl Iff.rfl taken out
  case hold h' a =>
    cases named
    exact State.badParam_of_range (row := .hold h) rfl holdSetOf_isSome taken out
  case unhold h' a =>
    cases named
    exact State.badParam_of_range (row := .unhold h) rfl holdSetOf_isSome taken out
  case restart h' a =>
    cases named
    exact State.badParam_of_payload (row := .restart h) rfl Iff.rfl taken out
  case identify h' a =>
    cases named
    exact State.badParam_of_payload (row := .identify h) rfl Iff.rfl taken out
  all_goals cases named

/-- A command whose first check is its story is answered NO_STORY when its handle names none (R2). -/
theorem State.answers_noStory {s : State} {i : Instr} {h : Head} {c : Cmd} {a : HandleArg} {k : Handle} (named : commandRow i = some (h, c))
    (taken : s.sw.takes h c) (inRange : paramsInRange i) (story : namedStory i = some a) (is : handleOf a = some k) (missing : s.sw.story k = none) :
    s.Answers h .noStory i := by
  cases i with
  | describe h' a' =>
    cases named
    cases story
    exact State.noStory_of_handle (row := .describe h) (handle := id) (key := id) rfl (handleOf_isSome _) (fun _ => id) (fun _ => ⟨_, rfl⟩) taken
      inRange is missing
  | spike h' a' =>
    cases named
    cases story
    exact State.noStory_of_handle (row := .spike h) (handle := id) (key := id) rfl (handleOf_isSome _) (fun _ => id) (fun _ => ⟨_, rfl⟩) taken
      inRange is missing
  | restore h' a' =>
    cases named
    cases story
    exact State.noStory_of_handle (row := .restore h) (handle := id) (key := id) rfl (handleOf_isSome _) (fun _ => id) (fun _ => ⟨_, rfl⟩) taken
      inRange is missing
  | purge h' a' =>
    cases named
    cases story
    exact State.noStory_of_handle (row := .purge h) (handle := id) (key := id) rfl (handleOf_isSome _) (fun _ => id) (fun _ => ⟨_, rfl⟩) taken
      inRange is missing
  | breakLock h' a' =>
    cases named
    cases story
    exact State.noStory_of_handle (row := .breakLock h) (handle := id) (key := id) rfl (handleOf_isSome _) (fun _ => id) (fun _ => ⟨_, rfl⟩) taken
      inRange is missing
  | reclassify h' a' =>
    cases named
    obtain ⟨a', rfl, rfl⟩ := Option.map_eq_some_iff.1 story
    exact State.noStory_of_handle (row := .reclassify h) (handle := ReclassifyArgs.handle) (key := ReclassifyParams.handle) rfl (ReclassifyArgs.check_isSome _)
      (fun _ => ReclassifyArgs.check_handle) (fun _ => ⟨_, rfl⟩) taken inRange is missing
  | route h' a' =>
    cases named
    obtain ⟨a', rfl, rfl⟩ := Option.map_eq_some_iff.1 story
    exact State.noStory_of_handle (row := .route h) (handle := RouteArgs.handle) (key := Prod.fst) rfl (RouteArgs.check_isSome _)
      (fun _ => RouteArgs.check_handle) (fun _ => ⟨_, rfl⟩) taken inRange is missing
  | read h' a' =>
    cases named
    obtain ⟨a', rfl, rfl⟩ := Option.map_eq_some_iff.1 story
    exact State.noStory_of_handle (row := .read h) (handle := ReadArgs.handle) (key := Prod.fst) rfl (ReadArgs.check_isSome _)
      (fun _ => ReadArgs.check_handle) (fun _ => ⟨_, rfl⟩) taken inRange is missing
  | checkout h' a' =>
    cases named
    obtain ⟨a', rfl, rfl⟩ := Option.map_eq_some_iff.1 story
    exact State.noStory_of_handle (row := .checkout h) (handle := ScreenArgs.handle) (key := Prod.snd) rfl (ScreenArgs.check_isSome _)
      (fun _ => ScreenArgs.check_handle) (fun _ => ⟨_, rfl⟩) taken inRange is missing
  | renew h' a' =>
    cases named
    obtain ⟨a', rfl, rfl⟩ := Option.map_eq_some_iff.1 story
    exact State.noStory_of_handle (row := .renew h) (handle := ScreenArgs.handle) (key := Prod.snd) rfl (ScreenArgs.check_isSome _)
      (fun _ => ScreenArgs.check_handle) (fun _ => ⟨_, rfl⟩) taken inRange is missing
  | abandon h' a' =>
    cases named
    obtain ⟨a', rfl, rfl⟩ := Option.map_eq_some_iff.1 story
    exact State.noStory_of_handle (row := .abandon h) (handle := ScreenArgs.handle) (key := Prod.snd) rfl (ScreenArgs.check_isSome _)
      (fun _ => ScreenArgs.check_handle) (fun _ => ⟨_, rfl⟩) taken inRange is missing
  | checkin h' a' =>
    cases named
    obtain ⟨a', rfl, rfl⟩ := Option.map_eq_some_iff.1 story
    exact State.noStory_of_handle (row := .checkin h) (handle := CheckinArgs.handle) (key := CheckinParams.handle) rfl (CheckinArgs.check_isSome _)
      (fun _ => CheckinArgs.check_handle) (fun _ => ⟨_, rfl⟩) taken inRange is missing
  | offer h' a' =>
    cases named
    obtain ⟨a', rfl, rfl⟩ := Option.map_eq_some_iff.1 story
    exact State.noStory_of_handle (row := .offer h) (handle := OfferArgs.handle) (key := OfferParams.handle) rfl (OfferArgs.check_isSome _)
      (fun _ => OfferArgs.check_handle) (fun _ => ⟨_, rfl⟩) taken inRange is missing
  | accept h' a' =>
    cases named
    obtain ⟨a', rfl, rfl⟩ := Option.map_eq_some_iff.1 story
    exact State.noStory_of_handle (row := .accept h) (handle := DeskArgs.handle) (key := Prod.fst) rfl (DeskArgs.check_isSome _)
      (fun _ => DeskArgs.check_handle) (fun _ => ⟨_, rfl⟩) taken inRange is missing
  | decline h' a' =>
    cases named
    obtain ⟨a', rfl, rfl⟩ := Option.map_eq_some_iff.1 story
    exact State.noStory_of_handle (row := .decline h) (handle := DeclineArgs.handle) (key := Prod.fst) rfl (DeclineArgs.check_isSome _)
      (fun _ => DeclineArgs.check_handle) (fun _ => ⟨_, rfl⟩) taken inRange is missing
  | withdraw h' a' =>
    cases named
    obtain ⟨a', rfl, rfl⟩ := Option.map_eq_some_iff.1 story
    exact State.noStory_of_handle (row := .withdraw h) (handle := DeskArgs.handle) (key := Prod.fst) rfl (DeskArgs.check_isSome _)
      (fun _ => DeskArgs.check_handle) (fun _ => ⟨_, rfl⟩) taken inRange is missing
  | watch h' a' =>
    cases named
    obtain ⟨a', rfl, rfl⟩ := Option.map_eq_some_iff.1 story
    exact State.noStory_of_handle (row := .watch h) (handle := ScreenArgs.handle) (key := Prod.snd) rfl (ScreenArgs.check_isSome _)
      (fun _ => ScreenArgs.check_handle) (fun _ => ⟨_, rfl⟩) taken inRange is missing
  | unwatch h' a' =>
    cases named
    obtain ⟨a', rfl, rfl⟩ := Option.map_eq_some_iff.1 story
    exact State.noStory_of_handle (row := .unwatch h) (handle := ScreenArgs.handle) (key := Prod.snd) rfl (ScreenArgs.check_isSome _)
      (fun _ => ScreenArgs.check_handle) (fun _ => ⟨_, rfl⟩) taken inRange is missing
  | _ => cases story

end Sys2Proof.Machine
end

section
/-! SUPPORT. Each block's own refusals, in the order of its checks (spec/01, spec/03, spec/04, spec/07). -/

namespace Sys2Proof.Machine

namespace Switch

section
variable {s : Switch} {h : Head}

theorem isGuarded_of (guarded : (s.ports.get h.port).standing = .guarded) : s.isGuarded h.port = true := beq_iff_eq.2 guarded

/-! ### FILE (R6, R7) -/

theorem exists_lowestVacant {j : SlotId} (vacant : (s.slots.get j).story = none) : ∃ i, s.lowestVacant = some i := by
  refine Option.ne_none_iff_exists'.1 fun none => ?_
  have taken := (Bank.head?_indices_eq_none _ _).1 none j
  rw [vacant] at taken
  cases taken

theorem slugHolder_isSome {slug : List Byte} {j : SlotId} {st : Story} (own : (s.slots.get j).story = some st) (same : st.slug = slug) :
    (s.slugHolder slug).isSome = true :=
  Option.isSome_iff_ne_none.2 fun none => (slugHolder_eq_none s slug).1 none j st own same

variable {f : FileParams}

theorem fileCommand_of_guarded (guarded : (s.ports.get h.port).standing = .guarded) : fileCommand h f s = s.refuse h .portGuarded :=
  if_pos (isGuarded_of guarded)

theorem fileCommand_of_stranger (active : (s.ports.get h.port).standing = .active) (right : ¬s.hasRight h.port f.owner) :
    fileCommand h f s = s.refuse h .notPermitted :=
  (if_neg (not_guarded active)).trans (withRight_of_not_hasRight right _)

section
variable (active : (s.ports.get h.port).standing = .active) (right : s.hasRight h.port f.owner)
include active right

theorem fileCommand_of_held {j : SlotId} {st : Story} (own : (s.slots.get j).story = some st) (same : st.slug = f.slug) :
    fileCommand h f s = s.refuse h .duplicate :=
  (if_neg (not_guarded active)).trans ((withRight_of_hasRight right _).trans (if_pos (slugHolder_isSome own same)))

variable (unheld : ∀ j st, (s.slots.get j).story = some st → st.slug ≠ f.slug)
include unheld

theorem fileCommand_of_full (full : ∀ j, (s.slots.get j).story ≠ none) : fileCommand h f s = s.refuse h .tooMany := by
  unfold fileCommand
  rw [if_neg (not_guarded active), withRight_of_hasRight right, if_neg (by rw [(slugHolder_eq_none s f.slug).2 unheld]; nofun),
    lowestVacant_eq_none full]

theorem fileCommand_of_vacant {j : SlotId} (vacant : (s.slots.get j).story = none) : ∃ i, fileCommand h f s =
    if s.tooTightFor f.urgency then s.refuse h .storeTight
    else if s.available < blocksFor f.length then s.refuse h .storeFull
    else s.takeFile h f i := by
  obtain ⟨i, lowest⟩ := exists_lowestVacant vacant
  refine ⟨i, ?_⟩
  unfold fileCommand
  rw [if_neg (not_guarded active), withRight_of_hasRight right, if_neg (by rw [(slugHolder_eq_none s f.slug).2 unheld]; nofun), lowest]

theorem fileCommand_of_tight {j : SlotId} (vacant : (s.slots.get j).story = none) (tight : s.store.tight = true) (routine : f.urgency = .routine) :
    fileCommand h f s = s.refuse h .storeTight := by
  obtain ⟨i, work⟩ := fileCommand_of_vacant active right unheld vacant
  exact work.trans (if_pos ((tooTightFor_iff s f.urgency).2 ⟨tight, routine⟩))

theorem fileCommand_of_short {j : SlotId} (vacant : (s.slots.get j).story = none) (easy : ¬(s.store.tight = true ∧ f.urgency = .routine))
    (short : s.available < blocksFor f.length) : fileCommand h f s = s.refuse h .storeFull := by
  obtain ⟨i, work⟩ := fileCommand_of_vacant active right unheld vacant
  exact work.trans ((if_neg (by rwa [tooTightFor_iff])).trans (if_pos short))

end

/-! ### The right over a story and over a page (R5, R118) -/

theorem onPage_of_undefined {q : PageId} (undefined : s.groups.clock.pages.get q = none) (k : PageDef → Switch) :
    s.onPage h q k = s.refuse h .noPage := by
  unfold onPage
  rw [pageDef_def, undefined]

theorem onPage_of_stranger {q : PageId} {d : PageDef} (defined : s.groups.clock.pages.get q = some d) (right : ¬s.hasRight h.port d.owner)
    (k : PageDef → Switch) : s.onPage h q k = s.refuse h .notPermitted := by
  unfold onPage
  rw [pageDef_def, defined]
  exact withRight_of_not_hasRight right _

variable {k : Handle} {st : Story}

theorem onStory_stranger (found : s.story k = some st) (right : ¬s.hasRight h.port st.owner) (f : Story → Switch) :
    s.onStory h k (fun st => s.withRight h st.owner (f st)) = s.refuse h .notPermitted :=
  (onStory_some found h _).trans (withRight_of_not_hasRight right _)

/-! ### CHECKOUT and CHECKIN (R41 to R43, R46) -/

theorem checkoutCommand_of_guarded (found : s.story k = some st) (guarded : (s.ports.get h.port).standing = .guarded) (n : ScreenNo) :
    checkoutCommand h (n, k) s = s.refuse h .portGuarded :=
  (onStory_some found h _).trans (if_pos (isGuarded_of guarded))

theorem checkoutCommand_of_stranger (found : s.story k = some st) (active : (s.ports.get h.port).standing = .active)
    (right : ¬s.hasRight h.port st.owner) (n : ScreenNo) : checkoutCommand h (n, k) s = s.refuse h .notPermitted :=
  (onStory_some found h _).trans ((if_neg (not_guarded active)).trans (withRight_of_not_hasRight right _))

theorem checkoutCommand_of_busy (found : s.story k = some st) (active : (s.ports.get h.port).standing = .active)
    (right : s.hasRight h.port st.owner) (n : ScreenNo)
    (busy : st.status = .filing ∨ (∃ o, st.status = .offered o) ∨ (∃ b, st.status = .spiked b)) :
    checkoutCommand h (n, k) s = s.refuse h .storyBusy := by
  refine (onStory_some found h _).trans ((if_neg (not_guarded active)).trans ((withRight_of_hasRight right _).trans ?_))
  dsimp only
  rcases busy with e | ⟨o, e⟩ | ⟨b, e⟩
  all_goals rw [e]

theorem victim_eq_none (held : ∀ v ∈ st.versions.dropLast, v.pins ≠ 0 ∨ v.retiring = true) : st.victim = none := by
  refine List.find?_eq_none.2 fun v mem => ?_
  simpa [← not_or, or_iff_not_imp_left] using held v mem

section
variable {c : CheckinParams} {l : Lock} (found : s.story c.handle = some st) (opened : st.status = .opened l)
  (holder : l.holder = { port := h.port, number := c.screen })
include found opened holder

theorem checkinCommand_of_tight (tight : s.store.tight = true) (routine : st.urgency = .routine) :
    checkinCommand h c s = s.refuse h .storeTight :=
  (onStory_some found h _).trans
    ((asHolder_of_lock opened holder _).trans (if_pos ((tooTightFor_iff s st.urgency).2 ⟨tight, routine⟩)))

variable (easy : ¬(s.store.tight = true ∧ st.urgency = .routine))
include easy

theorem checkinCommand_of_short (short : s.available < blocksFor c.length) : checkinCommand h c s = s.refuse h .storeFull :=
  (onStory_some found h _).trans
    ((asHolder_of_lock opened holder _).trans ((if_neg (by rwa [tooTightFor_iff])).trans (if_pos short)))

theorem checkinCommand_of_pinned (room : ¬s.available < blocksFor c.length) (full : st.versions.length = 4)
    (held : ∀ v ∈ st.versions.dropLast, v.pins ≠ 0 ∨ v.retiring = true) : checkinCommand h c s = s.refuse h .versionsPinned := by
  refine (onStory_some found h _).trans ((asHolder_of_lock opened holder _).trans ((if_neg (by rwa [tooTightFor_iff])).trans ((if_neg room).trans ?_)))
  rw [victim_eq_none held]
  exact if_pos full

end

/-! ### OFFER, ACCEPT, DECLINE and WITHDRAW (R61 to R67) -/

theorem onOffer_of_gone {d : DeskId} (gone : ∀ o, st.status = .offered o → o.target ≠ d) (f : Offer → Switch) :
    s.onOffer h st d f = s.refuse h .offerGone := by
  unfold onOffer
  split
  · next o offered => exact if_neg (gone o offered)
  all_goals rfl

theorem servingDesk_of_other {d : DeskId} (other : s.groups.ports.serving.get d ≠ some h.port) (t : Switch) :
    s.servingDesk h d t = s.refuse h .notPermitted := if_neg fun serves => other (beq_iff_eq.1 serves)

theorem offerTarget_of_owner (st : Story) : offerTarget st (some st.owner) = .error .sameDesk := if_pos rfl

theorem offerTarget_of_no_route (own : ∀ d ∈ st.route, d = st.owner) : offerTarget st none = .error .noRoute := by
  have dropped : st.route.dropWhile (· == st.owner) = [] := List.dropWhile_eq_nil_iff.2 fun d mem => beq_iff_eq.2 (own d mem)
  unfold offerTarget
  dsimp only
  rw [dropped]

variable {o : OfferParams}

theorem offerCommand_of_guarded (found : s.story o.handle = some st) (guarded : (s.ports.get h.port).standing = .guarded) :
    offerCommand h o s = s.refuse h .portGuarded :=
  (onStory_some found h _).trans (if_pos fun active => by cases guarded.symm.trans active)

section
variable (found : s.story o.handle = some st) (active : (s.ports.get h.port).standing = .active)
include found active

theorem offerCommand_of_stranger (right : ¬s.hasRight h.port st.owner) : offerCommand h o s = s.refuse h .notPermitted :=
  (onStory_some found h _).trans ((if_neg fun off => off active).trans (withRight_of_not_hasRight right _))

variable (right : s.hasRight h.port st.owner)
include right

theorem offerCommand_of_busy (busy : st.status ≠ .filed) : offerCommand h o s = s.refuse h .storyBusy :=
  (onStory_some found h _).trans ((if_neg fun off => off active).trans ((withRight_of_hasRight right _).trans (if_pos busy)))

variable (filed : st.status = .filed)
include filed

theorem offerCommand_of_error {code : Code} (aim : offerTarget st o.target = .error code) : offerCommand h o s = s.refuse h code := by
  refine (onStory_some found h _).trans
    ((if_neg fun off => off active).trans ((withRight_of_hasRight right _).trans ((if_neg fun off => off filed).trans ?_)))
  rw [aim]

theorem offerCommand_of_no_desk {target : DeskId} {route : List DeskId} (aim : offerTarget st o.target = .ok (target, route))
    (unattended : ∀ p, s.groups.ports.serving.get target = some p → (s.ports.get p).standing = .detached) :
    offerCommand h o s = s.refuse h .noDesk := by
  refine (onStory_some found h _).trans
    ((if_neg fun off => off active).trans ((withRight_of_hasRight right _).trans ((if_neg fun off => off filed).trans ?_)))
  rw [aim]
  dsimp only
  split
  · rfl
  · next p serving => exact if_pos (beq_iff_eq.2 (unattended p serving))

end

/-! ### PLACE and UNPLACE (R118, R120, R121) -/

theorem placeCommand_of_far {c : PlaceParams} {n : Nat} (position : c.position = some n) (far : (s.pages.get c.page).layout.length < n) :
    placeCommand h c s = s.refuse h .badParam := by
  unfold placeCommand
  rw [position]
  exact if_pos far

theorem placeCommand_of_near {c : PlaceParams} (near : ∀ n, c.position = some n → n ≤ (s.pages.get c.page).layout.length) :
    placeCommand h c s = s.onPage h c.page fun _ => s.onStory h c.handle fun _ =>
      if 16 ≤ (s.pages.get c.page).layout.length then s.refuse h .tooMany
      else s.layOut h c.page
        ((s.pages.get c.page).layout.insertIdx (c.position.getD (s.pages.get c.page).layout.length) { handle := c.handle, frame := c.frame }) := by
  refine if_neg (Nat.not_lt_of_le ?_)
  cases position : c.position with
  | none => exact Nat.le_refl _
  | some n => exact near n position

theorem unplaceCommand_of_far {q : PageId} {n : Nat} (far : (s.pages.get q).layout.length ≤ n) :
    unplaceCommand h (q, n) s = s.refuse h .badParam := if_pos far

theorem unplaceCommand_of_near {q : PageId} {n : Nat} (near : n < (s.pages.get q).layout.length) :
    unplaceCommand h (q, n) s = s.onPage h q fun _ => s.layOut h q ((s.pages.get q).layout.eraseIdx n) := if_neg (Nat.not_le_of_lt near)

end

end Switch

open Switch in
/-- Settles O5: the parameters and the story before all else, and then each block's checks, every one with those before it passed. -/
theorem blocksRefuseInTheirOrder : Obligations.BlocksRefuseInTheirOrder := by
  intro s h
  dsimp only
  refine ⟨fun i c named taken => ⟨State.answers_badParam named taken, fun a k inRange story is missing =>
      State.answers_noStory named taken inRange story is missing⟩,
    fun a f taken checked => ⟨fun guarded => State.refuses taken checked (fileCommand_of_guarded (s := s.sw.quietly) guarded),
      fun active right => State.refuses taken checked (fileCommand_of_stranger (s := s.sw.quietly) active right),
      fun active right => ⟨fun ⟨j, st, own, same⟩ => State.refuses taken checked (fileCommand_of_held (s := s.sw.quietly) active right own same),
        fun unheld => ⟨fun full => State.refuses taken checked (fileCommand_of_full (s := s.sw.quietly) active right unheld full),
          fun j vacant => ⟨fun tight routine =>
              State.refuses taken checked (fileCommand_of_tight (s := s.sw.quietly) active right unheld vacant tight routine),
            fun easy short => State.refuses taken checked (fileCommand_of_short (s := s.sw.quietly) active right unheld vacant easy short)⟩⟩⟩⟩,
    fun k st found => ⟨fun right => ⟨?reclassifyStranger, ?routeStranger, ?spikeStranger, ?restoreStranger⟩, ?reclassifyBusy, ?checkoutOrder,
      ?checkinOrder, ?offerOrder, fun d => ⟨?acceptOrder, ?declineOrder, ?withdrawOrder⟩⟩,
    ?placeOrder, ?unplaceOrder, ?releaseOrder, ?recallOrder⟩
  case reclassifyStranger =>
    rintro a r taken checked rfl
    exact State.refuses taken checked (onStory_stranger (s := s.sw.quietly) found right _)
  case routeStranger => exact fun a plan taken checked => State.refuses taken checked (onStory_stranger (s := s.sw.quietly) found right _)
  case spikeStranger => exact fun a taken checked => State.refuses taken checked (onStory_stranger (s := s.sw.quietly) found right _)
  case restoreStranger => exact fun a taken checked => State.refuses taken checked (onStory_stranger (s := s.sw.quietly) found right _)
  case reclassifyBusy =>
    rintro a r taken checked rfl right busy
    refine State.refuses taken checked ((onStory_right found right _).trans (unlessFilingOrSpiked_of_busy (s := s.sw.quietly) ?_ _))
    rcases busy with e | ⟨b, e⟩
    · exact Or.inl e
    · cases b
      · exact Or.inr (Or.inl e)
      · exact Or.inr (Or.inr e)
  case checkoutOrder =>
    exact fun a n taken checked => ⟨fun guarded => State.refuses taken checked (checkoutCommand_of_guarded (s := s.sw.quietly) found guarded n),
      fun active right => State.refuses taken checked (checkoutCommand_of_stranger (s := s.sw.quietly) found active right n),
      fun active right busy => State.refuses taken checked (checkoutCommand_of_busy (s := s.sw.quietly) found active right n busy)⟩
  case checkinOrder =>
    rintro a c taken checked rfl
    exact ⟨fun other => State.refuses taken checked (onStory_other found other _),
      fun l opened holder => ⟨fun tight routine =>
          State.refuses taken checked (checkinCommand_of_tight (s := s.sw.quietly) found opened holder tight routine),
        fun easy => ⟨fun short => State.refuses taken checked (checkinCommand_of_short (s := s.sw.quietly) found opened holder easy short),
          fun room full held =>
            State.refuses taken checked (checkinCommand_of_pinned (s := s.sw.quietly) found opened holder easy room full held)⟩⟩⟩
  case offerOrder =>
    rintro a c taken checked rfl
    refine ⟨fun guarded => State.refuses taken checked (offerCommand_of_guarded (s := s.sw.quietly) found guarded),
      fun active right => State.refuses taken checked (offerCommand_of_stranger (s := s.sw.quietly) found active right),
      fun active right => ⟨fun busy => State.refuses taken checked (offerCommand_of_busy (s := s.sw.quietly) found active right busy),
        fun filed => ⟨fun named => ?_, fun unnamed own => ?_, fun d aim unattended => ?_⟩⟩⟩
    · exact State.refuses taken checked
        (offerCommand_of_error (s := s.sw.quietly) found active right filed (named ▸ offerTarget_of_owner st))
    · exact State.refuses taken checked
        (offerCommand_of_error (s := s.sw.quietly) found active right filed (unnamed ▸ offerTarget_of_no_route own))
    · have aimed : ∃ route, offerTarget st c.target = .ok (d, route) := by
        rcases aim with ⟨named, other⟩ | ⟨unnamed, other, passed, rest, own, plan⟩
        · exact ⟨_, named ▸ offerTarget_of_named other⟩
        · exact ⟨_, unnamed ▸ offerTarget_of_route other own plan⟩
      obtain ⟨route, aimed⟩ := aimed
      exact State.refuses taken checked (offerCommand_of_no_desk (s := s.sw.quietly) found active right filed aimed unattended)
  case acceptOrder =>
    exact fun a taken checked => ⟨fun other =>
        State.refuses taken checked ((onStory_found found _).trans (servingDesk_of_other (s := s.sw.quietly) other _)),
      fun serves gone => State.refuses taken checked
        ((onStory_found found _).trans ((servingDesk_of_serves (s := s.sw.quietly) serves _).trans (onOffer_of_gone gone _)))⟩
  case declineOrder =>
    exact fun a note taken checked => ⟨fun other =>
        State.refuses taken checked ((onStory_found found _).trans (servingDesk_of_other (s := s.sw.quietly) other _)),
      fun serves gone => State.refuses taken checked
        ((onStory_found found _).trans ((servingDesk_of_serves (s := s.sw.quietly) serves _).trans (onOffer_of_gone gone _)))⟩
  case withdrawOrder =>
    exact fun a taken checked => ⟨fun right => State.refuses taken checked (onStory_stranger (s := s.sw.quietly) found right _),
      fun right gone => State.refuses taken checked ((onStory_right found right _).trans (onOffer_of_gone gone _))⟩
  case placeOrder =>
    refine fun a c taken checked => ⟨fun n position far => State.refuses taken checked (placeCommand_of_far (s := s.sw.quietly) position far),
      fun near => ?_⟩
    have work : placeCommand h c s.sw.quietly = _ := placeCommand_of_near near
    refine ⟨fun undefined => State.refuses taken checked (work.trans (onPage_of_undefined (s := s.sw.quietly) undefined _)),
      fun d defined => ⟨fun right => State.refuses taken checked (work.trans (onPage_of_stranger (s := s.sw.quietly) defined right _)),
        fun right => ?_⟩⟩
    replace work := work.trans (onPage_of_right (s := s.sw.quietly) defined right _)
    refine ⟨fun missing => State.refuses taken checked (work.trans (onStory_none (s := s.sw.quietly) missing h _)), fun there full => ?_⟩
    obtain ⟨st, found⟩ := Option.ne_none_iff_exists'.1 there
    exact State.refuses taken checked (work.trans ((onStory_found found _).trans (if_pos full)))
  case unplaceOrder =>
    refine fun a q n taken checked => ⟨fun far => State.refuses taken checked (unplaceCommand_of_far (s := s.sw.quietly) far), fun near => ?_⟩
    have work : unplaceCommand h (q, n) s.sw.quietly = _ := unplaceCommand_of_near near
    exact ⟨fun undefined => State.refuses taken checked (work.trans (onPage_of_undefined (s := s.sw.quietly) undefined _)),
      fun d defined right => State.refuses taken checked (work.trans (onPage_of_stranger (s := s.sw.quietly) defined right _))⟩
  case releaseOrder =>
    exact fun a q rush taken checked => ⟨fun undefined => State.refuses taken checked (onPage_of_undefined (s := s.sw.quietly) undefined _),
      fun d defined right => State.refuses taken checked (onPage_of_stranger (s := s.sw.quietly) defined right _)⟩
  case recallOrder =>
    exact fun b q taken number => ⟨fun undefined =>
        State.refuses taken (below_eq number) (onPage_of_undefined (s := s.sw.quietly) undefined _),
      fun d defined right => State.refuses taken (below_eq number) (onPage_of_stranger (s := s.sw.quietly) defined right _)⟩

end Sys2Proof.Machine
end
